-- ==== Sys2Proof/Word.lean ====
section
/-! DEFINITION. The words the part's frames are made of (spec/11_frame_and_table_formats.md). -/

namespace Sys2Proof

/-- One byte of a frame, a table entry or a status record. -/
abbrev Byte := BitVec 8

/-- A 16-bit field: a stream ID, a management identifier, a request tag, station flags. -/
abbrev Half := BitVec 16

/-- A 32-bit field: a source tag, a destination tag, a written Engine Parameter value. -/
abbrev Word := BitVec 32

/-- One bit for each of the 256 stream contexts: an awaited set, an arrived set, the pending map. -/
abbrev CtxSet := BitVec 256

end Sys2Proof
end

