-- ==== Sys2Proof/Syntax.lean ====
section
/-! DEFINITION. The commands: one constructor of Instr for each row of spec/opcode_table.json, in the table's order. -/

namespace Sys2Proof

/-- The two ingress frame links (R54). -/
inductive Link where
  | a
  | b
deriving DecidableEq, Repr

/-- A polarity of the PPS line's transition, and the values of the active PPS edge parameter (R20). -/
inductive PpsEdge where
  | rising
  | falling
deriving DecidableEq, Repr

/-- The two window limits (R112). -/
inductive WindowLimit where
  | wMin
  | wMax
deriving DecidableEq, Repr

/-- The two pool watermarks (R107). -/
inductive Watermark where
  | wm1
  | wm2
deriving DecidableEq, Repr

/-- The two holdover parameters (R26). -/
inductive HoldoverParam where
  | hMax
  | drift
deriving DecidableEq, Repr

/-- What every directive carries beside its own fields: the source tag the interface gave its frame, and its request
tag (11.4). -/
structure Request where
  source : Word
  tag : Half
deriving DecidableEq, Repr

/-- The fields of a WRITE_ENTRIES after its table: start, count, step byte and entry data (11.4). -/
structure Transfer where
  start : Half
  count : Byte
  step : Byte
  data : List Byte
deriving DecidableEq, Repr

/-- The commands of the part. An operand `after` is the oscillator time, in nanoseconds, that passes before the
stimulus from outside arrives (log entry 3). A command that stands for a directive carries the fields of that directive
(log entry 2). -/
inductive Instr where
  /-- POWER_ON_RESET (R18), with the value of the four address-select pins at that reset (R161). -/
  | powerOnReset (pins : BitVec 4)
  /-- FRAME_ARRIVAL (R54). -/
  | frameArrival (after : Nat) (link : Link) (source : Word) (frame : List Byte)
  /-- FRAME_TAKE (R57). -/
  | frameTake
  /-- PLACEMENT_REQUEST (R91). -/
  | placementRequest
  /-- INSTANT_EVENT (R88). -/
  | instantEvent
  /-- DEADLINE_EXPIRY (R98) of slot g. -/
  | deadlineExpiry (g : Nat)
  /-- COMPOSITION_STEP (R128). -/
  | compositionStep
  /-- HOLD_EXPIRY (R133) of one profile. -/
  | holdExpiry (profile : Fin 8)
  /-- READY_INDICATION (R143). -/
  | readyIndication (after : Nat)
  /-- COMPLETION_INDICATION (R146). -/
  | completionIndication (after : Nat)
  /-- TOD_MESSAGE (R19): the bytes on the ToD line, normally eight (R172). -/
  | todMessage (after : Nat) (bytes : List Byte)
  /-- PPS_EDGE (R20): a transition of the PPS line. -/
  | ppsEdge (after : Nat) (polarity : PpsEdge)
  /-- EDGE_TIMER_EXPIRY (R22). -/
  | edgeTimerExpiry
  /-- HOLDOVER_SECOND (R26). -/
  | holdoverSecond
  /-- DIRECTIVE_TAKE (R153). -/
  | directiveTake
  /-- READ_ENTRIES (R158). -/
  | readEntries (r : Request) (table : Byte) (start : Half) (count : Byte) (step : Byte)
  /-- WRITE_STREAM_MAP (R40). -/
  | writeStreamMap (r : Request) (t : Transfer)
  /-- WRITE_STREAM_CONTEXTS (R42). -/
  | writeStreamContexts (r : Request) (t : Transfer)
  /-- WRITE_CHANNEL_CONVERSION (R71). -/
  | writeChannelConversion (r : Request) (t : Transfer)
  /-- WRITE_PROFILES (R124). -/
  | writeProfiles (r : Request) (t : Transfer)
  /-- WRITE_MEMBER_LISTS (R125). -/
  | writeMemberLists (r : Request) (t : Transfer)
  /-- WRITE_MANAGERS (R155). -/
  | writeManagers (r : Request) (t : Transfer)
  /-- WRITE_ACCESS (R156). -/
  | writeAccess (r : Request) (t : Transfer)
  /-- WRITE_OUTPUT_RATE (R160). -/
  | writeOutputRate (r : Request) (value : Word)
  /-- WRITE_MAP_SELECT (R36). -/
  | writeMapSelect (r : Request) (value : Word)
  /-- WRITE_MANAGEMENT_IDENTIFIER (R161). -/
  | writeManagementIdentifier (r : Request) (value : Word)
  /-- WRITE_PPS_EDGE (R20). -/
  | writePpsEdge (r : Request) (value : Word)
  /-- WRITE_C_SAT (R49). -/
  | writeCSat (r : Request) (value : Word)
  /-- WRITE_WINDOW_LIMITS (R112): Wmin or Wmax. -/
  | writeWindowLimits (r : Request) (limit : WindowLimit) (value : Word)
  /-- WRITE_W0 (R112). -/
  | writeW0 (r : Request) (value : Word)
  /-- WRITE_ADAPTATION (R113). -/
  | writeAdaptation (r : Request) (value : Word)
  /-- WRITE_W_Q (R113). -/
  | writeWq (r : Request) (value : Word)
  /-- WRITE_WATERMARK (R107): WM1 or WM2. -/
  | writeWatermark (r : Request) (mark : Watermark) (value : Word)
  /-- WRITE_HOLDOVER_PARAMETER (R26): Hmax or the drift bound. -/
  | writeHoldoverParameter (r : Request) (param : HoldoverParam) (value : Word)
  /-- WRITE_HOLD_LIMIT (R133). -/
  | writeHoldLimit (r : Request) (value : Word)
  /-- WRITE_ENGINE_PARAMETER (R159): the Engine Parameters entry of any index. -/
  | writeEngineParameter (r : Request) (index : Half) (value : Word)
  /-- BIND_STREAM (R38). -/
  | bindStream (r : Request) (context : Half) (streamId : Half)
  /-- UNBIND_STREAM (R39). -/
  | unbindStream (r : Request) (context : Half)
  /-- STREAM_ENABLE (R43): SET_STREAM_STATE with the enable option. -/
  | streamEnable (r : Request) (context : Half)
  /-- STREAM_DISABLE (R44): SET_STREAM_STATE with the disable option. -/
  | streamDisable (r : Request) (context : Half)
  /-- ENABLE_PROFILE (R126). -/
  | enableProfile (r : Request) (profile : Half)
  /-- DISABLE_PROFILE (R127). -/
  | disableProfile (r : Request) (profile : Half)
  /-- RESUME (R162). -/
  | resume (r : Request)
  /-- PAUSE (R164). -/
  | pause (r : Request)
  /-- PAUSE_NOW (R106). -/
  | pauseNow (r : Request)
  /-- ENGINE_RESET (R165). -/
  | engineReset (r : Request)
  /-- SCRUB_COMPLETION (R165). -/
  | scrubCompletion
  /-- FLUSH_BATCHES (R134). -/
  | flushBatches (r : Request)
  /-- CLEAR_COUNTERS (R166). -/
  | clearCounters (r : Request)
  /-- LOCK_CONFIG (R157). -/
  | lockConfig (r : Request)
  /-- READ_STATUS (R167) without the clear option. -/
  | readStatus (r : Request) (selector : Byte)
  /-- READ_STATUS_CLEAR (R167): READ_STATUS with the clear option. -/
  | readStatusClear (r : Request) (selector : Byte)
deriving DecidableEq, Repr

end Sys2Proof
end

