-- ==== Sys2Proof/Config.lean ====
section
/-! DEFINITION. The free values: what the manual leaves unstated. Each is an opaque constant, so nothing in Lean
can evaluate it; it is applied to the number of the event that reads it (the field free of State). -/

namespace Sys2Proof.Config

/-- What the checks of orders 3 and 4 of R154 read at an offset (9 to 15) that a directive of fewer than 16 bytes
does not hold: `absentByte event offset`. R171 does not state it. DESIGN CHOICE: free (log entry 8). -/
opaque absentByte : Nat → Nat → Byte

/-- Whether the EGRESS record rounds up the microseconds of an age that is no whole number of them. 11.7 states no
rounding. DESIGN CHOICE: free (log entry 9). -/
opaque ageRoundsUp : Nat → Bool

/-- The EGRESS record's age field when the oldest entry's age does not fit its four bytes. DESIGN CHOICE: free
(log entry 9). -/
opaque ageOverflow : Nat → Word

/-- The stream ID field of a read Stream Contexts entry whose context is unbound: `unboundId event context`. R173 does
not state it. DESIGN CHOICE: free (log entry 10). -/
opaque unboundId : Nat → Nat → Half

/-- The E field of a read Stream Contexts entry whose expected next slot is unset. DESIGN CHOICE: free (log entry 10). -/
opaque unsetExpected : Nat → Nat → BitVec 48

/-- The Glast field of a read Stream Contexts entry whose highest accepted slot is unset. DESIGN CHOICE: free
(log entry 10). -/
opaque unsetHighest : Nat → Nat → BitVec 48

end Sys2Proof.Config
end

