-- ==== Sys2Proof/Machine/State.lean ====
section
/-! DEFINITION. The state of the part, block by block, as plain data, and its value right after power-on reset. -/

namespace Sys2Proof.Machine

/-! ### Tables -/

/-- A table of the part, sparse: (index, entry) pairs with rising indices, holding no entry equal to the table's
power-on entry (the canonical form that `Tbl.wf` states). An unlisted index reads as the power-on entry. -/
abbrev Tbl (α : Type) := List (Nat × α)

/-! ### Local Time Reference (chapter 2) -/

/-- The TRU states of 2.1, in the order that gives their codes (11.7). -/
inductive TruState where
  | unset
  | acquiring
  | locked
  | holdover
  | freerun
deriving DecidableEq, Repr

/-- The observation counts of R33, in its order. -/
structure TruCounts where
  unqualifiedEdges : Nat := 0
  mismatchedEdges : Nat := 0
  edgeTimeouts : Nat := 0
  rejectedTod : Nat := 0
  holdoverEntries : Nat := 0
  slewedRelocks : Nat := 0
  steppedRelocks : Nat := 0
  timeSteps : Nat := 0
deriving DecidableEq, Repr

/-- The Time Reference Unit (2.1, R172). -/
structure Tru where
  /-- The oscillator's reading, in nanoseconds since power-on reset. -/
  osc : Nat := 0
  /-- Local time as nanoseconds since second 0 of grid time: its seconds times 10^9 plus its nanoseconds (R18). -/
  now : Nat := 0
  state : TruState := .unset
  /-- The held announcement, in seconds. -/
  held : Option Nat := none
  clockQuality : Nat := 15
  qualified : Nat := 0
  unqualifiedRun : Nat := 0
  mismatchRun : Nat := 0
  /-- The oscillator reading at the last edge taken. -/
  prevEdge : Option Nat := none
  /-- The oscillator reading from which the edge timer runs, or none while it is stopped. -/
  edgeTimer : Option Nat := none
  elapsedHoldover : Nat := 0
  slew : Int := 0
  /-- The model's own: oscillator nanoseconds run since the last nanosecond of slew correction (log entry 5). -/
  slewPhase : Nat := 0
  /-- The model's own: the local second up to which HOLDOVER seconds have been taken (log entry 28). -/
  secondMark : Nat := 0
  nextInstant : Nat := 1
  /-- The bytes of the time-of-day message being received, fewer than eight (R172). -/
  todBuf : List Byte := []
  /-- Whether the TRU hunts for a sync byte (R172). -/
  todHunting : Bool := true
  counts : TruCounts := ({} : TruCounts)
deriving DecidableEq, Repr

/-! ### Engine Parameters (R159) -/

/-- The map select functions (R35), in the order of their codes. -/
inductive MapSelect where
  | low
  | high
  | fold
  | foldrot
deriving DecidableEq, Repr

/-- The Engine Parameters of R159 but for W_q (index 14), which the Window Controller holds, at their power-on values. -/
structure Params where
  rate : Nat := 30
  mapSelect : MapSelect := .fold
  mgmtId : Nat := 0xE000
  lead : Nat := 2
  ppsEdge : PpsEdge := .rising
  cSat : Nat := 8
  cAwait : Nat := 4
  wMin : Nat := 10
  wMax : Nat := 20000
  w0 : Nat := 500
  adaptation : Bool := true
  /-- The late-ratio threshold θ in sixteenths. -/
  theta : Nat := 2
  upStep : Nat := 32
  downStep : Nat := 2
  wm1 : Nat := 1024
  wm2 : Nat := 256
  hMax : Nat := 3600
  drift : Nat := 50
  holdLimit : Nat := 1000
  promotion : Nat := 20
  highBypassMax : Nat := 4
  lowBypassMax : Nat := 8
deriving DecidableEq, Repr

/-! ### Stream Map and Stream Contexts (chapter 3) -/

/-- One binding of the Stream Map (R34). -/
structure Binding where
  streamId : Half
  ctx : Nat
deriving DecidableEq, Repr

/-- A phasor format. -/
inductive Format where
  | rect16
  | rect32
deriving DecidableEq, Repr

/-- An off-grid policy (1.3). -/
inductive Policy where
  | discard
  | snap
deriving DecidableEq, Repr

/-- A context's descriptor (R41, R42); the defaults are the zero descriptor. -/
structure Descriptor where
  format : Format := .rect16
  channels : Nat := 0
  hasFreq : Bool := false
  rate : Nat := 0
  timeBase : Nat := 0
  tolerance : Nat := 0
  policy : Policy := .discard
deriving DecidableEq, Repr

/-- A context's five counters (R52), in order. -/
structure CtxCounts where
  admitted : Nat := 0
  late : Nat := 0
  offGrid : Nat := 0
  duplicate : Nat := 0
  other : Nat := 0
deriving DecidableEq, Repr

/-- One stream context (R41) at its power-on value. -/
structure Ctx where
  desc : Descriptor := ({} : Descriptor)
  binding : Option Half := none
  enabled : Bool := false
  confidence : Nat := 0
  expected : Option Nat := none
  highest : Option Nat := none
  counts : CtxCounts := ({} : CtxCounts)
deriving DecidableEq, Repr

/-! ### Report Intake (chapter 4) -/

/-- A frame in an intake FIFO or the directive queue, with its source tag; its length is the length of its bytes. -/
structure InFrame where
  source : Word
  bytes : List Byte
deriving DecidableEq, Repr

/-- One ingress link (4.1). -/
structure LinkIn where
  fifo : List InFrame := []
  received : Nat := 0
  oversize : Nat := 0
  overflow : Nat := 0
  overflowFlag : Bool := false
deriving DecidableEq, Repr

/-- The nineteen device-wide counts of R68, in its order. -/
inductive IntakeCount where
  | accepted
  | queued
  | malformed
  | foreign
  | directiveDropped
  | unknownStream
  | disabled
  | layoutMismatch
  | paused
  | noTime
  | resetting
  | tagInvalid
  | offGrid
  | duplicate
  | late
  | future
  | outOfRing
  | drainingClosed
  | poolExhausted
deriving DecidableEq, Repr

/-- The values of the counts of R68, in its order. -/
structure IntakeCounts where
  accepted : Nat := 0
  queued : Nat := 0
  malformed : Nat := 0
  foreign : Nat := 0
  directiveDropped : Nat := 0
  unknownStream : Nat := 0
  disabled : Nat := 0
  layoutMismatch : Nat := 0
  paused : Nat := 0
  noTime : Nat := 0
  resetting : Nat := 0
  tagInvalid : Nat := 0
  offGrid : Nat := 0
  duplicate : Nat := 0
  late : Nat := 0
  future : Nat := 0
  outOfRing : Nat := 0
  drainingClosed : Nat := 0
  poolExhausted : Nat := 0
deriving DecidableEq, Repr

/-- A measurement report as its frame carries it (11.2), its layout checked (R62). -/
structure Report where
  streamId : Half
  format : Format
  channels : Nat
  hasFreq : Bool
  quality : Nat
  seconds : Nat
  ticks : Nat
  flags : Half
  pairs : List (Int × Int)
  freq : Option (Int × Int)
deriving DecidableEq, Repr

/-- A placement request (R66). -/
structure Placement where
  ctx : Nat
  g : Nat
  residual : Int
  offGrid : Bool
  awaitable : Bool
  flags : Half
  quality : Nat
  pairs : List (Int × Int)
  freq : Option (Int × Int)
deriving DecidableEq, Repr

/-- The ingress links and the Intake Unit (chapter 4). -/
structure Intake where
  linkA : LinkIn := ({} : LinkIn)
  linkB : LinkIn := ({} : LinkIn)
  preferred : Link := .a
  /-- The placement request the IU is BUSY with, or none while it is IDLE (R57, R66). -/
  busy : Option Placement := none
  counts : IntakeCounts := ({} : IntakeCounts)
deriving DecidableEq, Repr

/-! ### Phasor Conversion (chapter 5) -/

/-- One Channel Conversion entry (R70) at its power-on value. -/
structure Conversion where
  multiplier : Nat := 0
  shift : Nat := 0
  rotC : Int := 16384
  rotD : Int := 0
deriving DecidableEq, Repr

/-- The contents of one cell (R78); the defaults are the zero contents (R86). -/
structure Cell where
  ctx : Nat := 0
  residual : Int := 0
  offGrid : Bool := false
  flags : Half := 0
  quality : Nat := 0
  pairs : List (Int × Int) := []
  freq : Option (Int × Int) := none
  saturated : Bool := false
deriving DecidableEq, Repr

/-! ### The Alignment Store (chapter 6) -/

/-- The states of a slot record (R84), in the order of their codes. -/
inductive SlotState where
  | free
  | opened
  | complete
  | closed
  | emitting
deriving DecidableEq, Repr

/-- The close causes (R84), in order. -/
inductive Cause where
  | complete
  | deadline
  | forcedPool
  | forcedRing
  | forcedDrain
  | timeStep
deriving DecidableEq, Repr

/-- One slot record (R84); the defaults are a FREE record. -/
structure Slot where
  g : Nat := 0
  state : SlotState := .free
  deadline : Nat := 0
  awaited : CtxSet := 0
  arrived : CtxSet := 0
  /-- The numbers of the slot's cells, in ascending order of context index. -/
  cells : List Nat := []
  sampled : Option (TruState × Nat) := none
  cause : Option Cause := none
deriving DecidableEq, Repr

/-- The close counts (R85), one for each cause. -/
structure CloseCounts where
  complete : Nat := 0
  deadline : Nat := 0
  forcedPool : Nat := 0
  forcedRing : Nat := 0
  forcedDrain : Nat := 0
  timeStep : Nat := 0
deriving DecidableEq, Repr

/-- The Alignment Store (R84 to R86, R76). -/
structure Store where
  /-- The Slot Ring by position 0 to 63. -/
  ring : Tbl Slot := []
  /-- The contents of the Cell Pool by cell number 0 to 4095. -/
  pool : Tbl Cell := []
  /-- The free list, its head first. -/
  freeList : List Nat := List.range 4096
  hLow : Nat := 0
  floor : Nat := 0
  closeCounts : CloseCounts := ({} : CloseCounts)
  composed : Nat := 0
  lowestFree : Nat := 4096
  poolPressure : Bool := false
  ringForced : Bool := false
  scrubbing : Bool := false
  saturatedCells : Nat := 0
deriving DecidableEq, Repr

/-! ### Adaptive Wait Window (chapter 7) -/

/-- The observation counts of R121, in its order. -/
structure WindowCounts where
  evaluations : Nat := 0
  raises : Nat := 0
  lowers : Nat := 0
  holds : Nat := 0
  idle : Nat := 0
  overridden : Nat := 0
deriving DecidableEq, Repr

/-- The Window Controller (R110). -/
structure Window where
  wq : Nat := 8000
  /-- The opening counter j. -/
  j : Nat := 0
  closings : Nat := 0
  late : Nat := 0
  total : Nat := 0
  lastApplied : Nat := 0
  counts : WindowCounts := ({} : WindowCounts)
deriving DecidableEq, Repr

/-! ### Aligned Set Composition (chapter 8) -/

/-- The priority classes (9.2), in the order of their codes. -/
inductive PriorityClass where
  | high
  | medium
  | low
  | variableClass
deriving DecidableEq, Repr

/-- One output profile (R123) at its power-on value. -/
structure Profile where
  enabled : Bool := false
  dest : Word := 0
  base : Nat := 0
  count : Nat := 0
  format : Format := .rect16
  shift : Nat := 0
  inclFreq : Bool := false
  decimation : Nat := 1
  cls : PriorityClass := .medium
  depth : Nat := 0
deriving DecidableEq, Repr

/-- A profile's holding list, oldest set first, and the oscillator reading from which its hold timer runs (R131, R133). -/
structure Holding where
  sets : List (List Byte) := []
  timer : Option Nat := none
deriving DecidableEq, Repr

/-- The frame kinds of the egress queue (R139), in the order of their codes. -/
inductive FrameKind where
  | answer
  | set
  | batch
deriving DecidableEq, Repr

/-- A frame formed for the egress link, with the class and destination tag it was formed with (R140). -/
structure OutFrame where
  bytes : List Byte
  dest : Word
  kind : FrameKind
  cls : PriorityClass
  /-- Whether it is the last batch frame that the flush in progress formed (R134). -/
  endsFlush : Bool := false
deriving DecidableEq, Repr

/-- The slot the Set Composer works on, with the next profile number to consider, 0 to 8 (R128). -/
structure Composing where
  g : Nat
  next : Nat
deriving DecidableEq, Repr

/-- The counts of R138, in its order. -/
structure ComposerCounts where
  sets : Nat := 0
  incomplete : Nat := 0
  batches : Nat := 0
  holdExpiries : Nat := 0
  waits : Nat := 0
deriving DecidableEq, Repr

/-- The Set Composer (chapter 8). -/
structure Composer where
  working : Option Composing := none
  holding : Tbl Holding := []
  /-- The outbound list, the frame on offer first (R132). -/
  outbound : List OutFrame := []
  flushBusy : Bool := false
  counts : ComposerCounts := ({} : ComposerCounts)
deriving DecidableEq, Repr

/-! ### Egress Scheduling (chapter 9) -/

/-- One entry of the egress queue (R139). -/
structure Entry where
  frame : OutFrame
  enqueued : Nat
  bypass : Nat := 0
deriving DecidableEq, Repr

/-- The state of the egress link (9.3); SENDING holds the frame in transmission and whether it was a promoted VARIABLE
frame when it was chosen (R146). -/
inductive LinkState where
  | waiting
  | ready
  | sending (frame : OutFrame) (promoted : Bool)
deriving DecidableEq, Repr

/-- The counts of R152, in its order. -/
structure EgressCounts where
  sent : Nat := 0
  answers : Nat := 0
  sets : Nat := 0
  batches : Nat := 0
  promoted : Nat := 0
  limited : Nat := 0
  shed : Nat := 0
  answerWaits : Nat := 0
  highWater : Nat := 0
deriving DecidableEq, Repr

/-- The Egress Scheduler (chapter 9). -/
structure Egress where
  /-- The egress queue, oldest first. -/
  queue : List Entry := []
  link : LinkState := .waiting
  shedFlag : Bool := false
  /-- Whether the Set Composer is recorded as waiting with the head of its outbound list (R149). -/
  composerWaits : Bool := false
  counts : EgressCounts := ({} : EgressCounts)
deriving DecidableEq, Repr

/-! ### Engine Control and In-Band Management (chapter 10) -/

/-- The engine states (10.5), in the order of their codes. -/
inductive EngineState where
  | paused
  | waitTime
  | running
  | draining
  | resetting
deriving DecidableEq, Repr

/-- The Management Unit's execution state (R153); WAITING holds the answer it waits with. -/
inductive Execution where
  | idle
  | executing
  | waiting (answer : OutFrame)
deriving DecidableEq, Repr

/-- The record kept of a deferred answer (R153). -/
structure Deferred where
  source : Word
  tag : Half
deriving DecidableEq, Repr

/-- One Manager Table entry (R155). -/
structure Manager where
  source : Word := 0
  cls : Nat := 0
  enabled : Bool := false
deriving DecidableEq, Repr

/-- One Access Table entry (R156): the open level and a deny bit for each class. -/
structure Access where
  level : Nat := 0
  deny : BitVec 4 := 0
deriving DecidableEq, Repr

/-- The counts of R167, in its order. -/
structure MgmtCounts where
  executed : Nat := 0
  unknownSource : Nat := 0
  denied : Nat := 0
  locked : Nat := 0
  busy : Nat := 0
deriving DecidableEq, Repr

/-- The Management Unit (chapter 10). -/
structure Mgmt where
  engine : EngineState := .paused
  exec : Execution := .idle
  /-- The directive queue, its head first (R60). -/
  queue : List InFrame := []
  /-- The outstanding deferred ENGINE_RESET answer. -/
  deferredReset : Option Deferred := none
  /-- The outstanding deferred FLUSH_BATCHES answer. -/
  deferredFlush : Option Deferred := none
  /-- Deferred answers formed but not yet offered, because the unit was not IDLE (R153). -/
  formed : List OutFrame := []
  managers : Tbl Manager := []
  access : Tbl Access := []
  lock : Bool := false
  pendingMap : CtxSet := 0
  counts : MgmtCounts := ({} : MgmtCounts)
deriving DecidableEq, Repr

/-! ### Directives and answers (11.4) -/

/-- The outcomes an answer carries (11.4). -/
inductive OutcomeCode where
  | done
  | clamped
  | partialDone
  | denied
  | locked
  | notPaused
  | notRunning
  | busy
  | busyContext
  | badTable
  | badIndex
  | invalidValue
  | bucketFull
  | alreadyBound
  | notBound
  | mapNotEmpty
  | rateMismatch
  | duplicateMember
  | malformed
deriving DecidableEq, Repr

/-- The fifteen directives (11.4). -/
inductive DirectiveCode where
  | readEntries
  | writeEntries
  | bindStream
  | unbindStream
  | setStreamState
  | enableProfile
  | disableProfile
  | resume
  | pause
  | pauseNow
  | engineReset
  | flushBatches
  | clearCounters
  | lockConfig
  | readStatus
deriving DecidableEq, Repr

/-- A directive's fields as the Management Unit reads them (11.4, R171). -/
structure Directive where
  source : Word
  tag : Half
  /-- The length of its frame. -/
  length : Nat
  /-- Byte 8, or none when the frame has none. -/
  code : Option Byte
  /-- Byte 9: table, selector or option. -/
  option : Byte
  /-- Bytes 10 and 11: start index, context index or profile number. -/
  index : Nat
  /-- Byte 12: count, or the clear option. -/
  count : Byte
  /-- Byte 13. -/
  step : Byte
  /-- The bytes from 16 on. -/
  data : List Byte
deriving DecidableEq, Repr

/-- What an answer carries of its directive's execution (11.4, R158). -/
structure Reply where
  outcome : OutcomeCode
  entriesDone : Nat := 0
  /-- The cause at the stopping entry, for PARTIAL. -/
  cause : Option OutcomeCode := none
  /-- Whether an entry before the stopping entry was clamped. -/
  clampedBefore : Bool := false
  data : List Byte := []
deriving DecidableEq, Repr

/-! ### The machine -/

/-- The state of the part, with the queue of commands that wait. -/
structure State where
  tru : Tru := ({} : Tru)
  params : Params := ({} : Params)
  /-- The Stream Map by entry index, bucket × 4 + way (R34, R40). -/
  map : Tbl (Option Binding) := []
  /-- The Stream Context Table (R41). -/
  ctxs : Tbl Ctx := []
  intake : Intake := ({} : Intake)
  /-- The Channel Conversion Table (R70). -/
  conv : Tbl Conversion := []
  store : Store := ({} : Store)
  window : Window := ({} : Window)
  /-- The output profiles (R123). -/
  profiles : Tbl Profile := []
  /-- The Member List Table (R125). -/
  members : Tbl Nat := []
  composer : Composer := ({} : Composer)
  egress : Egress := ({} : Egress)
  mgmt : Mgmt := ({} : Mgmt)
  /-- The model's own: the number of the next event that may read a free value. -/
  free : Nat := 0
  /-- The model's own: the commands that wait, first in, first out. -/
  pending : List Instr := []
deriving DecidableEq, Repr

/-- Why a command may stop the model: no command does. The spec gives every command an effect in every state, and where
it leaves a value open the value is free, so this type has no constructor (log entry 30). -/
inductive Fault where
deriving DecidableEq, Repr

/-- Why a command is refused. -/
inductive Refusal where
  /-- Raised by exec alone, for a command that has no meaning in the model yet; safe. No arm of exec raises it now. -/
  | notModelled (mnemonic : String)
deriving DecidableEq, Repr

/-- The part right after power-on reset with its address-select pins at 0 (R18, R20, R26, R33 to R36, R41, R49, R54, R57, R60,
R64, R69, R70, R76, R84 to R86, R92, R107, R110, R111, R121, R123, R125, R128, R132 to R134, R137 to R139, R141 to
R143, R151, R153, R155, R156, R159, R161, R162, R172), with no command waiting. -/
def State.reset : State := {}

end Sys2Proof.Machine
end

