-- ==== Sys2Proof/Machine/Flags.lean ====
section
/-! DEFINITION. The part's arithmetic: saturating counts, clamping, rounding, saturation, and the time-quality code. -/

namespace Sys2Proof.Machine

/-- Every count kept for observation saturates at 4,294,967,295 (Conventions, 00_scope.md). -/
def countLimit : Nat := 4294967295

/-- One more, saturating at the count limit. -/
def satInc (n : Nat) : Nat := if n < countLimit then n + 1 else countLimit

/-- A value clamped to the nearer end of a range. -/
def clampNat (lo hi v : Nat) : Nat := if v < lo then lo else if hi < v then hi else v

/-- `x / d` rounded to nearest with ties away from zero (R10, R75, R80). -/
def roundDiv (x : Int) (d : Nat) : Int :=
  let m : Nat := (2 * x.natAbs + d) / (2 * d)
  if x < 0 then -(m : Int) else (m : Int)

/-- Saturation to the signed range of `bits` bits (R76, R80, R81). -/
def satSigned (bits : Nat) (x : Int) : Int :=
  let top : Int := 2 ^ (bits - 1)
  if x < -top then -top else if top - 1 < x then top - 1 else x

/-- Whether saturation to `bits` bits changes the value. -/
def saturates (bits : Nat) (x : Int) : Bool := satSigned bits x != x

/-- The quality code of an uncertainty u: the smallest q from 0 to 14 with 100 × 2^q ≥ u, or 15 (R31). -/
def qualityOf (u : Nat) : Nat :=
  ((List.range 15).find? (fun q => decide (u ≤ 100 * 2 ^ q))).getD 15

/-- The largest uncertainty HOLDOVER keeps, the limit of code 14 (R26). -/
def uncertaintyLimit : Nat := 1638400

/-- The uncertainty in HOLDOVER (R31). -/
def holdoverUncertainty (drift elapsed : Nat) : Nat := 100 + drift * elapsed

end Sys2Proof.Machine
end

