-- ==== Sys2Proof/Machine/Operands.lean ====
section
/-! DEFINITION. Fields of frames, messages and table entries: byte order, sign, and the codes of enumerated fields
(chapter 11). -/

namespace Sys2Proof.Machine

/-! ### Big-endian fields (Conventions, 00_scope.md) -/

/-- The k bytes of v, most significant first. -/
def beBytes : Nat → Nat → List Byte
  | 0, _ => []
  | k + 1, v => BitVec.ofNat 8 (v / 256 ^ k) :: beBytes k v

/-- The k bytes of a signed value in two's complement, most significant first. -/
def beInt (k : Nat) (x : Int) : List Byte := beBytes k (x % (256 ^ k : Int)).toNat

/-- The value of bytes read most significant first. -/
def beNat (bs : List Byte) : Nat := bs.foldl (fun a b => a * 256 + b.toNat) 0

/-- The value of a two's complement number of `bits` bits. -/
def signed (bits n : Nat) : Int := if n < 2 ^ (bits - 1) then (n : Int) else (n : Int) - 2 ^ bits

/-- The field of `len` bytes at an offset. -/
def field (bs : List Byte) (off len : Nat) : Nat := beNat ((bs.drop off).take len)

/-- The byte at an offset, or zero past the end. -/
def byteAt (bs : List Byte) (off : Nat) : Byte := bs.getD off 0

/-- One bit as a number. -/
def bit (b : Bool) : Nat := if b then 1 else 0

/-! ### The common header (11.1) -/

/-- The part's marker byte. -/
def marker : Byte := 0xE3

/-- The header check of R58 and R170: 8 bytes at least, the marker, and a total length equal to the length delivered. -/
def headerOk (bs : List Byte) : Bool :=
  decide (8 ≤ bs.length) && byteAt bs 0 == marker && field bs 2 2 == bs.length

/-- The common header of a frame the part emits (R170). -/
def header (kind : Byte) (length ident specific : Nat) : List Byte :=
  marker :: kind :: (beBytes 2 length ++ beBytes 2 ident ++ beBytes 2 specific)

/-- The classes of R59. -/
inductive FrameClass where
  | report
  | directive
  | foreign
deriving DecidableEq, Repr

/-- The classification of R59, by kind and, for a directive, by identifier. -/
def classify (mgmtId : Nat) (bs : List Byte) : FrameClass :=
  if byteAt bs 1 = 0x11 then .report
  else if byteAt bs 1 = 0x31 ∧ field bs 4 2 = mgmtId then .directive
  else .foreign

/-! ### Measurement reports (11.2) -/

/-- The bytes of one phasor part. -/
def partBytes : Format → Nat
  | .rect16 => 2
  | .rect32 => 4

/-- The frame length a report's own header calls for (R62). -/
def reportLength (f : Format) (channels : Nat) (hasFreq : Bool) : Nat :=
  18 + channels * (2 * partBytes f) + (if hasFreq then 8 else 0)

/-- A signed field of `len` bytes at an offset. -/
def signedField (bs : List Byte) (off len : Nat) : Int := signed (8 * len) (field bs off len)

/-- A report's phasor pairs in channel order. -/
def reportPairs (bs : List Byte) (f : Format) (channels : Nat) : List (Int × Int) :=
  let w := partBytes f
  (List.range channels).map fun i =>
    (signedField bs (18 + i * (2 * w)) w, signedField bs (18 + i * (2 * w) + w) w)

/-- A report read from its frame, or none when the layout check of R62 fails. -/
def parseReport (bs : List Byte) : Option Report :=
  let channels := (byteAt bs 6).toNat
  let b7 := byteAt bs 7
  let f : Format := if b7.getLsbD 0 then .rect32 else .rect16
  let hasFreq := b7.getLsbD 1
  let len := bs.length
  if channels ≤ 16 ∧ len = reportLength f channels hasFreq then
    some
      { streamId := BitVec.ofNat 16 (field bs 4 2)
        format := f
        channels := channels
        hasFreq := hasFreq
        quality := b7.toNat / 16
        seconds := field bs 8 4
        ticks := field bs 12 4
        flags := BitVec.ofNat 16 (field bs 16 2)
        pairs := reportPairs bs f channels
        freq := if hasFreq then some (signedField bs (len - 8) 4, signedField bs (len - 4) 4) else none }
  else none

/-! ### Directives and answers (11.4) -/

/-- A directive code byte. -/
def codeByte : DirectiveCode → Byte
  | .readEntries => 0x01
  | .writeEntries => 0x02
  | .bindStream => 0x10
  | .unbindStream => 0x11
  | .setStreamState => 0x12
  | .enableProfile => 0x13
  | .disableProfile => 0x14
  | .resume => 0x20
  | .pause => 0x21
  | .pauseNow => 0x22
  | .engineReset => 0x23
  | .flushBatches => 0x24
  | .clearCounters => 0x25
  | .lockConfig => 0x26
  | .readStatus => 0x30

/-- The directive a code byte names. -/
def codeOf (b : Byte) : Option DirectiveCode :=
  if b = 0x01 then some .readEntries
  else if b = 0x02 then some .writeEntries
  else if b = 0x10 then some .bindStream
  else if b = 0x11 then some .unbindStream
  else if b = 0x12 then some .setStreamState
  else if b = 0x13 then some .enableProfile
  else if b = 0x14 then some .disableProfile
  else if b = 0x20 then some .resume
  else if b = 0x21 then some .pause
  else if b = 0x22 then some .pauseNow
  else if b = 0x23 then some .engineReset
  else if b = 0x24 then some .flushBatches
  else if b = 0x25 then some .clearCounters
  else if b = 0x26 then some .lockConfig
  else if b = 0x30 then some .readStatus
  else none

/-- An outcome's code. -/
def outcomeByte : OutcomeCode → Byte
  | .done => 0x00
  | .clamped => 0x01
  | .partialDone => 0x02
  | .denied => 0x10
  | .locked => 0x11
  | .notPaused => 0x12
  | .notRunning => 0x13
  | .busy => 0x14
  | .busyContext => 0x15
  | .badTable => 0x20
  | .badIndex => 0x21
  | .invalidValue => 0x22
  | .bucketFull => 0x23
  | .alreadyBound => 0x24
  | .notBound => 0x25
  | .mapNotEmpty => 0x26
  | .rateMismatch => 0x27
  | .duplicateMember => 0x28
  | .malformed => 0x30

/-- A directive frame's fields (R171). The bytes 9 to 15 that a shorter frame does not hold read as free values
(log entry 8); `event` numbers the taking. -/
def parseDirective (event : Nat) (f : InFrame) : Directive :=
  let at_ (off : Nat) : Byte := f.bytes.getD off (Config.absentByte event off)
  { source := f.source
    tag := BitVec.ofNat 16 (field f.bytes 6 2)
    length := f.bytes.length
    code := f.bytes[8]?
    option := at_ 9
    index := beNat [at_ 10, at_ 11]
    count := at_ 12
    step := at_ 13
    data := f.bytes.drop 16 }

/-- The step a step byte names (11.4). -/
def stepOf (b : Byte) : Option Int :=
  if b = 0x01 then some 1 else if b = 0xFF then some (-1) else if b = 0x00 then some 0 else none

/-- The size of a table's entries (11.6). -/
def entrySize : Nat → Nat
  | 0 => 4
  | 1 => 8
  | 2 => 48
  | 3 => 8
  | 4 => 16
  | 5 => 2
  | 6 => 8
  | 7 => 2
  | _ => 0

/-- The last index of a table. -/
def lastIndex : Nat → Nat
  | 0 => 22
  | 1 => 1023
  | 2 => 255
  | 3 => 4095
  | 4 => 7
  | 5 => 1023
  | 6 => 3
  | _ => 7

/-! ### Enumerated fields (11.6, 11.7) -/

/-- A yes/no byte. -/
def yesNo (b : Byte) : Option Bool := if b = 0 then some false else if b = 1 then some true else none

/-- A format's code. -/
def formatCode : Format → Nat
  | .rect16 => 0
  | .rect32 => 1

/-- The format a code names. -/
def formatOf (b : Byte) : Option Format := if b = 0 then some .rect16 else if b = 1 then some .rect32 else none

/-- A policy's code. -/
def policyCode : Policy → Nat
  | .discard => 0
  | .snap => 1

/-- The policy a code names. -/
def policyOf (b : Byte) : Option Policy := if b = 0 then some .discard else if b = 1 then some .snap else none

/-- A priority class's code. -/
def classCode : PriorityClass → Nat
  | .high => 0
  | .medium => 1
  | .low => 2
  | .variableClass => 3

/-- The priority class a code names. -/
def classOf (b : Byte) : Option PriorityClass :=
  if b = 0 then some .high else if b = 1 then some .medium else if b = 2 then some .low
  else if b = 3 then some .variableClass else none

/-- A map select function's code. -/
def mapSelectCode : MapSelect → Nat
  | .low => 0
  | .high => 1
  | .fold => 2
  | .foldrot => 3

/-- The map select function a value names. -/
def mapSelectOf (v : Nat) : Option MapSelect :=
  if v = 0 then some .low else if v = 1 then some .high else if v = 2 then some .fold
  else if v = 3 then some .foldrot else none

/-- A PPS edge's code. -/
def ppsEdgeCode : PpsEdge → Nat
  | .rising => 0
  | .falling => 1

/-- The PPS edge a value names. -/
def ppsEdgeOf (v : Nat) : Option PpsEdge := if v = 0 then some .rising else if v = 1 then some .falling else none

/-- The twelve rates of R1. -/
def rates : List Nat := [10, 12, 15, 20, 25, 30, 50, 60, 100, 120, 200, 240]

/-- The code of a TRU state, in the order of 2.1. -/
def truCode : TruState → Nat
  | .unset => 0
  | .acquiring => 1
  | .locked => 2
  | .holdover => 3
  | .freerun => 4

/-- The code of a slot state, in the order of R84. -/
def slotStateCode : SlotState → Nat
  | .free => 0
  | .opened => 1
  | .complete => 2
  | .closed => 3
  | .emitting => 4

/-- The code of a close cause (11.7). -/
def causeCode : Option Cause → Nat
  | none => 0
  | some .complete => 1
  | some .deadline => 2
  | some .forcedPool => 3
  | some .forcedRing => 4
  | some .forcedDrain => 5
  | some .timeStep => 6

/-- The code of an engine state (11.4). -/
def engineCode : EngineState → Nat
  | .paused => 0
  | .waitTime => 1
  | .running => 2
  | .draining => 3
  | .resetting => 4

/-- The code of a frame kind (11.7). -/
def kindCode : FrameKind → Nat
  | .answer => 0
  | .set => 1
  | .batch => 2

/-- The code of a link state, in the order of 9.3. -/
def linkCode : LinkState → Nat
  | .waiting => 0
  | .ready => 1
  | .sending _ _ => 2

/-- The code of a link in the INTAKE record. -/
def linkInCode : Link → Nat
  | .a => 0
  | .b => 1

end Sys2Proof.Machine
end

