-- ==== Sys2Proof/Machine/Ops.lean ====
section
/-! DEFINITION. The shared operations: tables, context sets, the accessors of State, the output grid, and the passing of
time. -/

namespace Sys2Proof.Machine

/-! ### Tables in canonical form -/

/-- The entry at an index, the power-on entry d where none is listed. -/
def Tbl.get {α : Type} (d : α) : Tbl α → Nat → α
  | [], _ => d
  | (j, w) :: t, i => if j = i then w else Tbl.get d t i

/-- Writes an entry, keeping the canonical form: writing the power-on entry removes the listing. -/
def Tbl.set {α : Type} [DecidableEq α] (d : α) : Tbl α → Nat → α → Tbl α
  | [], i, v => if v = d then [] else [(i, v)]
  | (j, w) :: t, i, v =>
    if i < j then (if v = d then (j, w) :: t else (i, v) :: (j, w) :: t)
    else if i = j then (if v = d then t else (i, v) :: t)
    else (j, w) :: Tbl.set d t i v

/-- Applies a function to every entry of a table; it leaves the power-on entry as it is. -/
def Tbl.update {α : Type} [DecidableEq α] (d : α) (f : Nat → α → α) : Tbl α → Tbl α
  | [] => []
  | (j, w) :: t => if f j w = d then Tbl.update d f t else (j, f j w) :: Tbl.update d f t

/-- The canonical form: rising indices, no listed power-on entry. -/
def Tbl.wf {α : Type} [DecidableEq α] (d : α) : Tbl α → Bool
  | [] => true
  | [(_, v)] => decide (v ≠ d)
  | (i, v) :: (j, w) :: t => decide (v ≠ d) && decide (i < j) && Tbl.wf d ((j, w) :: t)

/-! ### Sets of contexts -/

/-- Whether a context is in a set. -/
def CtxSet.has (s : CtxSet) (k : Nat) : Bool := s.getLsbD k

/-- A set with a context added. -/
def CtxSet.add (s : CtxSet) (k : Nat) : CtxSet := s ||| BitVec.ofNat 256 (2 ^ k)

/-- A set with a context removed. -/
def CtxSet.remove (s : CtxSet) (k : Nat) : CtxSet := s &&& ~~~(BitVec.ofNat 256 (2 ^ k))

/-- The members of the first set that are not in the second. -/
def CtxSet.minus (s t : CtxSet) : CtxSet := s &&& ~~~t

/-- The set of the contexts below n that satisfy p. -/
def CtxSet.below (p : Nat → Bool) : Nat → CtxSet
  | 0 => 0
  | n + 1 => if p n then CtxSet.add (CtxSet.below p n) n else CtxSet.below p n

/-- The set of the contexts 0 to 255 that satisfy p. -/
def CtxSet.of (p : Nat → Bool) : CtxSet := CtxSet.below p 256

/-! ### Power-on entries -/

/-- The power-on entry of the Stream Context Table. -/
def Ctx.zero : Ctx := {}
/-- The power-on entry of the Channel Conversion Table (R70). -/
def Conversion.zero : Conversion := {}
/-- The power-on profile (R123). -/
def Profile.zero : Profile := {}
/-- The empty holding list. -/
def Holding.empty : Holding := {}
/-- A FREE slot record (R84). -/
def Slot.empty : Slot := {}
/-- Zero cell contents (R86). -/
def Cell.zero : Cell := {}
/-- The power-on Manager Table entry. -/
def Manager.zero : Manager := {}
/-- The power-on Access Table entry. -/
def Access.zero : Access := {}

/-! ### Accessors -/

/-- Context k. -/
def State.ctx (s : State) (k : Nat) : Ctx := Tbl.get Ctx.zero s.ctxs k
/-- Writes context k. -/
def State.setCtx (s : State) (k : Nat) (c : Ctx) : State := { s with ctxs := Tbl.set Ctx.zero s.ctxs k c }
/-- The contents of way `bucket × 4 + way` of the Stream Map. -/
def State.way (s : State) (i : Nat) : Option Binding := Tbl.get none s.map i
/-- Writes a way of the Stream Map. -/
def State.setWay (s : State) (i : Nat) (b : Option Binding) : State := { s with map := Tbl.set none s.map i b }
/-- Channel Conversion entry i. -/
def State.conversion (s : State) (i : Nat) : Conversion := Tbl.get Conversion.zero s.conv i
/-- Writes Channel Conversion entry i. -/
def State.setConversion (s : State) (i : Nat) (c : Conversion) : State :=
  { s with conv := Tbl.set Conversion.zero s.conv i c }
/-- Profile p. -/
def State.profile (s : State) (p : Nat) : Profile := Tbl.get Profile.zero s.profiles p
/-- Writes profile p. -/
def State.setProfile (s : State) (p : Nat) (x : Profile) : State :=
  { s with profiles := Tbl.set Profile.zero s.profiles p x }
/-- Member List entry e. -/
def State.member (s : State) (e : Nat) : Nat := Tbl.get 0 s.members e
/-- Writes Member List entry e. -/
def State.setMember (s : State) (e k : Nat) : State := { s with members := Tbl.set 0 s.members e k }
/-- Manager Table entry i. -/
def State.manager (s : State) (i : Nat) : Manager := Tbl.get Manager.zero s.mgmt.managers i
/-- Writes Manager Table entry i. -/
def State.setManager (s : State) (i : Nat) (m : Manager) : State :=
  { s with mgmt := { s.mgmt with managers := Tbl.set Manager.zero s.mgmt.managers i m } }
/-- Access Table entry i. -/
def State.access (s : State) (i : Nat) : Access := Tbl.get Access.zero s.mgmt.access i
/-- Writes Access Table entry i. -/
def State.setAccess (s : State) (i : Nat) (a : Access) : State :=
  { s with mgmt := { s.mgmt with access := Tbl.set Access.zero s.mgmt.access i a } }
/-- The holding list of profile p. -/
def State.holding (s : State) (p : Nat) : Holding := Tbl.get Holding.empty s.composer.holding p
/-- Writes the holding list of profile p. -/
def State.setHolding (s : State) (p : Nat) (h : Holding) : State :=
  { s with composer := { s.composer with holding := Tbl.set Holding.empty s.composer.holding p h } }
/-- The contents of cell c. -/
def State.cell (s : State) (c : Nat) : Cell := Tbl.get Cell.zero s.store.pool c
/-- Ingress link l. -/
def State.linkIn (s : State) : Link → LinkIn
  | .a => s.intake.linkA
  | .b => s.intake.linkB
/-- Writes ingress link l. -/
def State.setLinkIn (s : State) (l : Link) (x : LinkIn) : State :=
  match l with
  | .a => { s with intake := { s.intake with linkA := x } }
  | .b => { s with intake := { s.intake with linkB := x } }

/-! ### Slots (R84, R85) -/

/-- Slot G: the record at position G mod 64 when it holds G, and a FREE record otherwise. -/
def State.slot (s : State) (g : Nat) : Slot :=
  let r := Tbl.get Slot.empty s.store.ring (g % 64)
  if r.state ≠ .free ∧ r.g = g then r else Slot.empty
/-- Writes a record at the position of slot G. -/
def State.setSlot (s : State) (g : Nat) (x : Slot) : State :=
  { s with store := { s.store with ring := Tbl.set Slot.empty s.store.ring (g % 64) x } }
/-- Whether every record of the ring is FREE. -/
def State.ringFree (s : State) : Bool :=
  (List.range 64).all fun i => decide ((Tbl.get Slot.empty s.store.ring i).state = .free)
/-- The free count (R86). -/
def State.freeCells (s : State) : Nat := s.store.freeList.length

/-! ### The output grid (1.1, 1.4) -/

/-- Nanoseconds in a second. -/
def secondNs : Nat := 1000000000

/-- The instant of slot G under output rate R, in nanoseconds of grid time (R3). -/
def instantOf (r g : Nat) : Nat := (g / r) * secondNs + (g % r) * secondNs / r

/-- The current slot under output rate R at a local time (R4): the largest G whose instant is at or before it. -/
def currentSlot (r now : Nat) : Nat := (now / secondNs) * r + ((now % secondNs + 1) * r - 1) / secondNs

/-- The current slot Gnow (R4). -/
def State.gnow (s : State) : Nat := currentSlot s.params.rate s.tru.now

/-- The instant of slot G under the rate in force. -/
def State.instant (s : State) (g : Nat) : Nat := instantOf s.params.rate g

/-- The compatibility of a stream rate with the output rate (R14); the rate 0 is compatible with none (R41). -/
def compatible (r rs : Nat) : Bool := decide (rs ≠ 0) && (decide (rs % r = 0) || decide (r % rs = 0))

/-- The period in slots of a stream rate (R15), none where the rate is not compatible. -/
def period (r rs : Nat) : Option Nat :=
  if compatible r rs then (if r ≤ rs then some 1 else some (r / rs)) else none

/-- Expected membership of a stream rate in slot G (R16). -/
def expectedIn (r rs g : Nat) : Bool :=
  match period r rs with
  | none => false
  | some p => decide (g % p = 0)

/-- Whether a context is awaitable (R50). -/
def State.awaitable (s : State) (k : Nat) : Bool :=
  (s.ctx k).enabled && decide (s.params.cAwait ≤ (s.ctx k).confidence)

/-- Whether context k is expected in slot G (R16). -/
def State.expected (s : State) (k g : Nat) : Bool := expectedIn s.params.rate (s.ctx k).desc.rate g

/-! ### The passing of time (R18, R29) -/

/-- Oscillator nanoseconds for each nanosecond of slew correction: 100,000 ns in each second (R29). -/
def slewSpacing : Nat := 10000

/-- The oscillator runs dt nanoseconds, and local time with it, with the slew's correction (R18, R29). -/
def Tru.elapse (t : Tru) (dt : Nat) : Tru :=
  let applied := min t.slew.natAbs ((t.slewPhase + dt) / slewSpacing)
  let left := t.slew.natAbs - applied
  if t.slew < 0 then
    { t with osc := t.osc + dt, now := t.now + dt - applied, slew := -(left : Int),
             slewPhase := if left = 0 then 0 else (t.slewPhase + dt) % slewSpacing }
  else
    { t with osc := t.osc + dt, now := t.now + dt + applied, slew := (left : Int),
             slewPhase := if left = 0 then 0 else (t.slewPhase + dt) % slewSpacing }

/-- The least oscillator time in which local time advances by at least `need` nanoseconds (R29). -/
def Tru.timeFor (t : Tru) (need : Nat) : Nat :=
  let k := need + t.slewPhase
  if need = 0 then 0
  else if t.slew < 0 then
    let u := if k % (slewSpacing - 1) = 0 then k / (slewSpacing - 1) * slewSpacing - 1
             else k / (slewSpacing - 1) * slewSpacing + k % (slewSpacing - 1)
    if t.slew.natAbs < u / slewSpacing then need + t.slew.natAbs else u - t.slewPhase
  else
    let u := k / (slewSpacing + 1) * slewSpacing + k % (slewSpacing + 1)
    if t.slew.natAbs < u / slewSpacing then need - t.slew.natAbs else u - t.slewPhase

/-- Oscillator time passes. -/
def State.elapse (s : State) (dt : Nat) : State := { s with tru := s.tru.elapse dt }

/-- Time passes until local time reaches a point, if it has not (log entry 3). -/
def State.waitLocal (s : State) (point : Nat) : State := s.elapse (s.tru.timeFor (point - s.tru.now))

/-- Time passes until the oscillator reads a point, if it does not yet. -/
def State.waitOsc (s : State) (point : Nat) : State := s.elapse (point - s.tru.osc)

/-- The next event that may read a free value takes a number of its own. -/
def State.nextFree (s : State) : State := { s with free := s.free + 1 }

end Sys2Proof.Machine
end

