-- ==== Sys2Proof/Machine/Convert.lean ====
section
/-! DEFINITION. The Conversion Unit: rotation, scale, saturation at admission (5.2), and packing at composition (5.3). -/

namespace Sys2Proof.Machine

/-- The rotation of a reported pair (R74). -/
def rotatePair (e : Conversion) (p : Int × Int) : Int × Int :=
  (p.1 * e.rotC - p.2 * e.rotD, p.1 * e.rotD + p.2 * e.rotC)

/-- The scale of one rotated part, before saturation (R75). -/
def scalePart (e : Conversion) (x : Int) : Int := roundDiv (x * (e.multiplier : Int)) (2 ^ (14 + e.shift))

/-- One channel converted and saturated to 32 bits (R74 to R76). -/
def convertPair (e : Conversion) (p : Int × Int) : Int × Int :=
  (satSigned 32 (scalePart e (rotatePair e p).1), satSigned 32 (scalePart e (rotatePair e p).2))

/-- Whether a part of the channel saturates at conversion (R76). -/
def pairSaturates (e : Conversion) (p : Int × Int) : Bool :=
  saturates 32 (scalePart e (rotatePair e p).1) || saturates 32 (scalePart e (rotatePair e p).2)

/-- The entry and the reported pair of each channel of a request (R70). -/
def State.channelEntries (s : State) (q : Placement) : List (Conversion × (Int × Int)) :=
  (List.range q.pairs.length).map fun i => (s.conversion (16 * q.ctx + i), q.pairs.getD i (0, 0))

/-- The cell the Conversion Unit fills from a placement request (R73 to R78). -/
def State.convert (s : State) (q : Placement) : Cell :=
  let chans := s.channelEntries q
  { ctx := q.ctx
    residual := q.residual
    offGrid := q.offGrid
    flags := q.flags
    quality := q.quality
    pairs := chans.map fun c => convertPair c.1 c.2
    freq := q.freq
    saturated := chans.any fun c => pairSaturates c.1 c.2 }

/-- A part divided by 2^h and rounded, before saturation (R80). -/
def shiftPart (h : Nat) (x : Int) : Int := if h = 0 then x else roundDiv x (2 ^ h)

/-- A phasor part packed in a profile's format (R79, R80). -/
def packPart (f : Format) (h : Nat) (x : Int) : Int :=
  match f with
  | .rect32 => x
  | .rect16 => satSigned 16 (shiftPart h x)

/-- Whether packing a phasor part saturates (R80). -/
def packSaturates (f : Format) (h : Nat) (x : Int) : Bool :=
  match f with
  | .rect32 => false
  | .rect16 => saturates 16 (shiftPart h x)

/-- The frequency fields a member emits: none unless the profile includes frequency and the cell holds them (R81). -/
def emittedFreq (p : Profile) (c : Cell) : Option (Int × Int) := if p.inclFreq then c.freq else none

/-- The SATURATED flag of a PRESENT member (R82): from the cell's mark, or from a field packed here. -/
def memberSaturated (p : Profile) (c : Cell) : Bool :=
  c.saturated
    || c.pairs.any (fun x => packSaturates p.format p.shift x.1 || packSaturates p.format p.shift x.2)
    || (match emittedFreq p c with
        | none => false
        | some x => packSaturates p.format 0 x.1 || packSaturates p.format 0 x.2)

/-- The packed bytes of a PRESENT member: its pairs, then its frequency fields (R79 to R81, 11.3). -/
def packedBytes (p : Profile) (c : Cell) : List Byte :=
  let w := partBytes p.format
  (c.pairs.flatMap fun x => beInt w (packPart p.format p.shift x.1) ++ beInt w (packPart p.format p.shift x.2))
    ++ (match emittedFreq p c with
        | none => []
        | some x => beInt w (packPart p.format 0 x.1) ++ beInt w (packPart p.format 0 x.2))

end Sys2Proof.Machine
end

