-- ==== Sys2Proof/Machine/Egress.lean ====
section
/-! DEFINITION. The Egress Scheduler's own transitions: effective classes, limits, selection, entry and shedding (chapter 9). -/

namespace Sys2Proof.Machine

/-- The queue's size (R139). -/
def queueSize : Nat := 32

/-- An entry's age (R141). -/
def Entry.age (osc : Nat) (e : Entry) : Nat := osc - e.enqueued

/-- Whether a VARIABLE entry is promoted (R141). -/
def Entry.promoted (p : Params) (osc : Nat) (e : Entry) : Bool :=
  e.frame.cls == .variableClass && decide (p.promotion * 1000000 < e.age osc)

/-- The effective class of an entry (R141). -/
def Entry.effective (p : Params) (osc : Nat) (e : Entry) : PriorityClass :=
  match e.frame.cls with
  | .high => .high
  | .medium => .medium
  | .low => .low
  | .variableClass => if e.promoted p osc then .high else .medium

/-- Whether an entry has reached its limit (R142). -/
def Entry.limited (p : Params) (osc : Nat) (e : Entry) : Bool :=
  match e.effective p osc with
  | .medium => decide (p.highBypassMax ≤ e.bypass)
  | .low => decide (p.lowBypassMax ≤ e.bypass)
  | _ => false

/-- The highest effective class present in a queue that is not empty (R144). -/
def highestClass (p : Params) (osc : Nat) (q : List Entry) : PriorityClass :=
  if q.any (fun e => e.effective p osc == .high) then .high
  else if q.any (fun e => e.effective p osc == .medium) then .medium
  else .low

/-- The position of the entry a selection chooses (R144). -/
def choosePosition (p : Params) (osc : Nat) (q : List Entry) : Option Nat :=
  match q.findIdx? (fun e => e.limited p osc) with
  | some i => some i
  | none => q.findIdx? (fun e => e.effective p osc == highestClass p osc q)

/-- An older entry after a selection that chose an entry of an effective class (R145). -/
def Entry.passedOver (p : Params) (osc : Nat) (chosen : PriorityClass) (e : Entry) : Entry :=
  let raise : Bool :=
    match chosen, e.effective p osc with
    | .high, .medium => true
    | .high, .low => true
    | .medium, .low => true
    | _, _ => false
  if raise then { e with bypass := min (e.bypass + 1) 15 } else e

/-- A selection from a queue that is not empty: the chosen entry leaves the queue, its transmission begins, and older
entries are counted as passed over (R144 to R146). An empty queue makes no selection. -/
def Egress.select (p : Params) (osc : Nat) (x : Egress) : Egress :=
  match choosePosition p osc x.queue with
  | none => x
  | some i =>
    match x.queue[i]? with
    | none => x
    | some c =>
      { x with
        queue := (x.queue.take i).map (Entry.passedOver p osc (c.effective p osc)) ++ x.queue.drop (i + 1)
        link := .sending c.frame (c.promoted p osc)
        counts := { x.counts with
          limited := if c.limited p osc then satInc x.counts.limited else x.counts.limited } }

/-- Whether the queue has a free place. -/
def Egress.hasRoom (x : Egress) : Bool := decide (x.queue.length < queueSize)

/-- Whether the queue holds an entry whose own class is LOW (R148). -/
def Egress.hasLow (x : Egress) : Bool := x.queue.any fun e => e.frame.cls == .low

/-- A frame enters as the youngest entry (R147). -/
def Egress.enter (osc : Nat) (f : OutFrame) (x : Egress) : Egress :=
  { x with
    queue := x.queue ++ [{ frame := f, enqueued := osc }]
    counts := { x.counts with highWater := max x.counts.highWater (x.queue.length + 1) } }

/-- The oldest LOW entry is discarded to make room (R148). -/
def Egress.shed (x : Egress) : Egress :=
  { x with
    queue := x.queue.eraseP fun e => e.frame.cls == .low
    shedFlag := true
    counts := { x.counts with shed := satInc x.counts.shed } }

/-- Whether a frame offered now is taken (R147 to R149). -/
def Egress.takes (x : Egress) : Bool := x.hasRoom || x.hasLow

/-- A frame that is taken enters, after a LOW entry is shed where the queue is full (R147, R148). -/
def Egress.takeFrame (osc : Nat) (f : OutFrame) (x : Egress) : Egress :=
  Egress.enter osc f (if x.hasRoom then x else x.shed)

/-- The link's ready indication (R143); the selection it calls for is made by `State.settle`. -/
def Egress.readyIndicated (x : Egress) : Egress :=
  match x.link with
  | .waiting => { x with link := .ready }
  | .ready => x
  | .sending _ _ => x

/-- The counts of a transmission that ends (R146, R152). -/
def EgressCounts.sentOne (c : EgressCounts) (f : OutFrame) (promoted : Bool) : EgressCounts :=
  let c1 := { c with sent := satInc c.sent }
  let c2 := match f.kind with
    | .answer => { c1 with answers := satInc c1.answers }
    | .set => { c1 with sets := satInc c1.sets }
    | .batch => { c1 with batches := satInc c1.batches }
  if promoted && f.kind == .set then { c2 with promoted := satInc c2.promoted } else c2

/-- The link's completion indication (R143, R146). -/
def Egress.completionIndicated (x : Egress) : Egress :=
  match x.link with
  | .sending f promoted => { x with link := .waiting, counts := x.counts.sentOne f promoted }
  | .waiting => x
  | .ready => x

/-- Engine reset's work on the scheduler (R151). -/
def Egress.afterReset (x : Egress) : Egress :=
  let kept := x.queue.filter fun e => e.frame.kind == .answer
  { x with
    queue := kept
    shedFlag := false
    composerWaits := false
    counts := { ({} : EgressCounts) with highWater := kept.length } }

end Sys2Proof.Machine
end

