-- ==== Sys2Proof/Machine/Handover.lean ====
section
/-! DEFINITION. Answers, and what the two producers and the egress queue do between them until nothing more is due: the
selection at a READY link, the waiting answer, deferred answers, the outbound list, the end of a flush and of a drain
(R132, R134, R143, R147 to R149, R153, R164). -/

namespace Sys2Proof.Machine

/-! ### Answers (R153, 11.4) -/

/-- Byte 11 of an answer: PENDING, LOCKED, FLUSH_BUSY and the engine state as they stand (R153, 11.4). Bits 4 and 3, which no
field names, are 0: DESIGN CHOICE, log entry 35. -/
def State.answerFlags (s : State) : Byte :=
  BitVec.ofNat 8 (128 * bit (s.mgmt.pendingMap != 0) + 64 * bit s.mgmt.lock + 32 * bit s.composer.flushBusy
    + engineCode s.mgmt.engine)

/-- The answer frame to a directive, as the state stands (R153, R169, R170, 11.4). Bits 7 to 1 of byte 13, which no field names,
are 0: DESIGN CHOICE, log entry 35. -/
def State.formAnswer (s : State) (dest : Word) (tag : Half) (code : Byte) (r : Reply) : OutFrame :=
  { bytes :=
      header 0x32 (16 + r.data.length) s.params.mgmtId tag.toNat
        ++ [code, outcomeByte r.outcome, BitVec.ofNat 8 r.entriesDone, s.answerFlags,
            (match r.cause with
              | none => 0
              | some c => outcomeByte c),
            BitVec.ofNat 8 (bit r.clampedBefore), 0, 0]
        ++ r.data
    dest := dest
    kind := .answer
    cls := .high }

/-- Whether an answer carries an outcome, or PARTIAL with it as the cause (R167). -/
def Reply.carries (r : Reply) (c : OutcomeCode) : Bool :=
  r.outcome == c || (r.outcome == .partialDone && r.cause == some c)

/-- The management counts an answer raises as it is formed (R167). -/
def MgmtCounts.answered (m : MgmtCounts) (r : Reply) : MgmtCounts :=
  { m with
    executed := satInc m.executed
    denied := if r.carries .denied then satInc m.denied else m.denied
    locked := if r.carries .locked then satInc m.locked else m.locked
    busy := if r.outcome = .busy then satInc m.busy else m.busy }

/-- Counts an answer as formed. -/
def State.countAnswer (s : State) (r : Reply) : State :=
  { s with mgmt := { s.mgmt with counts := s.mgmt.counts.answered r } }

/-- A deferred answer is formed with outcome DONE; it is offered when the Management Unit is IDLE (R153). -/
def State.formDeferred (s : State) (code : DirectiveCode) (d : Deferred) : State :=
  let r : Reply := { outcome := .done }
  let a := s.formAnswer d.source d.tag (codeByte code) r
  let s1 := s.countAnswer r
  { s1 with mgmt := { s1.mgmt with formed := s1.mgmt.formed ++ [a] } }

/-- The Set Composer tells that the flush has ended: the flag clears and a deferred FLUSH_BATCHES answer is formed (R134). -/
def State.flushEnded (s : State) : State :=
  let s1 := { s with composer := { s.composer with flushBusy := false } }
  match s1.mgmt.deferredFlush with
  | none => s1
  | some d => ({ s1 with mgmt := { s1.mgmt with deferredFlush := none } }).formDeferred .flushBatches d

/-! ### Offers (R147 to R149) -/

/-- The queue takes a frame. -/
def State.queueTakes (s : State) (f : OutFrame) : State :=
  { s with egress := Egress.takeFrame s.tru.osc f s.egress }

/-- The Management Unit offers an answer: the queue takes it and the unit is IDLE, or the unit waits with it (R147 to
R149, R153). -/
def State.offerAnswer (s : State) (a : OutFrame) : State :=
  if s.egress.takes then
    let s1 := s.queueTakes a
    { s1 with mgmt := { s1.mgmt with exec := .idle } }
  else
    { s with
      mgmt := { s.mgmt with exec := .waiting a }
      egress := { s.egress with
        counts := { s.egress.counts with answerWaits := satInc s.egress.counts.answerWaits } } }

/-- The queue takes the head of the outbound list (R132); the last frame of a flush ends the flush (R134). -/
def State.takeOutbound (s : State) (f : OutFrame) (rest : List OutFrame) : State :=
  let s1 := s.queueTakes f
  let s2 := { s1 with
    composer := { s1.composer with outbound := rest }
    egress := { s1.egress with composerWaits := false } }
  if f.endsFlush then s2.flushEnded else s2

/-- What the Set Composer's offer of the head of its outbound list comes to, or none where nothing is due: a composer
that waits is given only a free place (R149). -/
def State.composerOffer (s : State) : Option State :=
  match s.composer.outbound with
  | [] => none
  | f :: rest =>
    if s.egress.hasRoom || (!s.egress.composerWaits && s.egress.hasLow) then some (s.takeOutbound f rest)
    else if s.egress.composerWaits then none
    else
      some { s with
        egress := { s.egress with composerWaits := true }
        composer := { s.composer with
          counts := { s.composer.counts with waits := satInc s.composer.counts.waits } } }

/-- The next thing due between the producers and the queue, in the order the rules give it: a selection at a READY link
(R143), the waiting answer into a free place (R149), a deferred answer that has been formed (R153), the Set Composer's
frame (R132, R149). -/
def State.egressStep (s : State) : Option State :=
  if s.egress.link = .ready ∧ s.egress.queue ≠ [] then
    some { s with egress := Egress.select s.params s.tru.osc s.egress }
  else
    match s.mgmt.exec with
    | .executing => s.composerOffer
    | .waiting a =>
      if s.egress.hasRoom then
        let s1 := s.queueTakes a
        some { s1 with mgmt := { s1.mgmt with exec := .idle } }
      else s.composerOffer
    | .idle =>
      match s.mgmt.formed with
      | [] => s.composerOffer
      | a :: rest => some (({ s with mgmt := { s.mgmt with formed := rest } }).offerAnswer a)

/-- At most n of the things that are due. -/
def State.settleSteps : Nat → State → State
  | 0, s => s
  | n + 1, s =>
    match s.egressStep with
    | none => s
    | some t => State.settleSteps n t

/-- Everything that is due. Each frame is offered and taken or waits once, and a selection, a waiting answer and a flush's
end come at most once each, so the bound is never short. -/
def State.settle (s : State) : State :=
  State.settleSteps (2 * s.composer.outbound.length + s.mgmt.formed.length + 8) s

/-! ### The end of a drain (R164) -/

/-- Whether every holding list is empty. -/
def State.holdingEmpty (s : State) : Bool := (List.range 8).all fun p => (s.holding p).sets.isEmpty

/-- Whether the composer has nothing left (R135, R164). -/
def State.composerEmpty (s : State) : Bool :=
  s.composer.working.isNone && s.holdingEmpty && s.composer.outbound.isEmpty

/-- The Management Unit judges the end of the drain (R164). -/
def State.judgeDrain (s : State) : State :=
  if s.mgmt.engine = .draining ∧ s.ringFree ∧ s.composerEmpty then
    { s with mgmt := { s.mgmt with engine := .paused } }
  else s

/-- Everything that is due between the producers and the queue, then the composer's nothing-left notice (R135). -/
def State.settleAndJudge (s : State) : State := s.settle.judgeDrain

end Sys2Proof.Machine
end

