-- ==== Sys2Proof/Machine/Streams.lean ====
section
/-! DEFINITION. Stream Map lookup, the reduction of a time tag, the cadence of a context, and the per-context counts
(chapters 1 and 3). -/

namespace Sys2Proof.Machine

/-! ### The Stream Map (R35, R37) -/

/-- A byte rotated left by three places (R35). -/
def rotl3 (b : Nat) : Nat := b * 8 % 256 + b / 32

/-- The bucket of a stream ID (R35). -/
def bucketOf (f : MapSelect) (sid : Half) : Nat :=
  let lo := sid.toNat % 256
  let hi := sid.toNat / 256
  match f with
  | .low => lo
  | .high => hi
  | .fold => lo ^^^ hi
  | .foldrot => lo ^^^ rotl3 hi

/-- The ways of a bucket, by entry index. -/
def bucketWays (bucket : Nat) : List Nat := (List.range 4).map fun w => bucket * 4 + w

/-- Whether a way holds a stream ID. -/
def State.wayHolds (s : State) (sid : Half) (i : Nat) : Bool :=
  match s.way i with
  | none => false
  | some b => b.streamId == sid

/-- The lookup of a stream ID (R37): the context of the way of its bucket that holds it. -/
def State.lookup (s : State) (sid : Half) : Option Nat :=
  ((bucketWays (bucketOf s.params.mapSelect sid)).findSome? fun i =>
    match s.way i with
    | some b => if b.streamId = sid then some b.ctx else none
    | none => none)

/-- The lowest-numbered empty way of a bucket (R38). -/
def State.emptyWay (s : State) (bucket : Nat) : Option Nat :=
  (bucketWays bucket).find? fun i => (s.way i).isNone

/-- Whether any way of the map is occupied (R36). -/
def State.mapOccupied (s : State) : Bool := (List.range 1024).any fun i => (s.way i).isSome

/-! ### Reduction of a time tag (R5 to R13) -/

/-- The results of R5. -/
inductive Reduction where
  | tagInvalid
  | offGrid
  | kept (g : Nat) (residual : Int) (mark : Bool)
deriving DecidableEq, Repr

/-- The slot index before any wrap (R7). -/
def slotIndexOf (r b f : Nat) : Nat := (2 * (f * r) + b) / (2 * b)

/-- The global slot number of a tag (R8). -/
def tagSlot (r b sec f : Nat) : Nat :=
  let n := slotIndexOf r b f
  if n = r then (sec + 1) * r else sec * r + n

/-- The residual in ticks (R9). -/
def residualTicks (r b f : Nat) : Int := ((f * r : Nat) : Int) - ((slotIndexOf r b f * b : Nat) : Int)

/-- The residual in nanoseconds (R10). -/
def residualNs (r b f : Nat) : Int := roundDiv (residualTicks r b f * 1000000000) (r * b)

/-- The reduction of a report's tag under its context's descriptor (R5 to R13). -/
def reduceTag (r : Nat) (d : Descriptor) (sec f : Nat) : Reduction :=
  if d.timeBase ≤ f then .tagInvalid
  else
    let rho := residualNs r d.timeBase f
    if rho.natAbs ≤ 1000 * d.tolerance then .kept (tagSlot r d.timeBase sec f) rho false
    else match d.policy with
      | .discard => .offGrid
      | .snap => .kept (tagSlot r d.timeBase sec f) rho true

/-! ### Cadence (R46, R47, R49, R51) -/

/-- The confidence after a report at distance d from the expected next slot (R46). -/
def cadenceConfidence (cSat p : Nat) (d : Int) (conf : Nat) : Nat :=
  if d = 0 then (if conf < cSat then conf + 1 else conf)
  else if d.natAbs ≤ 4 * p then conf - 1
  else 0

/-- The cadence update of R46 for a report of global slot number g. -/
def Ctx.cadence (cSat p g : Nat) (c : Ctx) : Ctx :=
  { c with confidence := cadenceConfidence cSat p ((g : Int) - ((c.expected.getD g : Nat) : Int)) c.confidence,
           expected := some (g + p) }

/-- The period of a context's cadence. An enabled context has a compatible rate (R14, R43), so the period exists. -/
def State.cadencePeriod (s : State) (k : Nat) : Nat :=
  (period s.params.rate (s.ctx k).desc.rate).getD 1

/-- The highest accepted slot after an acceptance (R51). -/
def Ctx.accept (g : Nat) (c : Ctx) : Ctx :=
  match c.highest with
  | none => { c with highest := some g }
  | some h => { c with highest := some (max h g) }

/-- Every context's confidence above C_sat becomes C_sat (R49). -/
def State.clampConfidence (s : State) : State :=
  let f : Nat → Ctx → Ctx := fun _ c => { c with confidence := min c.confidence s.params.cSat }
  { s with ctxs := Tbl.update Ctx.zero f s.ctxs }

/-- Every context of a set is charged a miss (R47). -/
def State.chargeMisses (s : State) (missing : CtxSet) : State :=
  let f : Nat → Ctx → Ctx := fun k c => if CtxSet.has missing k then { c with confidence := c.confidence - 1 } else c
  { s with ctxs := Tbl.update Ctx.zero f s.ctxs }

/-! ### Per-context counts (R52) -/

/-- The five counters of R52. -/
inductive CtxCount where
  | admitted
  | late
  | offGrid
  | duplicate
  | other
deriving DecidableEq, Repr

/-- Raises one counter of a context. -/
def CtxCounts.bump (c : CtxCounts) : CtxCount → CtxCounts
  | .admitted => { c with admitted := satInc c.admitted }
  | .late => { c with late := satInc c.late }
  | .offGrid => { c with offGrid := satInc c.offGrid }
  | .duplicate => { c with duplicate := satInc c.duplicate }
  | .other => { c with other := satInc c.other }

/-- The context counter a discard reason raises (R52). -/
def ctxCountOf : IntakeCount → CtxCount
  | .accepted => .admitted
  | .late => .late
  | .offGrid => .offGrid
  | .duplicate => .duplicate
  | _ => .other

/-- Raises a counter of context k. -/
def State.bumpCtx (s : State) (k : Nat) (c : CtxCount) : State :=
  s.setCtx k { s.ctx k with counts := (s.ctx k).counts.bump c }

end Sys2Proof.Machine
end

