-- ==== Sys2Proof/Machine/Time.lean ====
section
/-! DEFINITION. The Time Reference Unit's own transitions (chapter 2): ToD messages, PPS edges, the edge timer, holdover. -/

namespace Sys2Proof.Machine

/-! ### Time-of-day messages (R19, R172) -/

/-- The layout check of an 8-byte time-of-day message (R172). -/
def todLayoutOk (m : List Byte) : Bool :=
  byteAt m 0 == 0xA5 && (byteAt m 1 &&& 0x70) == 0 && byteAt m 6 == 0
    && decide ((m.map BitVec.toNat).sum % 256 = 0)

/-- A message that passes the layout check is taken (R19). -/
def Tru.takeTod (t : Tru) (m : List Byte) : Tru :=
  let quality := (byteAt m 1).toNat % 16
  if (byteAt m 1).getLsbD 7 then
    let t1 := { t with held := some (field m 2 4), clockQuality := quality }
    if t.state = .unset then
      { t1 with state := .acquiring, qualified := 0, edgeTimer := some t.osc }
    else t1
  else { t with held := none, clockQuality := quality }

/-- One byte of the ToD line (R172): while hunting only a sync byte starts a message; the eighth byte ends one, which is
taken, or rejected with the hunt resumed at the byte after its byte 0. -/
def Tru.todByte (t : Tru) (b : Byte) : Tru :=
  if t.todHunting && t.todBuf.isEmpty && b != 0xA5 then t
  else
    let m := t.todBuf ++ [b]
    if m.length < 8 then { t with todBuf := m }
    else if todLayoutOk m then { t.takeTod m with todBuf := [], todHunting := false }
    else
      { t with todBuf := m.tail.dropWhile (fun x => x != 0xA5), todHunting := true,
               counts := { t.counts with rejectedTod := satInc t.counts.rejectedTod } }

/-- The bytes of the ToD line, in order. -/
def Tru.todBytes (t : Tru) (bs : List Byte) : Tru := bs.foldl Tru.todByte t

/-! ### The own time-quality code (R31) -/

/-- The own quality code (R31). -/
def Tru.quality (t : Tru) (drift : Nat) : Nat :=
  match t.state with
  | .unset => 15
  | .acquiring => 15
  | .locked => qualityOf (100 + t.slew.natAbs)
  | .holdover => qualityOf (holdoverUncertainty drift t.elapsedHoldover)
  | .freerun => 15

/-! ### Edges (R20 to R28) -/

/-- What an edge does beyond the TRU's own state. -/
inductive EdgeEffect where
  | none
  /-- Entry to LOCKED without a time step: the first lock (R23) or a slewed relock (R28). -/
  | locked
  /-- Entry to LOCKED by a stepped relock, which raises the time-step event (R28, R30). -/
  | stepped
deriving DecidableEq, Repr

/-- Whether an edge taken now is qualified (R21). -/
def Tru.edgeQualified (t : Tru) : Bool :=
  t.held.isSome &&
    (match t.prevEdge with
      | none => true
      | some e =>
        (decide (t.qualified = 0) &&
            (t.state == .acquiring || t.state == .holdover || t.state == .freerun))
          || (decide (999980000 ≤ t.osc - e) && decide (t.osc - e ≤ 1000020000)))

/-- The local second at an edge (R24). -/
def Tru.edgeSecond (t : Tru) : Nat :=
  if t.now % secondNs < 500000000 then t.now / secondNs else t.now / secondNs + 1

/-- The offset at an edge with an announced second (R24). -/
def Tru.edgeOffset (t : Tru) (announced : Nat) : Int := (announced * secondNs : Nat) - (t.now : Int)

/-- The slew remainder becomes a value (R29). -/
def Tru.setSlew (t : Tru) (x : Int) : Tru := { t with slew := x, slewPhase := 0 }

/-- Entry to HOLDOVER, passed on to FREERUN when Hmax is 0 (R25). -/
def Tru.enterHoldover (hMax : Nat) (t : Tru) : Tru :=
  { t with state := if hMax = 0 then .freerun else .holdover
           elapsedHoldover := 0, qualified := 0, unqualifiedRun := 0, mismatchRun := 0
           secondMark := t.now / secondNs
           counts := { t.counts with holdoverEntries := satInc t.counts.holdoverEntries } }

/-- What entry to LOCKED clears (R23, R28). -/
def Tru.lockedAgain (t : Tru) : Tru :=
  { t with state := .locked, elapsedHoldover := 0, qualified := 0, unqualifiedRun := 0, mismatchRun := 0 }

/-- Local time is set to an announced second, and the next instant slot to the slot after the new current slot
(R23, R28, R30). -/
def Tru.setTime (rate announced : Nat) (t : Tru) : Tru :=
  { (t.setSlew 0) with now := announced * secondNs
                       nextInstant := currentSlot rate (announced * secondNs) + 1 }

/-- The relock of R28. -/
def Tru.relock (rate announced : Nat) (t : Tru) : Tru × EdgeEffect :=
  let offset := t.edgeOffset announced
  if offset.natAbs ≤ 1000000 then
    ({ (t.lockedAgain.setSlew offset) with
        counts := { t.counts with slewedRelocks := satInc t.counts.slewedRelocks } }, .locked)
  else
    ({ (Tru.setTime rate announced t.lockedAgain) with
        counts := { t.counts with steppedRelocks := satInc t.counts.steppedRelocks
                                  timeSteps := satInc t.counts.timeSteps } }, .stepped)

/-- A qualified edge, by state (R23, R24, R27, R28). -/
def Tru.qualifiedEdge (p : Params) (announced : Nat) (t : Tru) : Tru × EdgeEffect :=
  match t.state with
  | .unset => (t, .none)
  | .acquiring =>
    if 3 ≤ t.qualified + 1 then (Tru.setTime p.rate announced t.lockedAgain, .locked)
    else ({ t with qualified := t.qualified + 1 }, .none)
  | .locked =>
    if announced = t.edgeSecond then
      ({ (t.setSlew (t.edgeOffset announced)) with unqualifiedRun := 0, mismatchRun := 0 }, .none)
    else
      let t1 := { t with unqualifiedRun := 0, mismatchRun := t.mismatchRun + 1
                         counts := { t.counts with mismatchedEdges := satInc t.counts.mismatchedEdges } }
      (if 3 ≤ t1.mismatchRun then Tru.enterHoldover p.hMax t1 else t1, .none)
  | .holdover =>
    if 3 ≤ t.qualified + 1 then Tru.relock p.rate announced t
    else ({ t with qualified := t.qualified + 1 }, .none)
  | .freerun =>
    if 3 ≤ t.qualified + 1 then Tru.relock p.rate announced t
    else ({ t with qualified := t.qualified + 1 }, .none)

/-- An unqualified edge, by state (R21, R23, R24, R27). -/
def Tru.unqualifiedEdge (p : Params) (t : Tru) : Tru :=
  let t1 := { t with counts := { t.counts with unqualifiedEdges := satInc t.counts.unqualifiedEdges } }
  match t.state with
  | .unset => t
  | .acquiring => { t1 with qualified := 0 }
  | .locked =>
    let t2 := { t1 with unqualifiedRun := t.unqualifiedRun + 1, mismatchRun := 0 }
    if 3 ≤ t2.unqualifiedRun then Tru.enterHoldover p.hMax t2 else t2
  | .holdover => { t1 with qualified := 0 }
  | .freerun => { t1 with qualified := 0 }

/-- What every edge taken leaves behind (R20). -/
def Tru.edgeTaken (t : Tru) : Tru :=
  { t with held := none, prevEdge := some t.osc, edgeTimer := some t.osc }

/-- An active edge is taken (R20). -/
def Tru.edge (p : Params) (t : Tru) : Tru × EdgeEffect :=
  if t.state = .unset then (t, .none)
  else
    match t.edgeQualified, t.held with
    | true, some announced =>
      let r := Tru.qualifiedEdge p announced t
      (r.1.edgeTaken, r.2)
    | _, _ => ((Tru.unqualifiedEdge p t).edgeTaken, .none)

/-! ### The edge timer and HOLDOVER seconds (R22, R26) -/

/-- What the edge timer runs toward: 1.5 s of oscillator time (R22). -/
def edgeTimeout : Nat := 1500000000

/-- The edge timer's expiry is taken and the timer restarts (R22). -/
def Tru.edgeTimerExpire (p : Params) (t : Tru) : Tru :=
  let t1 := { t with prevEdge := none, edgeTimer := some t.osc
                     counts := { t.counts with edgeTimeouts := satInc t.counts.edgeTimeouts } }
  match t.state with
  | .unset => t1
  | .acquiring => { t1 with qualified := 0 }
  | .locked => Tru.enterHoldover p.hMax t1
  | .holdover => { t1 with qualified := 0 }
  | .freerun => { t1 with qualified := 0 }

/-- HOLDOVER passes on to FREERUN at Hmax or above the uncertainty limit (R26). -/
def Tru.holdoverLimits (p : Params) (t : Tru) : Tru :=
  if t.state = .holdover ∧
      (p.hMax ≤ t.elapsedHoldover ∨ uncertaintyLimit < holdoverUncertainty p.drift t.elapsedHoldover) then
    { t with state := .freerun }
  else t

/-- A whole-second boundary passed in HOLDOVER is taken (R26). -/
def Tru.holdoverSecond (p : Params) (t : Tru) : Tru :=
  if t.state = .holdover then
    Tru.holdoverLimits p { t with elapsedHoldover := t.elapsedHoldover + 1, secondMark := t.secondMark + 1 }
  else t

end Sys2Proof.Machine
end

