-- ==== Sys2Proof/Machine/Window.lean ====
section
/-! DEFINITION. The Window Controller: the applied window, the notices and the evaluation (chapter 7). -/

namespace Sys2Proof.Machine

/-- A value clamped into [16 × Wmin, 16 × Wmax] (R112, R118). -/
def clampWq (p : Params) (v : Nat) : Nat := clampNat (16 * p.wMin) (16 * p.wMax) v

/-- The window computed from W_q and j (R114). -/
def fractionalWindow (wq j : Nat) : Nat :=
  let f := wq % 16
  wq / 16 + (if j * f / 16 < (j + 1) * f / 16 then 1 else 0)

/-- The applied window of an opening request, and the controller after it (R114, R115). -/
def Window.opening (p : Params) (belowWm2 : Bool) (w : Window) : Nat × Window :=
  if belowWm2 then
    (p.wMin, { w with lastApplied := p.wMin, counts := { w.counts with overridden := satInc w.counts.overridden } })
  else if p.adaptation then
    (fractionalWindow w.wq w.j, { w with lastApplied := fractionalWindow w.wq w.j, j := (w.j + 1) % 16 })
  else (p.w0, { w with lastApplied := p.w0 })

/-- An on-time notice (R116). -/
def Window.onTime (w : Window) : Window :=
  if w.total < countLimit then { w with total := w.total + 1 } else w

/-- A late notice (R116). -/
def Window.lateNotice (w : Window) : Window :=
  if w.total < countLimit then { w with total := w.total + 1, late := w.late + 1 } else w

/-- The evaluation's effect on W_q and on the counts other than evaluations (R118). -/
def Window.judge (p : Params) (freeCells : Nat) (w : Window) : Window :=
  if p.adaptation = false then w
  else if w.total = 0 then { w with counts := { w.counts with idle := satInc w.counts.idle } }
  else if p.theta * w.total ≤ 16 * w.late then
    if freeCells < p.wm1 then { w with counts := { w.counts with holds := satInc w.counts.holds } }
    else { w with wq := clampWq p (w.wq + p.upStep), counts := { w.counts with raises := satInc w.counts.raises } }
  else { w with wq := clampWq p (w.wq - p.downStep), counts := { w.counts with lowers := satInc w.counts.lowers } }

/-- An evaluation (R118): L, T and the closing counter become 0 in every case. -/
def Window.evaluate (p : Params) (freeCells : Nat) (w : Window) : Window :=
  let v := Window.judge p freeCells w
  { v with late := 0, total := 0, closings := 0,
           counts := { v.counts with evaluations := satInc v.counts.evaluations } }

/-- A closing notice; the one that completes a run of sixteen starts an evaluation (R117). -/
def Window.closingNotice (p : Params) (freeCells : Nat) (w : Window) : Window :=
  if 16 ≤ w.closings + 1 then Window.evaluate p freeCells w else { w with closings := w.closings + 1 }

/-- Engine reset's work on the controller (R120). -/
def Window.afterReset (p : Params) : Window := { ({} : Window) with wq := clampWq p (16 * p.w0) }

end Sys2Proof.Machine
end

