-- ==== Sys2Proof/Machine/Slots.lean ====
section
/-! DEFINITION. The Alignment Store: opening, completion, closes, emission order, release, catch-up, placement (chapter 6). -/

namespace Sys2Proof.Machine

/-! ### Leaving OPEN (R97 to R99) -/

/-- One more of a close count (R85). -/
def CloseCounts.bump (c : CloseCounts) : Cause → CloseCounts
  | .complete => { c with complete := satInc c.complete }
  | .deadline => { c with deadline := satInc c.deadline }
  | .forcedPool => { c with forcedPool := satInc c.forcedPool }
  | .forcedRing => { c with forcedRing := satInc c.forcedRing }
  | .forcedDrain => { c with forcedDrain := satInc c.forcedDrain }
  | .timeStep => { c with timeStep := satInc c.timeStep }

/-- Counts a close. -/
def State.countClose (s : State) (c : Cause) : State :=
  { s with store := { s.store with closeCounts := s.store.closeCounts.bump c } }

/-- The awaited contexts a slot still misses. -/
def Slot.missing (x : Slot) : CtxSet := CtxSet.minus x.awaited x.arrived

/-- A slot record as it leaves OPEN for a cause, with the time state sampled (R99). -/
def Slot.leave (x : Slot) (cause : Cause) (sample : TruState × Nat) : Slot :=
  { x with
    cause := some cause
    sampled := some sample
    state := match cause with
      | .complete => .complete
      | _ => .closed }

/-- The Window Controller's closing notice, for the causes that send one (R99, R117). -/
def State.closingNotice (s : State) (c : Cause) : State :=
  match c with
  | .complete => { s with window := Window.closingNotice s.params s.freeCells s.window }
  | .deadline => { s with window := Window.closingNotice s.params s.freeCells s.window }
  | _ => s

/-- An OPEN slot leaves OPEN (R99): the time state is sampled, misses are charged, the notice is sent, the close counted. -/
def State.leaveOpen (s : State) (g : Nat) (c : Cause) : State :=
  let x := s.slot g
  (((s.setSlot g (x.leave c (s.tru.state, s.tru.quality s.params.drift))).chargeMisses x.missing).closingNotice c).countClose c

/-- Slot H_low is offered to the Set Composer when it is COMPLETE or CLOSED, and becomes EMITTING (R101, R128). -/
def State.offer (s : State) : State :=
  let x := s.slot s.store.hLow
  if x.state = .complete ∨ x.state = .closed then
    let s1 := s.setSlot s.store.hLow { x with state := .emitting }
    { s1 with composer := { s1.composer with working := some { g := s.store.hLow, next := 0 } } }
  else s

/-- The offer that follows slot g's leaving OPEN, when it is slot H_low (R101). -/
def State.offerIfLow (s : State) (g : Nat) : State := if g = s.store.hLow then s.offer else s

/-- Completion of slot g is evaluated (R97). -/
def State.evaluate (s : State) (g : Nat) : State :=
  let x := s.slot g
  if x.state = .opened ∧ x.missing = 0 ∧ s.instant g ≤ s.tru.now then (s.leaveOpen g .complete).offerIfLow g else s

/-- The deadline expiry of slot g is taken (R97, R98). -/
def State.expire (s : State) (g : Nat) : State :=
  let s1 := s.evaluate g
  if (s1.slot g).state = .opened then (s1.leaveOpen g .deadline).offerIfLow g else s1

/-- The deadline expiry of slot g is taken if it is due (R87, R98). -/
def State.expireIfDue (s : State) (g : Nat) : State :=
  if (s.slot g).state = .opened ∧ (s.slot g).deadline ≤ s.tru.now then s.expire g else s

/-- Slot g is closed by a forced drain or a time step (R99, R104, R106): an OPEN slot leaves OPEN; a COMPLETE slot keeps
its sampled time state and takes the new cause. -/
def State.closeFor (s : State) (c : Cause) (g : Nat) : State :=
  let x := s.slot g
  match x.state with
  | .opened => s.leaveOpen g c
  | .complete => (s.setSlot g { x with state := .closed, cause := some c }).countClose c
  | .free => s
  | .closed => s
  | .emitting => s

/-- The global slot numbers the ring spans from H_low, ascending (R85). -/
def State.span (s : State) : List Nat := (List.range 64).map fun i => s.store.hLow + i

/-- Every OPEN or COMPLETE slot is closed for a cause, in ascending G (R104, R106). -/
def State.closeAll (s : State) (c : Cause) : State := s.span.foldl (fun t g => t.closeFor c g) s

/-! ### Opening (R87 to R90) -/

/-- The awaited set a slot opened now takes (R16, R50, R87). -/
def State.awaitedFor (s : State) (g : Nat) : CtxSet := CtxSet.of fun k => s.awaitable k && s.expected k g

/-- Slot g is opened and its completion evaluated (R87). -/
def State.openSlot (s : State) (g : Nat) : State :=
  let r := Window.opening s.params (decide (s.freeCells < s.params.wm2)) s.window
  let x : Slot := { g := g, state := .opened, deadline := s.instant g + r.1 * 100000, awaited := s.awaitedFor g }
  ((({ s with window := r.2 }).setSlot g x).evaluate g)

/-- Slot g is opened, and its deadline expiry taken at once if it has passed (R87). -/
def State.openSlotNow (s : State) (g : Nat) : State := (s.openSlot g).expireIfDue g

/-- Whether catch-up opens slot g (R89). -/
def State.catchesUp (s : State) (g : Nat) : Bool :=
  decide (s.store.floor ≤ g) && decide (g ≤ s.gnow) && decide ((s.slot g).state = .free)

/-- Catch-up (R89): with the engine RUNNING, the FREE slots whose instants have passed are opened in ascending order, and
H_low offered if it is COMPLETE or CLOSED. -/
def State.catchUp (s : State) : State :=
  if s.mgmt.engine = .running then
    (s.span.foldl (fun t g => if t.catchesUp g then t.openSlotNow g else t) s).offer
  else s

/-- The ring-forcing rule (R90). -/
def State.forceRing (s : State) : State :=
  if (s.slot s.store.hLow).state = .opened then
    let s1 := s.leaveOpen s.store.hLow .forcedRing
    ({ s1 with store := { s1.store with ringForced := true } }).offer
  else s

/-- The store takes the instant event for G (R88). -/
def State.storeInstant (s : State) (g : Nat) : State :=
  if g < s.store.hLow ∨ g < s.store.floor then s
  else if g - s.store.hLow ≤ 63 then
    match (s.slot g).state with
    | .free => if s.mgmt.engine = .running then s.openSlotNow g else s
    | .opened => s.evaluate g
    | .complete => s
    | .closed => s
    | .emitting => s
  else if s.mgmt.engine = .running then s.forceRing
  else s

/-- The instant event for the next instant slot is raised and taken (R32, R88). -/
def State.takeInstant (s : State) : State :=
  let g := s.tru.nextInstant
  ({ s with tru := { s.tru with nextInstant := g + 1 } }).storeInstant g

/-! ### Release (R102) and time steps (R104) -/

/-- The least slot above H_low that a record holds (R102). -/
def State.heldAbove (s : State) : Option Nat := s.span.tail.find? fun g => decide ((s.slot g).state ≠ .free)

/-- Where H_low advances to: the least number above it that is held or at or above the step floor (R102). -/
def State.nextLow (s : State) : Nat :=
  let bare := max (s.store.hLow + 1) s.store.floor
  match s.heldAbove with
  | none => bare
  | some g => min g bare

/-- H_low advances (R102). -/
def State.advanceLow (s : State) : State := { s with store := { s.store with hLow := s.nextLow } }

/-- The store releases slot H_low on the composition-done notice, advances H_low, catches up and offers the next slot, and tells
of an empty ring (R102, R164). Where step 4 leaves H_low at a FREE slot below a held one, no rule offers the held slot in
DRAINING; that the drain then stands is a DESIGN CHOICE, log entry 36. -/
def State.release (s : State) : State :=
  let x := s.slot s.store.hLow
  let s1 := s.setSlot s.store.hLow Slot.empty
  let s2 := { s1 with store := { s1.store with
    freeList := x.cells.foldl (fun l c => c :: l) s1.store.freeList
    composed := satInc s1.store.composed } }
  (s2.advanceLow.catchUp.offer).judgeDrain

/-- The step floor becomes a value (R104). -/
def State.setFloor (s : State) (f : Nat) : State := { s with store := { s.store with floor := f } }

/-- H_low advances when its slot is FREE and lies below the step floor (R104). -/
def State.passFloor (s : State) : State :=
  if (s.slot s.store.hLow).state = .free ∧ s.store.hLow < s.store.floor then s.advanceLow else s

/-- The store takes the time-step event, under the new local time (R104). -/
def State.takeTimeStep (s : State) : State :=
  (((s.closeAll .timeStep).setFloor (s.gnow + 1)).passFloor.offer).catchUp

/-- The engine enters RUNNING (R105, R163). -/
def State.enterRunning (s : State) : State :=
  let f := max s.store.floor (s.gnow + 1)
  ({ s with
      mgmt := { s.mgmt with engine := .running, pendingMap := 0 }
      store := { s.store with floor := f, hLow := max s.store.hLow f } }).catchUp

/-! ### Placement (R91 to R96) -/

/-- The Intake Unit's counts (R68). -/
def IntakeCounts.bump (c : IntakeCounts) : IntakeCount → IntakeCounts
  | .accepted => { c with accepted := satInc c.accepted }
  | .queued => { c with queued := satInc c.queued }
  | .malformed => { c with malformed := satInc c.malformed }
  | .foreign => { c with foreign := satInc c.foreign }
  | .directiveDropped => { c with directiveDropped := satInc c.directiveDropped }
  | .unknownStream => { c with unknownStream := satInc c.unknownStream }
  | .disabled => { c with disabled := satInc c.disabled }
  | .layoutMismatch => { c with layoutMismatch := satInc c.layoutMismatch }
  | .paused => { c with paused := satInc c.paused }
  | .noTime => { c with noTime := satInc c.noTime }
  | .resetting => { c with resetting := satInc c.resetting }
  | .tagInvalid => { c with tagInvalid := satInc c.tagInvalid }
  | .offGrid => { c with offGrid := satInc c.offGrid }
  | .duplicate => { c with duplicate := satInc c.duplicate }
  | .late => { c with late := satInc c.late }
  | .future => { c with future := satInc c.future }
  | .outOfRing => { c with outOfRing := satInc c.outOfRing }
  | .drainingClosed => { c with drainingClosed := satInc c.drainingClosed }
  | .poolExhausted => { c with poolExhausted := satInc c.poolExhausted }

/-- The Intake Unit's work on a frame ends with a device-wide count raised, and the unit is IDLE (R57, R68). -/
def State.intakeEnds (s : State) (c : IntakeCount) : State :=
  { s with intake := { s.intake with busy := none, counts := s.intake.counts.bump c } }

/-- A report of context k is discarded with a reason: its device-wide count and the context's counter rise (R52, R61). -/
def State.discard (s : State) (k : Nat) (c : IntakeCount) : State := (s.intakeEnds c).bumpCtx k (ctxCountOf c)

/-- Step 5's discard of a report of context k in an engine state that admits none; PAUSED sets its pending bit (R64). -/
def State.engineDiscard (s : State) (k : Nat) : State :=
  match s.mgmt.engine with
  | .paused =>
    ({ s with mgmt := { s.mgmt with pendingMap := CtxSet.add s.mgmt.pendingMap k } }).discard k .paused
  | .waitTime => s.discard k .noTime
  | .resetting => s.discard k .resetting
  | .running => s
  | .draining => s

/-- Whether the engine admits reports past step 5 (R64). -/
def State.admits (s : State) : Bool := s.mgmt.engine == .running || s.mgmt.engine == .draining

/-- Whether step 1 of placement finds a report late (R91). -/
def State.isLate (s : State) (g : Nat) : Bool :=
  decide (g < s.store.hLow) || decide ((s.slot g).state = .closed) || decide ((s.slot g).state = .emitting)
    || (decide (g < s.store.floor) && decide ((s.slot g).state = .free))

/-- Steps 1 to 4 of placement (R91 to R93): the reason they discard for, if any. A request that meets an engine that is not
RUNNING was admitted in RUNNING or DRAINING, and no slot opens for it: outside DRAINING this is a DESIGN CHOICE, log entry 11. -/
def State.placementReason (s : State) (g : Nat) : Option IntakeCount :=
  if s.isLate g then some .late
  else if s.gnow + s.params.lead < g then some .future
  else if 63 < g - s.store.hLow then some .outOfRing
  else if s.mgmt.engine ≠ .running ∧ (s.slot g).state ≠ .opened ∧ (s.slot g).state ≠ .complete then
    some .drainingClosed
  else none

/-- The late notice of step 1 (R91, R116). -/
def State.lateNotice (s : State) (q : Placement) : State :=
  if q.awaitable then { s with window := s.window.lateNotice } else s

/-- The on-time notice of step 8 (R91, R96, R116). -/
def State.onTimeNotice (s : State) (q : Placement) : State :=
  if q.awaitable then { s with window := s.window.onTime } else s

/-- Step 7 with the free list empty (R95): POOL_PRESSURE is set and an OPEN slot H_low is closed with FORCED_POOL. -/
def State.forcePool (s : State) : State :=
  let s1 := { s with store := { s.store with poolPressure := true } }
  if (s1.slot s1.store.hLow).state = .opened then (s1.leaveOpen s1.store.hLow .forcedPool).offer else s1

/-- A cell linked into a cell list in ascending order of context index (R96). -/
def linkCell (pool : Tbl Cell) (c : Nat) : List Nat → List Nat
  | [] => [c]
  | d :: rest =>
    if (Tbl.get Cell.zero pool c).ctx < (Tbl.get Cell.zero pool d).ctx then c :: d :: rest
    else d :: linkCell pool c rest

/-- The cell c, taken from the head of the free list, is filled from the request and linked into slot G (R73, R86, R96). -/
def State.fillCell (s : State) (q : Placement) (c : Nat) (rest : List Nat) : State :=
  let contents := s.convert q
  let pool := Tbl.set Cell.zero s.store.pool c contents
  let s1 := { s with store := { s.store with
    pool := pool
    freeList := rest
    lowestFree := min s.store.lowestFree rest.length
    saturatedCells := if contents.saturated then satInc s.store.saturatedCells else s.store.saturatedCells } }
  let x := s1.slot q.g
  s1.setSlot q.g { x with arrived := CtxSet.add x.arrived q.ctx, cells := linkCell pool c x.cells }

/-- The Intake Unit's part of an acceptance (R51, R66). -/
def State.accepted (s : State) (q : Placement) : State :=
  let s1 := s.intakeEnds .accepted
  (s1.setCtx q.ctx ((s1.ctx q.ctx).accept q.g)).bumpCtx q.ctx .admitted

/-- Step 8: the report is accepted into the cell c (R96). -/
def State.acceptReport (s : State) (q : Placement) (c : Nat) (rest : List Nat) : State :=
  ((((s.fillCell q c rest).onTimeNotice q).evaluate q.g).accepted q)

/-- Steps 6 to 8 of placement (R94 to R96). -/
def State.placeInSlot (s : State) (q : Placement) : State :=
  if CtxSet.has (s.slot q.g).arrived q.ctx then s.discard q.ctx .duplicate
  else
    match s.store.freeList with
    | [] => s.forcePool.discard q.ctx .poolExhausted
    | c :: rest => s.acceptReport q c rest

/-- The store takes a placement request (R91 to R96); a slot it opens takes a passed deadline's expiry after the placement
has ended (R87). -/
def State.place (s : State) (q : Placement) : State :=
  match s.placementReason q.g with
  | some .late => (s.lateNotice q).discard q.ctx .late
  | some c => s.discard q.ctx c
  | none =>
    if (s.slot q.g).state = .free then ((s.openSlot q.g).placeInSlot q).expireIfDue q.g else s.placeInSlot q

/-! ### Disables and resets (R103, R108) -/

/-- The store removes a disabled context from every awaited set, then evaluates completion in ascending G (R103). -/
def State.clearAwaited (s : State) (k : Nat) : State :=
  let f : Nat → Slot → Slot := fun _ x =>
    if x.state = .free then x else { x with awaited := CtxSet.remove x.awaited k }
  let s1 := { s with store := { s.store with ring := Tbl.update Slot.empty f s.store.ring } }
  s1.span.foldl (fun t g => t.evaluate g) s1

/-- Engine reset's work on the store; the scrub begins (R108). -/
def Store.afterReset (x : Store) : Store := { ({} : Store) with pool := x.pool, scrubbing := true }

/-- The scrub has zeroed every cell (R108). -/
def Store.scrubbed (x : Store) : Store := { x with pool := [], scrubbing := false }

end Sys2Proof.Machine
end

