-- ==== Sys2Proof/Machine/Admission.lean ====
section
/-! DEFINITION. The ingress links and the Intake Unit: arrival, taking, classification and admission (chapter 4). -/

namespace Sys2Proof.Machine

/-- A frame arrives at an ingress link (R54 to R56). -/
def LinkIn.arrive (l : LinkIn) (f : InFrame) : LinkIn :=
  if 2048 < f.bytes.length then { l with oversize := satInc l.oversize }
  else if l.fifo.length < 16 then { l with fifo := l.fifo ++ [f], received := satInc l.received }
  else { l with overflow := satInc l.overflow, overflowFlag := true }

/-- The other link. -/
def otherLink : Link → Link
  | .a => .b
  | .b => .a

/-- The link the Intake Unit takes from: the preferred link if its FIFO holds a frame, else the other if its does (R57). -/
def State.takesFrom (s : State) : Option Link :=
  if (s.linkIn s.intake.preferred).fifo ≠ [] then some s.intake.preferred
  else if (s.linkIn (otherLink s.intake.preferred)).fifo ≠ [] then some (otherLink s.intake.preferred)
  else none

/-- A directive is handed to the directive queue, or dropped when four entries wait (R60). -/
def State.handDirective (s : State) (f : InFrame) : State :=
  if s.mgmt.queue.length < 4 then
    ({ s with mgmt := { s.mgmt with queue := s.mgmt.queue ++ [f] } }).intakeEnds .queued
  else s.intakeEnds .directiveDropped

/-- Whether a report's layout agrees with a descriptor (R63). -/
def layoutAgrees (r : Report) (d : Descriptor) : Bool :=
  decide (r.format = d.format) && decide (r.channels = d.channels) && decide (r.hasFreq = d.hasFreq)

/-- Steps 8 and 9 of admission (R65): awaitability is judged, the cadence updated, and the duplicate check made; a report
that passes leaves its placement request with the unit (R66). -/
def State.admitKept (s : State) (r : Report) (k g : Nat) (residual : Int) (mark : Bool) : State :=
  let judged := s.awaitable k
  let s1 := s.setCtx k ((s.ctx k).cadence s.params.cSat (s.cadencePeriod k) g)
  if (s1.ctx k).highest = some g then s1.discard k .duplicate
  else
    let q : Placement :=
      { ctx := k, g := g, residual := residual, offGrid := mark, awaitable := judged, flags := r.flags
        quality := r.quality, pairs := r.pairs, freq := r.freq }
    { s1 with intake := { s1.intake with busy := some q } }

/-- Steps 3 to 9 of admission for a report of context k (R61, R63 to R65). -/
def State.admitKnown (s : State) (r : Report) (k : Nat) : State :=
  if (s.ctx k).enabled = false then s.discard k .disabled
  else if layoutAgrees r (s.ctx k).desc = false then s.discard k .layoutMismatch
  else if s.admits = false then s.engineDiscard k
  else
    match reduceTag s.params.rate (s.ctx k).desc r.seconds r.ticks with
    | .tagInvalid => s.discard k .tagInvalid
    | .offGrid => s.discard k .offGrid
    | .kept g residual mark => s.admitKept r k g residual mark

/-- The admission of a report frame, up to the handover to placement (R61, R62, R37). -/
def State.admitReport (s : State) (bytes : List Byte) : State :=
  match parseReport bytes with
  | none => s.intakeEnds .malformed
  | some r =>
    match s.lookup r.streamId with
    | none => s.intakeEnds .unknownStream
    | some k => s.admitKnown r k

/-- The Intake Unit's work on a frame it has taken (R58, R59). -/
def State.workOn (s : State) (f : InFrame) : State :=
  if headerOk f.bytes = false then s.intakeEnds .malformed
  else
    match classify s.params.mgmtId f.bytes with
    | .report => s.admitReport f.bytes
    | .directive => s.handDirective f
    | .foreign => s.intakeEnds .foreign

/-- The IDLE Intake Unit takes the head of a FIFO; the preferred link becomes the other one (R57). -/
def State.takeFrame (s : State) : State :=
  match s.intake.busy, s.takesFrom with
  | none, some l =>
    match (s.linkIn l).fifo with
    | [] => s
    | f :: rest =>
      let s1 := s.setLinkIn l { s.linkIn l with fifo := rest }
      ({ s1 with intake := { s1.intake with preferred := otherLink l } }).workOn f
  | _, _ => s

/-- The store takes the placement request the unit is BUSY with, which ends the admission of its report (R66, R67). A request
that met RESETTING would be discarded as RESETTING (R57); none does, since a directive is taken after an admission in progress
(log entry 11). -/
def State.takePlacement (s : State) : State :=
  match s.intake.busy with
  | none => s
  | some q => if s.mgmt.engine = .resetting then s.discard q.ctx .resetting else s.place q

/-- Engine reset's work on a link (R69). -/
def LinkIn.afterReset (l : LinkIn) : LinkIn :=
  { l with received := 0, oversize := 0, overflow := 0, overflowFlag := false }

/-- Engine reset's work on the intake (R69). -/
def Intake.afterReset (i : Intake) : Intake :=
  { i with linkA := i.linkA.afterReset, linkB := i.linkB.afterReset, counts := {} }

end Sys2Proof.Machine
end

