-- ==== Sys2Proof/Machine/Compose.lean ====
section
/-! DEFINITION. The Set Composer: member records, sets, holding lists, batches, flushes, the composition of a slot
(chapter 8, 11.3). -/

namespace Sys2Proof.Machine

/-! ### Members (R129) -/

/-- The state of a member (R129). -/
inductive MemberState where
  | present (c : Cell)
  | disabled
  | notExpected
  | missing
deriving DecidableEq, Repr

/-- The cell a slot holds of context k, if any. -/
def State.cellOf (s : State) (x : Slot) (k : Nat) : Option Cell :=
  (x.cells.find? fun c => decide ((s.cell c).ctx = k)).map s.cell

/-- The state of the member that names context k in a slot (R129). -/
def State.memberState (s : State) (x : Slot) (k : Nat) : MemberState :=
  match s.cellOf x k with
  | some c => .present c
  | none =>
    if (s.ctx k).binding.isNone ∨ (s.ctx k).enabled = false then .disabled
    else if s.expected k x.g = false then .notExpected
    else .missing

/-- The stream ID a member record carries: the context's, or 0xFFFF when it is unbound (R129). -/
def State.memberId (s : State) (k : Nat) : Half := (s.ctx k).binding.getD 0xFFFF

/-- A member record (R129, 11.3). Bits 7 to 4 and 15 to 10 of the member flags, which no flag names, are 0: DESIGN CHOICE, log
entry 35. -/
def memberRecord (p : Profile) (sid : Half) : MemberState → List Byte
  | .present c =>
    beBytes 2 sid.toNat
      ++ [BitVec.ofNat 8 (bit (emittedFreq p c).isSome), BitVec.ofNat 8 c.pairs.length]
      ++ beBytes 2 c.flags.toNat
      ++ beBytes 2 (c.quality + 256 * bit c.offGrid + 512 * bit (memberSaturated p c))
      ++ beInt 4 c.residual
      ++ packedBytes p c
  | .disabled => beBytes 2 sid.toNat ++ [0x10, 0]
  | .notExpected => beBytes 2 sid.toNat ++ [0x11, 0]
  | .missing => beBytes 2 sid.toNat ++ [0x12, 0]

/-- The contexts of a profile's member range, in range order (R125). -/
def State.memberList (s : State) (p : Profile) : List Nat := (List.range p.count).map fun i => s.member (p.base + i)

/-- The members of a profile's set for a slot, with their stream IDs (R129). -/
def State.membersOf (s : State) (p : Profile) (x : Slot) : List (Half × MemberState) :=
  (s.memberList p).map fun k => (s.memberId k, s.memberState x k)

/-! ### Sets (R130, R131) -/

/-- The set time quality (R130): the greatest of the sampled code and the PRESENT members' station quality. -/
def setQuality (sampled : Nat) (ms : List (Half × MemberState)) : Nat :=
  ms.foldl (fun a m => match m.2 with
    | .present c => max a c.quality
    | _ => a) sampled

/-- The station-flags OR (R130). -/
def stationFlagsOr (ms : List (Half × MemberState)) : Half :=
  ms.foldl (fun a m => match m.2 with
    | .present c => a ||| c.flags
    | _ => a) 0

/-- Whether any member is MISSING (R130). -/
def anyMissing (ms : List (Half × MemberState)) : Bool := ms.any fun m => m.2 == .missing

/-- Whether any PRESENT member has its SATURATED flag set (R130). -/
def anySaturated (p : Profile) (ms : List (Half × MemberState)) : Bool :=
  ms.any fun m => match m.2 with
    | .present c => memberSaturated p c
    | _ => false

/-- The set flags as a number (R130, 11.3). Bits 15 to 8, which no flag names, are 0: DESIGN CHOICE, log entry 35. -/
def setFlags (p : Profile) (x : Slot) (ms : List (Half × MemberState)) : Nat :=
  bit (x.cause == some .forcedPool) + 2 * bit (x.cause == some .forcedRing) + 4 * bit (x.cause == some .forcedDrain)
    + 8 * bit (x.cause == some .timeStep)
    + 16 * bit (x.sampled.any fun t => t.1 == .holdover) + 32 * bit (x.sampled.any fun t => t.1 == .freerun)
    + 64 * bit (anyMissing ms) + 128 * bit (anySaturated p ms)

/-- Byte 20 of the set header (11.3). Bits 3 and 2, which no field names, are 0: DESIGN CHOICE, log entry 35. -/
def formatByte (p : Profile) : Byte :=
  BitVec.ofNat 8 (formatCode p.format + 2 * bit p.inclFreq
    + 16 * (match p.format with
        | .rect16 => p.shift
        | .rect32 => 0))

/-- The aligned-set frame of profile number n for a slot under output rate r (R130, R131, 11.3). -/
def setFrame (r n : Nat) (p : Profile) (x : Slot) (ms : List (Half × MemberState)) : List Byte :=
  let body :=
    beBytes 4 (x.g / r % 2 ^ 32) ++ beBytes 2 (x.g % r)
      ++ [BitVec.ofNat 8 r,
          BitVec.ofNat 8 (setQuality ((x.sampled.map Prod.snd).getD 0) ms)]
      ++ beBytes 2 (setFlags p x ms) ++ beBytes 2 (stationFlagsOr ms).toNat ++ [formatByte p, 0]
      ++ ms.flatMap fun m => memberRecord p m.1 m.2
  header 0x21 (8 + body.length) n p.count ++ body

/-- The set of profile number n for a slot (R129, R130). -/
def State.buildSet (s : State) (n : Nat) (x : Slot) : List Byte :=
  setFrame s.params.rate n (s.profile n) x (s.membersOf (s.profile n) x)

/-! ### Holding lists and batches (R131 to R135) -/

/-- A set-batch frame (R131, 11.3). -/
def batchFrame (n : Nat) (sets : List (List Byte)) : List Byte :=
  header 0x22 (8 + (sets.map List.length).sum) n sets.length ++ sets.flatten

/-- A frame joins the tail of the outbound list (R132). -/
def State.pushOutbound (s : State) (f : OutFrame) : State :=
  { s with composer := { s.composer with outbound := s.composer.outbound ++ [f] } }

/-- The held sets of profile n become one batch frame on the outbound list; an empty holding list forms none (R131, R133). -/
def State.formBatch (s : State) (n : Nat) : State :=
  let h := s.holding n
  if h.sets.isEmpty then s
  else
    let f : OutFrame := { bytes := batchFrame n h.sets, dest := (s.profile n).dest, kind := .batch, cls := .low }
    let s1 := (s.setHolding n Holding.empty).pushOutbound f
    { s1 with composer := { s1.composer with
        counts := { s1.composer.counts with batches := satInc s1.composer.counts.batches } } }

/-- Every non-empty holding list becomes a batch frame, in ascending profile number (R134, R135). -/
def State.formAllBatches (s : State) : State := (List.range 8).foldl State.formBatch s

/-- The bytes a batch of the held sets and a new set would take (R131). -/
def batchLength (sets : List (List Byte)) (new : List Byte) : Nat := 8 + (sets.map List.length).sum + new.length

/-- A built set of a batching profile joins its holding list, by the size rule and the depth (R131). -/
def State.holdSet (s : State) (n : Nat) (bytes : List Byte) : State :=
  let h := s.holding n
  let s1 := if h.sets.isEmpty = false ∧ 65535 < batchLength h.sets bytes then s.formBatch n else s
  let h1 := s1.holding n
  let h2 : Holding :=
    { sets := h1.sets ++ [bytes], timer := if h1.sets.isEmpty then some s1.tru.osc else h1.timer }
  let s2 := s1.setHolding n h2
  if (s2.profile n).depth ≤ h2.sets.length then s2.formBatch n else s2

/-- A built set is handed on: to the outbound list, or to the holding list of a batching profile (R131). -/
def State.handOn (s : State) (n : Nat) (bytes : List Byte) : State :=
  let p := s.profile n
  if p.depth = 0 then s.pushOutbound { bytes := bytes, dest := p.dest, kind := .set, cls := p.cls }
  else s.holdSet n bytes

/-- A profile's turn in slot x (R128): the set is built and handed on when the profile takes the slot. -/
def State.profileTurn (s : State) (n : Nat) (x : Slot) : State :=
  let p := s.profile n
  if p.enabled = true ∧ x.g % p.decimation = 0 then
    let bytes := s.buildSet n x
    let incomplete := anyMissing (s.membersOf p x)
    let s1 := { s with composer := { s.composer with counts := { s.composer.counts with
      sets := satInc s.composer.counts.sets
      incomplete := if incomplete then satInc s.composer.counts.incomplete else s.composer.counts.incomplete } } }
    s1.handOn n bytes
  else s

/-- The composer's work on its slot ends (R128, R135): drain batches are formed in DRAINING, the composer is IDLE, and the
composition-done notice releases the slot. -/
def State.composed (s : State) : State :=
  let s1 := if s.mgmt.engine = .draining then s.formAllBatches else s
  ({ s1 with composer := { s1.composer with working := none } }).release

/-- The slot is composed when next profile has reached 8 with the outbound list empty (R128). -/
def State.finishIfComposed (s : State) : State :=
  match s.composer.working with
  | none => s
  | some w => if 8 ≤ w.next ∧ s.composer.outbound = [] then s.composed else s

/-- The Set Composer considers the next profile for the slot it holds, its outbound list being empty (R128). -/
def State.considerNext (s : State) (w : Composing) : State :=
  if w.next < 8 then
    let s1 := s.profileTurn w.next (s.slot w.g)
    { s1 with composer := { s1.composer with working := some { w with next := w.next + 1 } } }
  else s

/-- One composition step (R128): with the outbound list empty, the next profile is considered, what is formed is offered,
and a slot whose profiles are all considered is composed. -/
def State.composeStep (s : State) : State :=
  match s.composer.working with
  | none => s
  | some w =>
    if s.composer.outbound = [] then ((s.considerNext w).settleAndJudge.finishIfComposed).settleAndJudge
    else s

/-! ### Hold expiry and flushes (R133, R134) -/

/-- Whether the hold timer of profile n has reached the batch hold limit (R133). -/
def State.holdDue (s : State) (n : Nat) : Bool :=
  match (s.holding n).timer with
  | none => false
  | some t => decide (t + s.params.holdLimit * 1000000 ≤ s.tru.osc)

/-- The hold expiry of profile n is taken (R133). -/
def State.holdExpire (s : State) (n : Nat) : State :=
  let s1 := s.formBatch n
  { s1 with composer := { s1.composer with
      counts := { s1.composer.counts with holdExpiries := satInc s1.composer.counts.holdExpiries } } }

/-- Every hold timer that has reached the limit expires (R133). R133 does not order the expiries of one write; ascending profile
number is the model's: DESIGN CHOICE, log entry 33. -/
def State.holdExpireDue (s : State) : State :=
  (List.range 8).foldl (fun t n => if t.holdDue n then t.holdExpire n else t) s

/-- The last of the frames that a flush formed is marked, at the tail of the outbound list (R134). -/
def markLast : List OutFrame → List OutFrame
  | [] => []
  | [f] => [{ f with endsFlush := true }]
  | f :: g :: rest => f :: markLast (g :: rest)

/-- A flush that forms frames: every non-empty holding list becomes a batch frame and the flush-busy flag is set until the
last of them is taken (R134). -/
def State.flushBegin (s : State) : State :=
  let s1 := s.formAllBatches
  { s1 with composer := { s1.composer with flushBusy := true, outbound := markLast s1.composer.outbound } }

/-- Engine reset's work on the composer (R137); the flush's end is told by `State.flushEnded`. -/
def Composer.afterReset (x : Composer) : Composer := { ({} : Composer) with flushBusy := x.flushBusy }

end Sys2Proof.Machine
end

