-- ==== Sys2Proof/Machine/Tables.lean ====
section
/-! DEFINITION. Table entries and table transfers: the encoding of each table's entries, the per-entry tests and effects of
writes, READ_ENTRIES and WRITE_ENTRIES (10.2 to 10.4, 11.6). -/

namespace Sys2Proof.Machine

/-! ### Access (R156) -/

/-- Whether an Access Table entry permits a class (R156). -/
def Access.permits (a : Access) (cls : Nat) : Bool := decide (cls ≤ a.level) || !(a.deny.getLsbD cls)

/-- Whether a sender's class is permitted by the Access Table entry of a table (R156); table 7 is written by class 0 alone. -/
def State.permits (s : State) (table cls : Nat) : Bool :=
  if table = 7 then decide (cls = 0) else (s.access table).permits cls

/-! ### Reading entries (R173) -/

/-- The value of an Engine Parameters entry (R159, R173). -/
def State.paramValue (s : State) (i : Nat) : Nat :=
  let p := s.params
  match i with
  | 0 => p.rate
  | 1 => mapSelectCode p.mapSelect
  | 2 => p.mgmtId
  | 3 => p.lead
  | 4 => ppsEdgeCode p.ppsEdge
  | 5 => p.cSat
  | 6 => p.cAwait
  | 7 => p.wMin
  | 8 => p.wMax
  | 9 => p.w0
  | 10 => bit p.adaptation
  | 11 => p.theta
  | 12 => p.upStep
  | 13 => p.downStep
  | 14 => s.window.wq
  | 15 => p.wm1
  | 16 => p.wm2
  | 17 => p.hMax
  | 18 => p.drift
  | 19 => p.holdLimit
  | 20 => p.promotion
  | 21 => p.highBypassMax
  | _ => p.lowBypassMax

/-- A Stream Map entry (R173). -/
def mapEntry : Option Binding → List Byte
  | none => beBytes 8 0
  | some b => [1, 0] ++ beBytes 2 b.streamId.toNat ++ beBytes 2 b.ctx ++ [0, 0]

/-- Entry k of Stream Contexts (R173). The fields of an unbound stream ID, an unset E and an unset Glast read as free values,
one for each context in each taking (log entry 10). Bits 7 to 4 of byte 5, which no field names, read as 0: DESIGN CHOICE, log
entry 35. -/
def ctxEntry (event k : Nat) (c : Ctx) : List Byte :=
  [BitVec.ofNat 8 (formatCode c.desc.format), BitVec.ofNat 8 c.desc.channels, BitVec.ofNat 8 (bit c.desc.hasFreq),
   BitVec.ofNat 8 (policyCode c.desc.policy), BitVec.ofNat 8 c.desc.rate,
   BitVec.ofNat 8 (bit c.binding.isSome + 2 * bit c.enabled + 4 * bit c.expected.isSome + 8 * bit c.highest.isSome)]
    ++ beBytes 2 c.desc.tolerance ++ beBytes 4 c.desc.timeBase
    ++ beBytes 2 (c.binding.getD (Config.unboundId event k)).toNat
    ++ [BitVec.ofNat 8 c.confidence, 0]
    ++ beBytes 6 (c.expected.getD (Config.unsetExpected event k).toNat)
    ++ beBytes 6 (c.highest.getD (Config.unsetHighest event k).toNat)
    ++ beBytes 4 c.counts.admitted ++ beBytes 4 c.counts.late ++ beBytes 4 c.counts.offGrid
    ++ beBytes 4 c.counts.duplicate ++ beBytes 4 c.counts.other

/-- A Channel Conversion entry (R173). -/
def conversionEntry (c : Conversion) : List Byte :=
  beBytes 2 c.multiplier ++ [BitVec.ofNat 8 c.shift, 0] ++ beInt 2 c.rotC ++ beInt 2 c.rotD

/-- A Profiles entry, with the number of sets held (R123, R173). -/
def profileEntry (p : Profile) (held : Nat) : List Byte :=
  [BitVec.ofNat 8 (bit p.enabled), BitVec.ofNat 8 (formatCode p.format), BitVec.ofNat 8 p.shift,
   BitVec.ofNat 8 (bit p.inclFreq)]
    ++ beBytes 4 p.dest.toNat ++ beBytes 2 p.base ++ beBytes 2 p.count
    ++ [BitVec.ofNat 8 p.decimation, BitVec.ofNat 8 (classCode p.cls), BitVec.ofNat 8 p.depth, BitVec.ofNat 8 held]

/-- A Managers entry (R173). -/
def managerEntry (m : Manager) : List Byte :=
  beBytes 4 m.source.toNat ++ [BitVec.ofNat 8 m.cls, BitVec.ofNat 8 (bit m.enabled), 0, 0]

/-- An Access entry (R173). -/
def accessEntry (a : Access) : List Byte := [BitVec.ofNat 8 a.level, BitVec.ofNat 8 a.deny.toNat]

/-- The bytes of entry i of a table as it stands: the same at every visit of a transfer (R158, R173). -/
def State.readEntry (s : State) (table i : Nat) : List Byte :=
  match table with
  | 0 => beBytes 4 (s.paramValue i)
  | 1 => mapEntry (s.way i)
  | 2 => ctxEntry s.free i (s.ctx i)
  | 3 => conversionEntry (s.conversion i)
  | 4 => profileEntry (s.profile i) (s.holding i).sets.length
  | 5 => beBytes 2 (s.member i)
  | 6 => managerEntry (s.manager i)
  | _ => accessEntry (s.access i)

/-- Whether an index lies in a table (R158). -/
def inTable (table : Nat) (i : Int) : Bool := decide (0 ≤ i) && decide (i ≤ (lastIndex table : Int))

/-- READ_ENTRIES (R158): `left` entries remain, n are done, `acc` holds what they read. -/
def State.readTransfer (s : State) (table : Nat) (step : Int) : Nat → Int → Nat → List Byte → Reply
  | 0, _, n, acc => { outcome := .done, entriesDone := n, data := acc }
  | left + 1, i, n, acc =>
    if inTable table i then
      State.readTransfer s table step left (i + step) (n + 1) (acc ++ s.readEntry table i.toNat)
    else { outcome := .partialDone, entriesDone := n, cause := some .badIndex, data := acc }

/-! ### Writing entries -/

/-- What writing one entry comes to. -/
inductive WriteResult where
  | fails (cause : OutcomeCode)
  | written (s : State) (clamped : Bool)

/-- An entry's tests that come before its value: the index, the sender's class, the lock (R42, R71, R124, R125, R155,
R156). -/
def State.entryGuard (s : State) (table : Nat) (i : Int) (cls : Nat) : Option OutcomeCode :=
  if inTable table i = false then some .badIndex
  else if s.permits table cls = false then some .denied
  else if s.mgmt.lock then some .locked
  else none

/-- The tests of a structural parameter (R159). -/
def State.structuralGuard (s : State) : Option OutcomeCode :=
  if s.mgmt.lock then some .locked
  else if s.mgmt.engine ≠ .paused then some .notPaused
  else none

/-- A structural entry: refused by the lock or the engine state, else as given (R159). -/
def State.structural (s : State) (r : WriteResult) : WriteResult :=
  match s.structuralGuard with
  | some c => .fails c
  | none => r

/-- An enumerated value: refused with INVALID_VALUE when it names none (R159). -/
def enumerated {α : Type} (v : Option α) (k : α → WriteResult) : WriteResult :=
  match v with
  | none => .fails .invalidValue
  | some x => k x

/-- A numeric value, clamped into its range, with whether it was (R159). -/
def numeric (lo hi v : Nat) (k : Nat → Bool → WriteResult) : WriteResult :=
  k (clampNat lo hi v) (clampNat lo hi v != v)

/-- The value of an enumerated parameter whose values stand for themselves. -/
def memberOf (values : List Nat) (v : Nat) : Option Nat := if v ∈ values then some v else none

/-- The Engine Parameters become p. -/
def State.setParams (s : State) (p : Params) : State := { s with params := p }

/-- W_q is clamped into the limits as they stand (R112). -/
def State.reclampWq (s : State) : State := { s with window := { s.window with wq := clampWq s.params s.window.wq } }

/-- Whether an enabled context or an enabled profile would not fit an output rate (R160). -/
def State.rateMisfit (s : State) (r : Nat) : Bool :=
  (List.range 256).any (fun k => (s.ctx k).enabled && !compatible r (s.ctx k).desc.rate)
    || (List.range 8).any (fun p => (s.profile p).enabled && decide (r % (s.profile p).decimation ≠ 0))

/-- The write of R (R160, R32). -/
def State.writeRate (s : State) (r : Nat) : WriteResult :=
  match s.structuralGuard with
  | some c => .fails c
  | none =>
    if r ≠ s.params.rate ∧ (s.store.hLow ≠ 0 ∨ s.store.floor ≠ 0) then .fails .notPaused
    else if s.rateMisfit r then .fails .rateMismatch
    else
      .written
        { s with params := { s.params with rate := r }
                 tru := { s.tru with nextInstant := currentSlot r s.tru.now + 1 } } false

/-- HOLDOVER is judged against the holdover parameters as they stand (R26). -/
def State.judgeHoldover (s : State) : State := { s with tru := Tru.holdoverLimits s.params s.tru }

/-- The write of an Engine Parameters entry with its own tests and effects (R159 and the rule of each parameter). -/
def State.writeParam (s : State) (i v : Nat) : WriteResult :=
  let p := s.params
  match i with
  | 0 => enumerated (memberOf rates v) s.writeRate
  | 1 => enumerated (mapSelectOf v) fun x =>
      s.structural (if s.mapOccupied then .fails .mapNotEmpty else .written (s.setParams { p with mapSelect := x }) false)
  | 2 => s.structural (numeric 0 65535 v fun x c => .written (s.setParams { p with mgmtId := x }) c)
  | 3 => s.structural (numeric 0 32 v fun x c => .written (s.setParams { p with lead := x }) c)
  | 4 => enumerated (ppsEdgeOf v) fun x => s.structural (.written (s.setParams { p with ppsEdge := x }) false)
  | 5 => numeric 1 15 v fun x c => .written (s.setParams { p with cSat := x }).clampConfidence c
  | 6 => numeric 0 15 v fun x c => .written (s.setParams { p with cAwait := x }) c
  | 7 => numeric 1 40000 v fun x c =>
      if p.wMax < x then .fails .invalidValue else .written (s.setParams { p with wMin := x }).reclampWq c
  | 8 => numeric 1 40000 v fun x c =>
      if x < p.wMin then .fails .invalidValue else .written (s.setParams { p with wMax := x }).reclampWq c
  | 9 => numeric 1 40000 v fun x c => .written (s.setParams { p with w0 := x }) c
  | 10 => enumerated (memberOf [0, 1] v) fun x => .written (s.setParams { p with adaptation := x == 1 }) false
  | 11 => enumerated (memberOf [1, 2, 4, 8] v) fun x => .written (s.setParams { p with theta := x }) false
  | 12 => enumerated (memberOf [16, 32, 64, 128] v) fun x => .written (s.setParams { p with upStep := x }) false
  | 13 => enumerated (memberOf [1, 2, 4, 8] v) fun x => .written (s.setParams { p with downStep := x }) false
  | 14 => numeric (16 * p.wMin) (16 * p.wMax) v fun x c => .written { s with window := { s.window with wq := x } } c
  | 15 => numeric 0 4095 v fun x c =>
      if x < p.wm2 then .fails .invalidValue else .written (s.setParams { p with wm1 := x }) c
  | 16 => numeric 0 4095 v fun x c =>
      if p.wm1 < x then .fails .invalidValue else .written (s.setParams { p with wm2 := x }) c
  | 17 => numeric 0 86400 v fun x c => .written (s.setParams { p with hMax := x }).judgeHoldover c
  | 18 => numeric 1 100000 v fun x c => .written (s.setParams { p with drift := x }).judgeHoldover c
  | 19 => numeric 10 60000 v fun x c => .written (s.setParams { p with holdLimit := x }).holdExpireDue c
  | 20 => numeric 1 1000 v fun x c => .written (s.setParams { p with promotion := x }) c
  | 21 => numeric 1 15 v fun x c => .written (s.setParams { p with highBypassMax := x }) c
  | _ => numeric 1 15 v fun x c => .written (s.setParams { p with lowBypassMax := x }) c

/-- An entry of the Engine Parameters (R159). -/
def State.writeParamEntry (s : State) (i : Int) (cls : Nat) (e : List Byte) : WriteResult :=
  if inTable 0 i = false then .fails .badIndex
  else if s.permits 0 cls = false then .fails .denied
  else s.writeParam i.toNat (field e 0 4)

/-- An entry of the Stream Map, always refused (R40). -/
def State.writeMapEntry (s : State) (i : Int) (cls : Nat) : WriteResult :=
  match s.entryGuard 1 i cls with
  | some c => .fails c
  | none => .fails .badTable

/-- The descriptor an entry of Stream Contexts carries, or none where a field has no valid value (R42, R173). -/
def descriptorOf (e : List Byte) : Option Descriptor :=
  match formatOf (byteAt e 0), yesNo (byteAt e 2), policyOf (byteAt e 3) with
  | some f, some hasFreq, some policy =>
    let channels := (byteAt e 1).toNat
    let rate := (byteAt e 4).toNat
    let timeBase := field e 8 4
    if channels ≤ 16 ∧ rate ∈ rates ∧ 1 ≤ timeBase ∧ timeBase ≤ 1073741823 then
      some { format := f, channels := channels, hasFreq := hasFreq, rate := rate, timeBase := timeBase,
             tolerance := field e 6 2, policy := policy }
    else none
  | _, _, _ => none

/-- An entry of Stream Contexts (R42). -/
def State.writeCtxEntry (s : State) (i : Int) (cls : Nat) (e : List Byte) : WriteResult :=
  match s.entryGuard 2 i cls with
  | some c => .fails c
  | none =>
    if (s.ctx i.toNat).enabled then .fails .busyContext
    else enumerated (descriptorOf e) fun d => .written (s.setCtx i.toNat { s.ctx i.toNat with desc := d }) false

/-- The calibration an entry of the Channel Conversion Table carries, or none where a field is out of range (R71). -/
def conversionOf (e : List Byte) : Option Conversion :=
  let sh := (byteAt e 2).toNat
  let c := signedField e 4 2
  let d := signedField e 6 2
  if sh ≤ 31 ∧ -16384 ≤ c ∧ c ≤ 16384 ∧ -16384 ≤ d ∧ d ≤ 16384 then
    some { multiplier := field e 0 2, shift := sh, rotC := c, rotD := d }
  else none

/-- An entry of the Channel Conversion Table (R71). -/
def State.writeConversionEntry (s : State) (i : Int) (cls : Nat) (e : List Byte) : WriteResult :=
  match s.entryGuard 3 i cls with
  | some c => .fails c
  | none => enumerated (conversionOf e) fun x => .written (s.setConversion i.toNat x) false

/-- The profile an entry of Profiles carries, its enabled state ignored, or none where a field has no valid value (R124). -/
def profileOf (e : List Byte) : Option Profile :=
  match formatOf (byteAt e 1), yesNo (byteAt e 3), classOf (byteAt e 13) with
  | some f, some inclFreq, some cls =>
    let shift := (byteAt e 2).toNat
    let base := field e 8 2
    let count := field e 10 2
    let k := (byteAt e 12).toNat
    let q := (byteAt e 14).toNat
    if base ≤ 1023 ∧ count ≤ 256 ∧ shift ≤ 15 ∧ 1 ≤ k ∧ k ≤ 240 ∧ q ≠ 1 ∧ q ≤ 16 then
      some { dest := BitVec.ofNat 32 (field e 4 4), base := base, count := count, format := f, shift := shift,
             inclFreq := inclFreq, decimation := k, cls := cls, depth := q }
    else none
  | _, _, _ => none

/-- An entry of Profiles (R124). -/
def State.writeProfileEntry (s : State) (i : Int) (cls : Nat) (e : List Byte) : WriteResult :=
  match s.entryGuard 4 i cls with
  | some c => .fails c
  | none =>
    if (s.profile i.toNat).enabled then .fails .busyContext
    else enumerated (profileOf e) fun p =>
      .written (s.setProfile i.toNat { p with enabled := (s.profile i.toNat).enabled }) false

/-- Whether a Member List entry lies within the range of an enabled profile (R125). -/
def State.memberInUse (s : State) (e : Nat) : Bool :=
  (List.range 8).any fun n =>
    (s.profile n).enabled && decide ((s.profile n).base ≤ e) && decide (e < (s.profile n).base + (s.profile n).count)

/-- An entry of Member Lists (R125). -/
def State.writeMemberEntry (s : State) (i : Int) (cls : Nat) (e : List Byte) : WriteResult :=
  match s.entryGuard 5 i cls with
  | some c => .fails c
  | none =>
    if s.memberInUse i.toNat then .fails .busyContext
    else if 255 < field e 0 2 then .fails .invalidValue
    else .written (s.setMember i.toNat (field e 0 2)) false

/-- The manager an entry of Managers carries, or none where a field has no valid value (R155, R173). -/
def managerOf (e : List Byte) : Option Manager :=
  match yesNo (byteAt e 5) with
  | none => none
  | some enabled =>
    if (byteAt e 4).toNat ≤ 3 then
      some { source := BitVec.ofNat 32 (field e 0 4), cls := (byteAt e 4).toNat, enabled := enabled }
    else none

/-- Whether another enabled entry of the Manager Table holds a source tag (R155). -/
def State.sourceTaken (s : State) (i : Nat) (source : Word) : Bool :=
  (List.range 4).any fun j => decide (j ≠ i) && (s.manager j).enabled && (s.manager j).source == source

/-- An entry of Managers (R155). -/
def State.writeManagerEntry (s : State) (i : Int) (cls : Nat) (e : List Byte) : WriteResult :=
  match s.entryGuard 6 i cls with
  | some c => .fails c
  | none => enumerated (managerOf e) fun m =>
      if m.enabled && s.sourceTaken i.toNat m.source then .fails .invalidValue
      else .written (s.setManager i.toNat m) false

/-- The entry that an entry of the Access Table carries, or none where a field has no valid value (R156). -/
def accessOf (e : List Byte) : Option Access :=
  if (byteAt e 0).toNat ≤ 3 ∧ (byteAt e 1).toNat < 16 then
    some { level := (byteAt e 0).toNat, deny := BitVec.ofNat 4 (byteAt e 1).toNat }
  else none

/-- An entry of the Access Table (R156). -/
def State.writeAccessEntry (s : State) (i : Int) (cls : Nat) (e : List Byte) : WriteResult :=
  match s.entryGuard 7 i cls with
  | some c => .fails c
  | none => enumerated (accessOf e) fun a => .written (s.setAccess i.toNat a) false

/-- One entry of a WRITE_ENTRIES (R158). -/
def State.writeEntry (s : State) (table : Nat) (i : Int) (cls : Nat) (e : List Byte) : WriteResult :=
  match table with
  | 0 => s.writeParamEntry i cls e
  | 1 => s.writeMapEntry i cls
  | 2 => s.writeCtxEntry i cls e
  | 3 => s.writeConversionEntry i cls e
  | 4 => s.writeProfileEntry i cls e
  | 5 => s.writeMemberEntry i cls e
  | 6 => s.writeManagerEntry i cls e
  | _ => s.writeAccessEntry i cls e

/-- WRITE_ENTRIES (R158): the entries that remain, the index of the next, how many are done and whether one was clamped. -/
def writeTransfer (table cls : Nat) (step : Int) :
    List (List Byte) → Int → Nat → Bool → State → State × Reply
  | [], _, n, cl, s => (s, { outcome := if cl then .clamped else .done, entriesDone := n })
  | e :: rest, i, n, cl, s =>
    match s.writeEntry table i cls e with
    | .fails c => (s, { outcome := .partialDone, entriesDone := n, cause := some c, clampedBefore := cl })
    | .written t c => writeTransfer table cls step rest (i + step) (n + 1) (cl || c) t

/-- The entries of a transfer's data. -/
def entriesOf (size count : Nat) (data : List Byte) : List (List Byte) :=
  (List.range count).map fun i => (data.drop (i * size)).take size

end Sys2Proof.Machine
end

