-- ==== Sys2Proof/Machine/Status.lean ====
section
/-! DEFINITION. The six status records of READ_STATUS and the clear option (R33, R68, R109, R121, R138, R152, R167, 11.7). The bits
of their flag bytes that no flag names (ENGINE byte 1, TIME byte 6, STORE byte 25, INTAKE byte 1, EGRESS byte 5) are 0: DESIGN
CHOICE, log entry 35. -/

namespace Sys2Proof.Machine

/-- Counts of a record, four bytes each. -/
def countBytes (cs : List Nat) : List Byte := cs.flatMap (beBytes 4)

/-- One byte of a record. -/
def byte1 (n : Nat) : List Byte := [BitVec.ofNat 8 n]

/-- The pending map, context c at bit c mod 8 of byte floor(c / 8) (11.7). -/
def mapBytes (m : CtxSet) : List Byte := (List.range 32).map fun i => m.extractLsb' (8 * i) 8

/-- The ENGINE record (R167). -/
def State.engineRecord (s : State) : List Byte :=
  let m := s.mgmt
  byte1 (engineCode m.engine)
    ++ byte1 (bit m.lock + 2 * (match m.exec with
        | .waiting _ => 1
        | _ => 0) + 4 * bit m.deferredReset.isSome + 8 * bit m.deferredFlush.isSome)
    ++ beBytes 2 s.params.mgmtId ++ byte1 m.queue.length ++ [0, 0, 0] ++ mapBytes m.pendingMap
    ++ countBytes [m.counts.executed, m.counts.unknownSource, m.counts.denied, m.counts.locked, m.counts.busy]

/-- The TIME record (R33). -/
def State.timeRecord (s : State) : List Byte :=
  let t := s.tru
  byte1 (truCode t.state) ++ byte1 (t.quality s.params.drift) ++ byte1 t.clockQuality ++ byte1 t.qualified
    ++ byte1 t.unqualifiedRun ++ byte1 t.mismatchRun
    ++ byte1 (bit t.held.isSome + 2 * ppsEdgeCode s.params.ppsEdge) ++ [0]
    ++ beBytes 8 (t.now / secondNs) ++ beBytes 4 (t.now % secondNs) ++ beBytes 4 t.elapsedHoldover
    ++ beInt 4 t.slew ++ beBytes 4 s.params.drift ++ beBytes 4 s.params.hMax
    ++ countBytes [t.counts.unqualifiedEdges, t.counts.mismatchedEdges, t.counts.edgeTimeouts, t.counts.rejectedTod,
        t.counts.holdoverEntries, t.counts.slewedRelocks, t.counts.steppedRelocks, t.counts.timeSteps]

/-- The number of slot records in a state (R109). -/
def State.recordsIn (s : State) (x : SlotState) : Nat :=
  ((List.range 64).filter fun i => decide ((Tbl.get Slot.empty s.store.ring i).state = x)).length

/-- The STORE record (R109). -/
def State.storeRecord (s : State) : List Byte :=
  let x := s.store
  let h := s.slot x.hLow
  let d := if h.state = .free then 0 else h.deadline
  beBytes 6 x.hLow ++ beBytes 6 x.floor ++ beBytes 6 x.hLow ++ byte1 (slotStateCode h.state)
    ++ byte1 (causeCode h.cause)
    ++ byte1 (s.recordsIn .free) ++ byte1 (s.recordsIn .opened) ++ byte1 (s.recordsIn .complete)
    ++ byte1 (s.recordsIn .closed) ++ byte1 (s.recordsIn .emitting)
    ++ byte1 (bit x.poolPressure + 2 * bit x.ringForced + 4 * bit x.scrubbing)
    ++ beBytes 2 s.freeCells ++ beBytes 2 x.lowestFree ++ beBytes 2 s.params.wm1 ++ beBytes 2 s.params.wm2
    ++ byte1 s.params.lead ++ [0] ++ beBytes 8 (d / secondNs) ++ beBytes 4 (d % secondNs)
    ++ countBytes [x.closeCounts.complete, x.closeCounts.deadline, x.closeCounts.forcedPool, x.closeCounts.forcedRing,
        x.closeCounts.forcedDrain, x.closeCounts.timeStep, x.composed, x.saturatedCells]

/-- The WINDOW record (R121). -/
def State.windowRecord (s : State) : List Byte :=
  let w := s.window
  let p := s.params
  beBytes 4 w.wq ++ beBytes 2 (w.wq / 16) ++ byte1 (w.wq % 16) ++ byte1 w.j ++ byte1 w.closings
    ++ byte1 (bit p.adaptation) ++ byte1 p.theta ++ byte1 p.upStep ++ byte1 p.downStep ++ [0]
    ++ beBytes 2 w.lastApplied ++ beBytes 4 w.late ++ beBytes 4 w.total
    ++ beBytes 2 p.wMin ++ beBytes 2 p.wMax ++ beBytes 2 p.w0 ++ [0, 0]
    ++ countBytes [w.counts.evaluations, w.counts.raises, w.counts.lowers, w.counts.holds, w.counts.idle,
        w.counts.overridden]

/-- The INTAKE record (R68). -/
def State.intakeRecord (s : State) : List Byte :=
  let i := s.intake
  let a := i.linkA
  let b := i.linkB
  let c := i.counts
  byte1 (linkInCode i.preferred) ++ byte1 (bit a.overflowFlag + 2 * bit b.overflowFlag)
    ++ byte1 a.fifo.length ++ byte1 b.fifo.length
    ++ countBytes [a.received, a.oversize, a.overflow, b.received, b.oversize, b.overflow]
    ++ countBytes [c.accepted, c.queued, c.malformed, c.foreign, c.directiveDropped, c.unknownStream, c.disabled,
        c.layoutMismatch, c.paused, c.noTime, c.resetting, c.tagInvalid, c.offGrid, c.duplicate, c.late, c.future,
        c.outOfRing, c.drainingClosed, c.poolExhausted]

/-- The microseconds of an age in the EGRESS record: exact where the age is a whole number of them, rounded one way or the
other where it is not, and free where they do not fit (log entry 9). -/
def ageMicros (event age : Nat) : Nat :=
  let us := age / 1000 + (if age % 1000 = 0 then 0 else bit (Config.ageRoundsUp event))
  if us < 2 ^ 32 then us else (Config.ageOverflow event).toNat

/-- The number of entries of an effective class (R152). -/
def State.entriesOfClass (s : State) (c : PriorityClass) : Nat :=
  (s.egress.queue.filter fun e => e.effective s.params s.tru.osc == c).length

/-- The oldest entry's class, kind and bypass count, and its age, zero when the queue is empty (R152, 11.7). -/
def State.oldestFields (s : State) : List Byte × List Byte :=
  match s.egress.queue with
  | [] => ([0, 0, 0], [0, 0, 0, 0])
  | e :: _ =>
    (byte1 (classCode e.frame.cls) ++ byte1 (kindCode e.frame.kind) ++ byte1 e.bypass,
     beBytes 4 (ageMicros s.free (e.age s.tru.osc)))

/-- The composer's state in the EGRESS record (R138, 11.7). -/
def State.workingFields (s : State) : List Byte :=
  match s.composer.working with
  | none => byte1 0 ++ byte1 0 ++ beBytes 6 0
  | some w => byte1 1 ++ byte1 w.next ++ beBytes 6 w.g

/-- The EGRESS record (R138, R152). -/
def State.egressRecord (s : State) : List Byte :=
  let x := s.egress
  let c := x.counts
  let k := s.composer.counts
  byte1 x.queue.length ++ byte1 (s.entriesOfClass .high) ++ byte1 (s.entriesOfClass .medium)
    ++ byte1 (s.entriesOfClass .low) ++ byte1 (linkCode x.link)
    ++ byte1 (bit x.shedFlag + 2 * bit x.composerWaits + 4 * (match s.mgmt.exec with
        | .waiting _ => 1
        | _ => 0) + 8 * bit s.composer.flushBusy)
    ++ s.oldestFields.1 ++ byte1 s.params.highBypassMax ++ byte1 s.params.lowBypassMax
    ++ byte1 s.composer.outbound.length ++ beBytes 2 s.params.promotion ++ s.oldestFields.2 ++ s.workingFields
    ++ (List.range 8).flatMap (fun p => byte1 (s.holding p).sets.length) ++ [0, 0]
    ++ countBytes [c.sent, c.answers, c.sets, c.batches, c.promoted, c.limited, c.shed, c.answerWaits, c.highWater]
    ++ countBytes [k.sets, k.incomplete, k.batches, k.holdExpiries, k.waits]

/-- The record a selector names (R167, 11.4). -/
def State.statusRecord (s : State) (selector : Nat) : List Byte :=
  match selector with
  | 0 => s.engineRecord
  | 1 => s.timeRecord
  | 2 => s.storeRecord
  | 3 => s.windowRecord
  | 4 => s.intakeRecord
  | _ => s.egressRecord

/-- The clear option: the sticky flags of the record a selector names are cleared (R69, R109, R152, R167). -/
def State.clearFlags (s : State) (selector : Nat) : State :=
  match selector with
  | 2 => { s with store := { s.store with poolPressure := false, ringForced := false } }
  | 4 => { s with intake := { s.intake with
      linkA := { s.intake.linkA with overflowFlag := false }
      linkB := { s.intake.linkB with overflowFlag := false } } }
  | 5 => { s with egress := { s.egress with shedFlag := false } }
  | _ => s

end Sys2Proof.Machine
end

