-- ==== Sys2Proof/Machine/Manage.lean ====
section
/-! DEFINITION. The Management Unit: the checks of a directive, the directives' own work, the answer, resets and the end of
the scrub (chapter 10). -/

namespace Sys2Proof.Machine

/-! ### Checks (R154 to R156) -/

/-- The enabled Manager Table entry that matches a source tag (R155). -/
def State.managerOf (s : State) (source : Word) : Option Nat :=
  (List.range 4).find? fun i => (s.manager i).enabled && (s.manager i).source == source

/-- Whether any Manager Table entry is enabled (R155). -/
def State.anyManager (s : State) : Bool := (List.range 4).any fun i => (s.manager i).enabled

/-- The class of a directive's sender, or none where its source is unknown (R155); 0 in the commissioning mode. -/
def State.senderClass (s : State) (source : Word) : Option Nat :=
  match s.managerOf source with
  | some i => some (s.manager i).cls
  | none => if s.anyManager then none else some 0

/-- Whether a directive is a table transfer. -/
def isTransfer : DirectiveCode → Bool
  | .readEntries => true
  | .writeEntries => true
  | _ => false

/-- Order 4's test of a directive's count, step, selector and option fields (R154, R171). -/
def fieldsOk (c : DirectiveCode) (d : Directive) : Bool :=
  match c with
  | .readEntries => decide (1 ≤ d.count.toNat) && decide (d.count.toNat ≤ 64) && (stepOf d.step).isSome
  | .writeEntries => decide (1 ≤ d.count.toNat) && decide (d.count.toNat ≤ 64) && (stepOf d.step).isSome
  | .readStatus => decide (d.option.toNat ≤ 5) && decide (d.count.toNat ≤ 1)
  | .setStreamState => decide (d.option.toNat ≤ 1)
  | _ => true

/-- The frame length of a directive (11.4). -/
def directiveLength (c : DirectiveCode) (d : Directive) : Nat :=
  match c with
  | .writeEntries => 16 + d.count.toNat * entrySize d.option.toNat
  | .bindStream => 20
  | _ => 16

/-- Whether a directive is permitted to a sender's class before its own tests (R156). -/
def State.permitted (s : State) (c : DirectiveCode) (cls : Nat) : Bool :=
  match c with
  | .readEntries => true
  | .readStatus => true
  | .writeEntries => true
  | .engineReset => decide (cls = 0)
  | .lockConfig => decide (cls = 0)
  | .bindStream => (s.access 1).permits cls
  | .unbindStream => (s.access 1).permits cls
  | .setStreamState => (s.access 2).permits cls
  | .enableProfile => (s.access 4).permits cls
  | .disableProfile => (s.access 4).permits cls
  | .resume => (s.access 0).permits cls
  | .pause => (s.access 0).permits cls
  | .pauseNow => (s.access 0).permits cls
  | .flushBatches => (s.access 0).permits cls
  | .clearCounters => (s.access 0).permits cls

/-- Whether the configuration lock refuses a directive at order 8 (R154, R157). -/
def lockRefuses : DirectiveCode → Bool
  | .bindStream => true
  | .unbindStream => true
  | _ => false

/-- Orders 3 to 8 of R154 for a directive of a known code: the outcome of the first check that fails. -/
def State.checkKnown (s : State) (cls : Nat) (c : DirectiveCode) (d : Directive) : Option OutcomeCode :=
  if isTransfer c ∧ 7 < d.option.toNat then some .badTable
  else if fieldsOk c d = false then some .invalidValue
  else if d.length ≠ directiveLength c d then some .malformed
  else if s.mgmt.engine = .resetting ∧ c ≠ .readStatus then some .busy
  else if s.permitted c cls = false then some .denied
  else if lockRefuses c ∧ s.mgmt.lock then some .locked
  else none

/-! ### The directives' own work -/

/-- A plain outcome. -/
def reply (c : OutcomeCode) : Reply := { outcome := c }

/-- BIND_STREAM (R38). -/
def State.bindWork (s : State) (k : Nat) (sid : Half) : State × Reply :=
  if 255 < k then (s, reply .badIndex)
  else if sid = 0xFFFF then (s, reply .invalidValue)
  else if (s.ctx k).enabled then (s, reply .busyContext)
  else if (List.range 1024).any (s.wayHolds sid) ∨ (s.ctx k).binding.isSome then (s, reply .alreadyBound)
  else
    match s.emptyWay (bucketOf s.params.mapSelect sid) with
    | none => (s, reply .bucketFull)
    | some i =>
      ((s.setWay i (some { streamId := sid, ctx := k })).setCtx k { s.ctx k with binding := some sid }, reply .done)

/-- Whether a way holds the binding of context k. -/
def State.wayOfCtx (s : State) (k i : Nat) : Bool :=
  match s.way i with
  | none => false
  | some b => b.ctx == k

/-- UNBIND_STREAM (R39). -/
def State.unbindWork (s : State) (k : Nat) : State × Reply :=
  if 255 < k then (s, reply .badIndex)
  else if (s.ctx k).enabled then (s, reply .busyContext)
  else if (s.ctx k).binding.isNone then (s, reply .notBound)
  else
    let s1 := match (List.range 1024).find? (s.wayOfCtx k) with
      | none => s
      | some i => s.setWay i none
    (s1.setCtx k { s.ctx k with binding := none }, reply .done)

/-- SET_STREAM_STATE enable (R43). -/
def State.enableWork (s : State) (k : Nat) : State × Reply :=
  if 255 < k then (s, reply .badIndex)
  else if (s.ctx k).binding.isNone then (s, reply .notBound)
  else if compatible s.params.rate (s.ctx k).desc.rate = false then (s, reply .rateMismatch)
  else if (s.ctx k).enabled then (s, reply .done)
  else
    (s.setCtx k { s.ctx k with enabled := true, confidence := 0, expected := none, highest := none }, reply .done)

/-- SET_STREAM_STATE disable (R44, R103). -/
def State.disableWork (s : State) (k : Nat) : State × Reply :=
  if 255 < k then (s, reply .badIndex)
  else if (s.ctx k).enabled = false then (s, reply .done)
  else ((s.setCtx k { s.ctx k with enabled := false }).clearAwaited k, reply .done)

/-- Whether two entries of a profile's member range hold the same context index (R126). -/
def State.duplicateMember (s : State) (p : Profile) : Bool := decide (¬ (s.memberList p).Nodup)

/-- ENABLE_PROFILE (R126). -/
def State.enableProfileWork (s : State) (n : Nat) : State × Reply :=
  if 7 < n then (s, reply .badIndex)
  else
    let p := s.profile n
    if p.enabled then (s, reply .done)
    else if 1024 < p.base + p.count then (s, reply .badIndex)
    else if s.params.rate % p.decimation ≠ 0 then (s, reply .rateMismatch)
    else if p.depth ≠ 0 ∧ p.cls ≠ .low then (s, reply .invalidValue)
    else if s.duplicateMember p then (s, reply .duplicateMember)
    else (s.setProfile n { p with enabled := true }, reply .done)

/-- DISABLE_PROFILE (R127). -/
def State.disableProfileWork (s : State) (n : Nat) : State × Reply :=
  if 7 < n then (s, reply .badIndex)
  else if (s.profile n).enabled = false then (s, reply .done)
  else ((s.setProfile n { s.profile n with enabled := false }).formBatch n, reply .done)

/-- Whether the TRU has locked (R162). -/
def hasLocked : TruState → Bool
  | .unset => false
  | .acquiring => false
  | .locked => true
  | .holdover => true
  | .freerun => true

/-- The engine state becomes e. -/
def State.setEngine (s : State) (e : EngineState) : State := { s with mgmt := { s.mgmt with engine := e } }

/-- RESUME (R162, R163). -/
def State.resumeWork (s : State) : State × Reply :=
  if s.mgmt.engine = .paused then
    if hasLocked s.tru.state then (s.enterRunning, reply .done) else (s.setEngine .waitTime, reply .done)
  else (s, reply .notPaused)

/-- The entry to DRAINING: the composer's batches, the store's offer, and the first judgement of the drain's end (R164). H_low
stands (R101, R102): where it is FREE below a slot opened early by a report, R105 and R106 have the held slots composed and no
rule offers them; that the drain then stands until H_low moves on at a time step, or a reset, is a DESIGN CHOICE, log entry 36.
-/
def State.enterDraining (s : State) : State := ((s.setEngine .draining).formAllBatches.offer).judgeDrain

/-- PAUSE (R162, R164). -/
def State.pauseWork (s : State) : State × Reply :=
  match s.mgmt.engine with
  | .running => (s.enterDraining, reply .done)
  | .waitTime => (s.setEngine .paused, reply .done)
  | .paused => (s, reply .notRunning)
  | .draining => (s, reply .notRunning)
  | .resetting => (s, reply .busy)

/-- PAUSE_NOW (R106, R162, R164). -/
def State.pauseNowWork (s : State) : State × Reply :=
  match s.mgmt.engine with
  | .running => (((s.setEngine .draining).closeAll .forcedDrain).enterDraining, reply .done)
  | .waitTime => (s.setEngine .paused, reply .done)
  | .paused => (s, reply .notRunning)
  | .draining => (s, reply .notRunning)
  | .resetting => (s, reply .busy)

/-- A context after engine reset (R53). -/
def Ctx.afterReset (c : Ctx) : Ctx := { c with confidence := 0, expected := none, highest := none, counts := {} }

/-- Engine reset's work in every block (R165), less the deferred ENGINE_RESET answer. -/
def State.resetBlocks (s : State) : State :=
  let f : Nat → Ctx → Ctx := fun _ c => c.afterReset
  ({ s with
      ctxs := Tbl.update Ctx.zero f s.ctxs
      intake := s.intake.afterReset
      store := s.store.afterReset
      window := Window.afterReset s.params
      composer := s.composer.afterReset
      egress := s.egress.afterReset
      mgmt := { s.mgmt with engine := .resetting, pendingMap := 0, counts := {} } }).flushEnded

/-- ENGINE_RESET (R165): its answer is deferred to the scrub's completion. -/
def State.engineResetWork (s : State) (d : Directive) : State :=
  let s1 := s.resetBlocks
  { s1 with mgmt := { s1.mgmt with deferredReset := some { source := d.source, tag := d.tag } } }

/-- The store reports the scrub complete (R108, R165). -/
def State.scrubDone (s : State) : State :=
  let s1 := { s with store := s.store.scrubbed, mgmt := { s.mgmt with engine := .paused, deferredReset := none } }
  match s.mgmt.deferredReset with
  | none => s1
  | some d => s1.formDeferred .engineReset d

/-- FLUSH_BATCHES (R134, R166): deferred, as no reply, when it forms frames. -/
def State.flushWork (s : State) (d : Directive) : State × Option Reply :=
  if s.composer.flushBusy then (s, some (reply .busy))
  else if s.holdingEmpty then (s, some (reply .done))
  else
    let s1 := s.flushBegin
    ({ s1 with mgmt := { s1.mgmt with deferredFlush := some { source := d.source, tag := d.tag } } }, none)

/-- The counts of a context cleared (R52). -/
def Ctx.clearCounts (c : Ctx) : Ctx := { c with counts := {} }

/-- A link's counts cleared (R69). -/
def LinkIn.clearCounts (l : LinkIn) : LinkIn := { l with received := 0, oversize := 0, overflow := 0 }

/-- CLEAR_COUNTERS (R33, R52, R69, R76, R109, R121, R138, R152, R166, R167). -/
def State.clearCounts (s : State) : State :=
  let f : Nat → Ctx → Ctx := fun _ c => c.clearCounts
  { s with
    tru := { s.tru with counts := {} }
    ctxs := Tbl.update Ctx.zero f s.ctxs
    intake := { s.intake with
      linkA := s.intake.linkA.clearCounts, linkB := s.intake.linkB.clearCounts, counts := {} }
    store := { s.store with closeCounts := {}, composed := 0, lowestFree := s.freeCells, saturatedCells := 0 }
    window := { s.window with counts := {} }
    composer := { s.composer with counts := {} }
    egress := { s.egress with counts := { ({} : EgressCounts) with highWater := s.egress.queue.length } }
    mgmt := { s.mgmt with counts := {} } }

/-- LOCK_CONFIG (R157). -/
def State.lockWork (s : State) : State × Reply := ({ s with mgmt := { s.mgmt with lock := true } }, reply .done)

/-- READ_STATUS (R167): the record is formed, then the clear option clears its sticky flags. -/
def State.statusWork (s : State) (d : Directive) : State × Reply :=
  let r : Reply := { outcome := .done, data := s.statusRecord d.option.toNat }
  (if d.count = 1 then s.clearFlags d.option.toNat else s, r)

/-- READ_ENTRIES (R158). -/
def State.readWork (s : State) (d : Directive) : State × Reply :=
  (s, s.readTransfer d.option.toNat ((stepOf d.step).getD 0) d.count.toNat d.index 0 [])

/-- WRITE_ENTRIES (R158). -/
def State.writeWork (s : State) (cls : Nat) (d : Directive) : State × Reply :=
  writeTransfer d.option.toNat cls ((stepOf d.step).getD 0)
    (entriesOf (entrySize d.option.toNat) d.count.toNat d.data) d.index 0 false s

/-- A directive's work after orders 1 to 8 of R154, with the answer's contents, or none where the answer is deferred. -/
def State.ownWork (s : State) (cls : Nat) (c : DirectiveCode) (d : Directive) : State × Option Reply :=
  let now (r : State × Reply) : State × Option Reply := (r.1, some r.2)
  match c with
  | .readEntries => now (s.readWork d)
  | .writeEntries => now (s.writeWork cls d)
  | .bindStream => now (s.bindWork d.index (BitVec.ofNat 16 (field d.data 0 2)))
  | .unbindStream => now (s.unbindWork d.index)
  | .setStreamState => now (if d.option = 1 then s.enableWork d.index else s.disableWork d.index)
  | .enableProfile => now (s.enableProfileWork d.index)
  | .disableProfile => now (s.disableProfileWork d.index)
  | .resume => now s.resumeWork
  | .pause => now s.pauseWork
  | .pauseNow => now s.pauseNowWork
  | .engineReset => (s.engineResetWork d, none)
  | .flushBatches => s.flushWork d
  | .clearCounters => now (s.clearCounts, reply .done)
  | .lockConfig => now s.lockWork
  | .readStatus => now (s.statusWork d)

/-- Orders 2 to 9 of R154. -/
def State.directiveWork (s : State) (cls : Nat) (d : Directive) : State × Option Reply :=
  match d.code.bind codeOf with
  | none => (s, some (reply .malformed))
  | some c =>
    match s.checkKnown cls c d with
    | some o => (s, some (reply o))
    | none => s.ownWork cls c d

/-! ### Execution (R153) -/

/-- The Management Unit's execution state becomes e. -/
def State.setExec (s : State) (e : Execution) : State := { s with mgmt := { s.mgmt with exec := e } }

/-- Execution ends: the answer is formed and offered, or none is; then everything due is done (R153). -/
def State.finishDirective (s : State) (d : Directive) (r : Option Reply) : State :=
  match r with
  | none => (s.setExec .idle).nextFree.settleAndJudge
  | some r =>
    (((s.countAnswer r).offerAnswer (s.formAnswer d.source d.tag (d.code.getD 0) r)).nextFree).settleAndJudge

/-- A directive is executed whole (R153): discarded for an unknown source (R155), or worked, what the Set Composer then has
on offer being offered, and a drain that this leaves with nothing being ended, before the answer is formed. Where the batches
that PAUSE or PAUSE_NOW forms are all taken at once and the ring is FREE, its answer so shows PAUSED: DESIGN CHOICE, log entries
12 and 34. -/
def State.executeDirective (s : State) (d : Directive) : State :=
  match s.senderClass d.source with
  | none =>
    ({ s with mgmt := { s.mgmt with counts := { s.mgmt.counts with
        unknownSource := satInc s.mgmt.counts.unknownSource } } }).nextFree
  | some cls =>
    let r := (s.setExec .executing).directiveWork cls d
    r.1.settleAndJudge.finishDirective d r.2

/-- A directive is taken. It falls after the whole of an admission in progress, never between its steps (R45, R57, R67): the
placement that the Intake Unit is BUSY with is taken first, one of the two orders the rules leave: DESIGN CHOICE, log entry 11. -/
def State.runDirective (s : State) (d : Directive) : State := s.takePlacement.executeDirective d

/-- A directive that stands at the head of the directive queue is taken and executed if the unit is IDLE; a unit that is
WAITING takes none (R153; log entry 2). -/
def State.takeDirective (s : State) (d : Directive) : State :=
  if s.mgmt.exec = .idle then s.runDirective d else s

/-- The fields of a directive command: its code, byte 9, bytes 10 and 11, bytes 12 and 13, and its data (11.4). -/
def directive (r : Request) (c : DirectiveCode) (option : Byte) (index : Nat) (count step : Byte) (data : List Byte) :
    Directive :=
  { source := r.source, tag := r.tag, length := 16 + data.length, code := some (codeByte c), option := option,
    index := index, count := count, step := step, data := data }

/-- A directive without data and options. -/
def plainDirective (r : Request) (c : DirectiveCode) : Directive := directive r c 0 0 0 0 []

/-- A WRITE_ENTRIES naming a table. -/
def writeDirective (r : Request) (table : Byte) (t : Transfer) : Directive :=
  directive r .writeEntries table t.start.toNat t.count t.step t.data

/-- A WRITE_ENTRIES of one Engine Parameters entry. -/
def paramDirective (r : Request) (index : Nat) (value : Word) : Directive :=
  directive r .writeEntries 0 index 1 0 (beBytes 4 value.toNat)

end Sys2Proof.Machine
end

