-- ==== Sys2Proof/Machine/ControlCommands.lean ====
section
/-! DEFINITION. The meanings of the directives that bind and enable streams and profiles, change the engine state, flush,
clear, lock and read status (chapters 3, 8 and 10). -/

namespace Sys2Proof.Machine

/-- BIND_STREAM (R38). -/
def execBindStream (r : Request) (context streamId : Half) (s : State) : Host.Outcome State Fault Refusal :=
  .next (s.takeDirective (directive r .bindStream 0 context.toNat 0 0 (beBytes 2 streamId.toNat ++ [0, 0])))

/-- UNBIND_STREAM (R39). -/
def execUnbindStream (r : Request) (context : Half) (s : State) : Host.Outcome State Fault Refusal :=
  .next (s.takeDirective (directive r .unbindStream 0 context.toNat 0 0 []))

/-- SET_STREAM_STATE enable (R43). -/
def execStreamEnable (r : Request) (context : Half) (s : State) : Host.Outcome State Fault Refusal :=
  .next (s.takeDirective (directive r .setStreamState 1 context.toNat 0 0 []))

/-- SET_STREAM_STATE disable (R44). -/
def execStreamDisable (r : Request) (context : Half) (s : State) : Host.Outcome State Fault Refusal :=
  .next (s.takeDirective (directive r .setStreamState 0 context.toNat 0 0 []))

/-- ENABLE_PROFILE (R126). -/
def execEnableProfile (r : Request) (profile : Half) (s : State) : Host.Outcome State Fault Refusal :=
  .next (s.takeDirective (directive r .enableProfile 0 profile.toNat 0 0 []))

/-- DISABLE_PROFILE (R127). -/
def execDisableProfile (r : Request) (profile : Half) (s : State) : Host.Outcome State Fault Refusal :=
  .next (s.takeDirective (directive r .disableProfile 0 profile.toNat 0 0 []))

/-- RESUME (R162). -/
def execResume (r : Request) (s : State) : Host.Outcome State Fault Refusal :=
  .next (s.takeDirective (plainDirective r .resume))

/-- PAUSE (R164). -/
def execPause (r : Request) (s : State) : Host.Outcome State Fault Refusal :=
  .next (s.takeDirective (plainDirective r .pause))

/-- PAUSE_NOW (R106). -/
def execPauseNow (r : Request) (s : State) : Host.Outcome State Fault Refusal :=
  .next (s.takeDirective (plainDirective r .pauseNow))

/-- ENGINE_RESET (R165). -/
def execEngineReset (r : Request) (s : State) : Host.Outcome State Fault Refusal :=
  .next (s.takeDirective (plainDirective r .engineReset))

/-- FLUSH_BATCHES (R134). -/
def execFlushBatches (r : Request) (s : State) : Host.Outcome State Fault Refusal :=
  .next (s.takeDirective (plainDirective r .flushBatches))

/-- CLEAR_COUNTERS (R166). -/
def execClearCounters (r : Request) (s : State) : Host.Outcome State Fault Refusal :=
  .next (s.takeDirective (plainDirective r .clearCounters))

/-- LOCK_CONFIG (R157). -/
def execLockConfig (r : Request) (s : State) : Host.Outcome State Fault Refusal :=
  .next (s.takeDirective (plainDirective r .lockConfig))

/-- READ_STATUS without the clear option (R167). -/
def execReadStatus (r : Request) (selector : Byte) (s : State) : Host.Outcome State Fault Refusal :=
  .next (s.takeDirective (directive r .readStatus selector 0 0 0 []))

/-- READ_STATUS with the clear option (R167). -/
def execReadStatusClear (r : Request) (selector : Byte) (s : State) : Host.Outcome State Fault Refusal :=
  .next (s.takeDirective (directive r .readStatus selector 0 1 0 []))

end Sys2Proof.Machine
end

