-- ==== Sys2Proof/Machine/EventCommands.lean ====
section
/-! DEFINITION. The meanings of the commands that are events at the links, the clock inputs, the time limits and the blocks'
own steps. -/

namespace Sys2Proof.Machine

/-! ### Events of the Time Reference Unit on the rest of the part -/

/-- The TRU enters LOCKED: a WAIT_TIME engine enters RUNNING (R162, R163). -/
def State.truLocked (s : State) : State := if s.mgmt.engine = .waitTime then s.enterRunning else s

/-- An active PPS edge is taken (R20), with the time-step event of a stepped relock (R30, R104) and the entry to LOCKED. -/
def State.takeEdge (s : State) : State :=
  let r := Tru.edge s.params s.tru
  let s1 := { s with tru := r.1 }
  match r.2 with
  | .none => s1
  | .locked => s1.truLocked
  | .stepped => s1.takeTimeStep.truLocked

/-- The edge timer's expiry is taken (R22). -/
def State.takeEdgeTimer (s : State) : State := { s with tru := Tru.edgeTimerExpire s.params s.tru }

/-- A whole-second boundary is taken in HOLDOVER (R26). -/
def State.takeSecond (s : State) : State := { s with tru := Tru.holdoverSecond s.params s.tru }

/-- The hold expiry of profile n is taken, and its frame offered (R132, R133). -/
def State.takeHoldExpiry (s : State) (n : Nat) : State := (s.holdExpire n).settleAndJudge

/-! ### The meanings -/

/-- POWER_ON_RESET (R18 and the power-on value of each block's state; R161): the commands that wait stand. -/
def execPowerOnReset (pins : BitVec 4) (s : State) : Host.Outcome State Fault Refusal :=
  .next { State.reset with
    params := { State.reset.params with mgmtId := 0xE000 + pins.toNat }
    free := s.free
    pending := s.pending }

/-- FRAME_ARRIVAL (R54 to R56). -/
def execFrameArrival (after : Nat) (link : Link) (source : Word) (frame : List Byte) (s : State) :
    Host.Outcome State Fault Refusal :=
  let s1 := s.elapse after
  .next (s1.setLinkIn link ((s1.linkIn link).arrive { source := source, bytes := frame }))

/-- FRAME_TAKE (R57 to R65). -/
def execFrameTake (s : State) : Host.Outcome State Fault Refusal := .next s.takeFrame

/-- PLACEMENT_REQUEST (R66, R91 to R96). -/
def execPlacementRequest (s : State) : Host.Outcome State Fault Refusal := .next s.takePlacement

/-- INSTANT_EVENT (R32, R88): local time reaches the next instant slot's instant. -/
def execInstantEvent (s : State) : Host.Outcome State Fault Refusal :=
  .next (s.waitLocal (s.instant s.tru.nextInstant)).takeInstant

/-- DEADLINE_EXPIRY (R98): local time reaches the deadline of slot g while it is OPEN; a slot that is not OPEN takes no
expiry. -/
def execDeadlineExpiry (g : Nat) (s : State) : Host.Outcome State Fault Refusal :=
  .next (if (s.slot g).state = .opened then (s.waitLocal (s.slot g).deadline).expire g else s)

/-- COMPOSITION_STEP (R128). -/
def execCompositionStep (s : State) : Host.Outcome State Fault Refusal := .next s.composeStep

/-- HOLD_EXPIRY (R133): a running hold timer reaches the batch hold limit; a stopped timer takes no expiry. -/
def execHoldExpiry (profile : Fin 8) (s : State) : Host.Outcome State Fault Refusal :=
  .next (match (s.holding profile.val).timer with
    | none => s
    | some t => (s.waitOsc (t + s.params.holdLimit * 1000000)).takeHoldExpiry profile.val)

/-- READY_INDICATION (R143, R144, R149). -/
def execReadyIndication (after : Nat) (s : State) : Host.Outcome State Fault Refusal :=
  let s1 := s.elapse after
  .next ({ s1 with egress := s1.egress.readyIndicated }).settleAndJudge

/-- COMPLETION_INDICATION (R143, R146). -/
def execCompletionIndication (after : Nat) (s : State) : Host.Outcome State Fault Refusal :=
  let s1 := s.elapse after
  .next { s1 with egress := s1.egress.completionIndicated }

/-- TOD_MESSAGE (R19, R172). -/
def execTodMessage (after : Nat) (bytes : List Byte) (s : State) : Host.Outcome State Fault Refusal :=
  let s1 := s.elapse after
  .next { s1 with tru := s1.tru.todBytes bytes }

/-- PPS_EDGE (R20): a transition of the active polarity is an edge, the other is not. -/
def execPpsEdge (after : Nat) (polarity : PpsEdge) (s : State) : Host.Outcome State Fault Refusal :=
  let s1 := s.elapse after
  .next (if polarity = s1.params.ppsEdge then s1.takeEdge else s1)

/-- EDGE_TIMER_EXPIRY (R22): a running edge timer reaches 1.5 s; a stopped timer takes no expiry. -/
def execEdgeTimerExpiry (s : State) : Host.Outcome State Fault Refusal :=
  .next (match s.tru.edgeTimer with
    | none => s
    | some t => (s.waitOsc (t + edgeTimeout)).takeEdgeTimer)

/-- HOLDOVER_SECOND (R26): in HOLDOVER, local time passes the next whole-second boundary; no other state counts it. -/
def execHoldoverSecond (s : State) : Host.Outcome State Fault Refusal :=
  .next (if s.tru.state = .holdover then (s.waitLocal ((s.tru.secondMark + 1) * secondNs)).takeSecond else s)

/-- DIRECTIVE_TAKE (R153): the IDLE Management Unit takes the head of its directive queue and executes it. -/
def execDirectiveTake (s : State) : Host.Outcome State Fault Refusal :=
  .next (match s.mgmt.exec, s.mgmt.queue with
    | .idle, f :: rest =>
      ({ s with mgmt := { s.mgmt with queue := rest } }).runDirective (parseDirective s.free f)
    | _, _ => s)

/-- SCRUB_COMPLETION (R108, R165): the scrub in progress ends; without one there is no completion. -/
def execScrubCompletion (s : State) : Host.Outcome State Fault Refusal :=
  .next (if s.store.scrubbing then s.scrubDone.settleAndJudge else s)

/-! ### The tick (log entry 4) -/

/-- One nanosecond of oscillator time passes, and every time limit it reaches is taken: a HOLDOVER second, the edge timer,
the next instant, the deadlines in ascending G, the hold timers in ascending profile number. -/
def State.tick (s : State) : State :=
  let s1 := s.elapse 1
  let s2 := if s1.tru.state = .holdover ∧ (s1.tru.secondMark + 1) * secondNs ≤ s1.tru.now then s1.takeSecond else s1
  let s3 := match s2.tru.edgeTimer with
    | none => s2
    | some t => if t + edgeTimeout ≤ s2.tru.osc then s2.takeEdgeTimer else s2
  let s4 := if s3.instant s3.tru.nextInstant ≤ s3.tru.now then s3.takeInstant else s3
  let s5 := s4.span.foldl State.expireIfDue s4
  (List.range 8).foldl (fun t n => if t.holdDue n then t.takeHoldExpiry n else t) s5

end Sys2Proof.Machine
end

