-- ==== Sys2Proof/Machine/TableCommands.lean ====
section
/-! DEFINITION. The meanings of the directives that read and write tables and Engine Parameters (10.3, 10.4). -/

namespace Sys2Proof.Machine

/-- READ_ENTRIES (R158). -/
def execReadEntries (r : Request) (table : Byte) (start : Half) (count step : Byte) (s : State) :
    Host.Outcome State Fault Refusal :=
  .next (s.takeDirective (directive r .readEntries table start.toNat count step []))

/-- WRITE_ENTRIES naming the Stream Map (R40). -/
def execWriteStreamMap (r : Request) (t : Transfer) (s : State) : Host.Outcome State Fault Refusal :=
  .next (s.takeDirective (writeDirective r 1 t))

/-- WRITE_ENTRIES naming Stream Contexts (R42). -/
def execWriteStreamContexts (r : Request) (t : Transfer) (s : State) : Host.Outcome State Fault Refusal :=
  .next (s.takeDirective (writeDirective r 2 t))

/-- WRITE_ENTRIES naming the Channel Conversion Table (R71). -/
def execWriteChannelConversion (r : Request) (t : Transfer) (s : State) : Host.Outcome State Fault Refusal :=
  .next (s.takeDirective (writeDirective r 3 t))

/-- WRITE_ENTRIES naming Profiles (R124). -/
def execWriteProfiles (r : Request) (t : Transfer) (s : State) : Host.Outcome State Fault Refusal :=
  .next (s.takeDirective (writeDirective r 4 t))

/-- WRITE_ENTRIES naming Member Lists (R125). -/
def execWriteMemberLists (r : Request) (t : Transfer) (s : State) : Host.Outcome State Fault Refusal :=
  .next (s.takeDirective (writeDirective r 5 t))

/-- WRITE_ENTRIES naming Managers (R155). -/
def execWriteManagers (r : Request) (t : Transfer) (s : State) : Host.Outcome State Fault Refusal :=
  .next (s.takeDirective (writeDirective r 6 t))

/-- WRITE_ENTRIES naming the Access Table (R156). -/
def execWriteAccess (r : Request) (t : Transfer) (s : State) : Host.Outcome State Fault Refusal :=
  .next (s.takeDirective (writeDirective r 7 t))

/-- A write of R (R160). -/
def execWriteOutputRate (r : Request) (value : Word) (s : State) : Host.Outcome State Fault Refusal :=
  .next (s.takeDirective (paramDirective r 0 value))

/-- A write of the map select function (R36). -/
def execWriteMapSelect (r : Request) (value : Word) (s : State) : Host.Outcome State Fault Refusal :=
  .next (s.takeDirective (paramDirective r 1 value))

/-- A write of the management identifier (R161). -/
def execWriteManagementIdentifier (r : Request) (value : Word) (s : State) : Host.Outcome State Fault Refusal :=
  .next (s.takeDirective (paramDirective r 2 value))

/-- A write of the active PPS edge (R20). -/
def execWritePpsEdge (r : Request) (value : Word) (s : State) : Host.Outcome State Fault Refusal :=
  .next (s.takeDirective (paramDirective r 4 value))

/-- A write of C_sat (R49). -/
def execWriteCSat (r : Request) (value : Word) (s : State) : Host.Outcome State Fault Refusal :=
  .next (s.takeDirective (paramDirective r 5 value))

/-- The Engine Parameters index of a window limit (R159). -/
def windowLimitIndex : WindowLimit → Nat
  | .wMin => 7
  | .wMax => 8

/-- A write of Wmin or Wmax (R112). -/
def execWriteWindowLimits (r : Request) (limit : WindowLimit) (value : Word) (s : State) :
    Host.Outcome State Fault Refusal :=
  .next (s.takeDirective (paramDirective r (windowLimitIndex limit) value))

/-- A write of W0 (R112). -/
def execWriteW0 (r : Request) (value : Word) (s : State) : Host.Outcome State Fault Refusal :=
  .next (s.takeDirective (paramDirective r 9 value))

/-- A write of the adaptation mode (R113). -/
def execWriteAdaptation (r : Request) (value : Word) (s : State) : Host.Outcome State Fault Refusal :=
  .next (s.takeDirective (paramDirective r 10 value))

/-- A write of W_q (R113). -/
def execWriteWq (r : Request) (value : Word) (s : State) : Host.Outcome State Fault Refusal :=
  .next (s.takeDirective (paramDirective r 14 value))

/-- The Engine Parameters index of a watermark (R159). -/
def watermarkIndex : Watermark → Nat
  | .wm1 => 15
  | .wm2 => 16

/-- A write of WM1 or WM2 (R107). -/
def execWriteWatermark (r : Request) (mark : Watermark) (value : Word) (s : State) : Host.Outcome State Fault Refusal :=
  .next (s.takeDirective (paramDirective r (watermarkIndex mark) value))

/-- The Engine Parameters index of a holdover parameter (R159). -/
def holdoverParamIndex : HoldoverParam → Nat
  | .hMax => 17
  | .drift => 18

/-- A write of Hmax or of the drift bound (R26). -/
def execWriteHoldoverParameter (r : Request) (param : HoldoverParam) (value : Word) (s : State) :
    Host.Outcome State Fault Refusal :=
  .next (s.takeDirective (paramDirective r (holdoverParamIndex param) value))

/-- A write of the batch hold limit (R133). -/
def execWriteHoldLimit (r : Request) (value : Word) (s : State) : Host.Outcome State Fault Refusal :=
  .next (s.takeDirective (paramDirective r 19 value))

/-- A write of the Engine Parameters entry of an index (R159). -/
def execWriteEngineParameter (r : Request) (index : Half) (value : Word) (s : State) :
    Host.Outcome State Fault Refusal :=
  .next (s.takeDirective (paramDirective r index.toNat value))

end Sys2Proof.Machine
end

