-- ==== Sys2Proof/Machine/Dispatch.lean ====
section
/-! DEFINITION. One arm for each command. -/

namespace Sys2Proof.Machine

def exec (i : Instr) (s : State) : Host.Outcome State Fault Refusal :=
  match i with
  | .powerOnReset pins => Sys2Proof.Machine.execPowerOnReset pins s
  | .frameArrival after link source frame => Sys2Proof.Machine.execFrameArrival after link source frame s
  | .frameTake => Sys2Proof.Machine.execFrameTake s
  | .placementRequest => Sys2Proof.Machine.execPlacementRequest s
  | .instantEvent => Sys2Proof.Machine.execInstantEvent s
  | .deadlineExpiry g => Sys2Proof.Machine.execDeadlineExpiry g s
  | .compositionStep => Sys2Proof.Machine.execCompositionStep s
  | .holdExpiry profile => Sys2Proof.Machine.execHoldExpiry profile s
  | .readyIndication after => Sys2Proof.Machine.execReadyIndication after s
  | .completionIndication after => Sys2Proof.Machine.execCompletionIndication after s
  | .todMessage after bytes => Sys2Proof.Machine.execTodMessage after bytes s
  | .ppsEdge after polarity => Sys2Proof.Machine.execPpsEdge after polarity s
  | .edgeTimerExpiry => Sys2Proof.Machine.execEdgeTimerExpiry s
  | .holdoverSecond => Sys2Proof.Machine.execHoldoverSecond s
  | .directiveTake => Sys2Proof.Machine.execDirectiveTake s
  | .readEntries r table start count step => Sys2Proof.Machine.execReadEntries r table start count step s
  | .writeStreamMap r t => Sys2Proof.Machine.execWriteStreamMap r t s
  | .writeStreamContexts r t => Sys2Proof.Machine.execWriteStreamContexts r t s
  | .writeChannelConversion r t => Sys2Proof.Machine.execWriteChannelConversion r t s
  | .writeProfiles r t => Sys2Proof.Machine.execWriteProfiles r t s
  | .writeMemberLists r t => Sys2Proof.Machine.execWriteMemberLists r t s
  | .writeManagers r t => Sys2Proof.Machine.execWriteManagers r t s
  | .writeAccess r t => Sys2Proof.Machine.execWriteAccess r t s
  | .writeOutputRate r value => Sys2Proof.Machine.execWriteOutputRate r value s
  | .writeMapSelect r value => Sys2Proof.Machine.execWriteMapSelect r value s
  | .writeManagementIdentifier r value => Sys2Proof.Machine.execWriteManagementIdentifier r value s
  | .writePpsEdge r value => Sys2Proof.Machine.execWritePpsEdge r value s
  | .writeCSat r value => Sys2Proof.Machine.execWriteCSat r value s
  | .writeWindowLimits r limit value => Sys2Proof.Machine.execWriteWindowLimits r limit value s
  | .writeW0 r value => Sys2Proof.Machine.execWriteW0 r value s
  | .writeAdaptation r value => Sys2Proof.Machine.execWriteAdaptation r value s
  | .writeWq r value => Sys2Proof.Machine.execWriteWq r value s
  | .writeWatermark r mark value => Sys2Proof.Machine.execWriteWatermark r mark value s
  | .writeHoldoverParameter r param value => Sys2Proof.Machine.execWriteHoldoverParameter r param value s
  | .writeHoldLimit r value => Sys2Proof.Machine.execWriteHoldLimit r value s
  | .writeEngineParameter r index value => Sys2Proof.Machine.execWriteEngineParameter r index value s
  | .bindStream r context streamId => Sys2Proof.Machine.execBindStream r context streamId s
  | .unbindStream r context => Sys2Proof.Machine.execUnbindStream r context s
  | .streamEnable r context => Sys2Proof.Machine.execStreamEnable r context s
  | .streamDisable r context => Sys2Proof.Machine.execStreamDisable r context s
  | .enableProfile r profile => Sys2Proof.Machine.execEnableProfile r profile s
  | .disableProfile r profile => Sys2Proof.Machine.execDisableProfile r profile s
  | .resume r => Sys2Proof.Machine.execResume r s
  | .pause r => Sys2Proof.Machine.execPause r s
  | .pauseNow r => Sys2Proof.Machine.execPauseNow r s
  | .engineReset r => Sys2Proof.Machine.execEngineReset r s
  | .scrubCompletion => Sys2Proof.Machine.execScrubCompletion s
  | .flushBatches r => Sys2Proof.Machine.execFlushBatches r s
  | .clearCounters r => Sys2Proof.Machine.execClearCounters r s
  | .lockConfig r => Sys2Proof.Machine.execLockConfig r s
  | .readStatus r selector => Sys2Proof.Machine.execReadStatus r selector s
  | .readStatusClear r selector => Sys2Proof.Machine.execReadStatusClear r selector s

end Sys2Proof.Machine
end

