-- ==== Sys2Proof/Safety.lean ====
section
/-! DEFINITION. What claims about the part speak of: the state apart from its way out, an answer on its way, and the
properties that every step keeps. -/

namespace Sys2Proof.Machine

/-! ### The way out -/

/-- The state with its way out set aside: the egress scheduler, the outbound list and what the producers do while they wait
(R132, R147 to R149, R153), the engine state that the end of a drain changes (R164), and the model's own free counter. What
offering frames may change is set to a fixed value, and all else stands. -/
def State.aside (s : State) : State :=
  { s with
    composer := { s.composer with
      outbound := [], flushBusy := false, counts := { s.composer.counts with waits := 0 } }
    egress := ({} : Egress)
    mgmt := { s.mgmt with
      engine := .paused, exec := .idle, formed := [], deferredFlush := none, counts := ({} : MgmtCounts) }
    free := 0 }

/-- Nothing waits on the way out, the queue has room, the link asks for no frame and no drain is at its end, so that an
answer enters the queue and nothing else happens. -/
def State.quiet (s : State) : Prop :=
  s.mgmt.exec = .idle ∧ s.mgmt.formed = [] ∧ s.composer.outbound = [] ∧ s.egress.queue.length < queueSize
    ∧ s.egress.link ≠ .ready ∧ ¬(s.mgmt.engine = .draining ∧ s.ringFree = true ∧ s.composerEmpty = true)

/-- A quiet state once the answer to a directive, of code byte c, has entered the queue as its youngest entry (R147, R153,
R167). -/
def State.answered (s : State) (r : Request) (c : Byte) (x : Reply) : State :=
  { s with
    egress := s.egress.enter s.tru.osc (s.formAnswer r.source r.tag c x)
    mgmt := { s.mgmt with counts := s.mgmt.counts.answered x }
    free := s.free + 1 }

/-- Nothing waits on the way out, the queue is empty and the link READY, and no drain is at its end, so that an answer is chosen
as it enters (R143). -/
def State.readyForOne (s : State) : Prop :=
  s.mgmt.exec = .idle ∧ s.mgmt.formed = [] ∧ s.composer.outbound = [] ∧ s.egress.queue = [] ∧ s.egress.link = .ready
    ∧ ¬(s.mgmt.engine = .draining ∧ s.ringFree = true ∧ s.composerEmpty = true)

/-- A state whose link is READY once the answer to a directive, of code byte c, has entered the queue and been chosen at once
(R143, R147). -/
def State.answeredAtOnce (s : State) (r : Request) (c : Byte) (x : Reply) : State :=
  { s with
    egress := { s.egress with
      link := .sending (s.formAnswer r.source r.tag c x) false
      counts := { s.egress.counts with highWater := max s.egress.counts.highWater 1 } }
    mgmt := { s.mgmt with counts := s.mgmt.counts.answered x }
    free := s.free + 1 }

/-- Whether an answer is in the egress queue, in transmission, or held by the Management Unit that waits with it. -/
def State.holdsAnswer (s : State) (a : OutFrame) : Prop :=
  (∃ e ∈ s.egress.queue, e.frame = a) ∨ (∃ p, s.egress.link = .sending a p) ∨ s.mgmt.exec = .waiting a

/-- A directive of code byte c has left the state u, and t is the state once its answer x is on its way (R153): t is u but for
the way out, its engine state is u's unless a drain has ended, the answer was formed from u and is on its way, where u is quiet
t is u with the answer entered and nothing else changed, and where the link is READY it is the answer that is sent. -/
structure Carried (u t : State) (r : Request) (c : Byte) (x : Reply) : Prop where
  same : t.aside = u.aside
  engine : t.mgmt.engine = u.mgmt.engine ∨ (u.mgmt.engine = .draining ∧ t.mgmt.engine = .paused)
  answer : ∃ v : State, v.aside = u.aside ∧ t.holdsAnswer (v.formAnswer r.source r.tag c x)
  exact : u.quiet → t = u.answered r c x
  atOnce : u.readyForOne → t = u.answeredAtOnce r c x

/-- The Management Unit can take a directive of a source: it is IDLE, the source is known and of class cls (R155), and no
admission is in progress, which a directive would fall after (R67). -/
def State.knows (s : State) (r : Request) (cls : Nat) : Prop :=
  s.mgmt.exec = .idle ∧ s.senderClass r.source = some cls ∧ s.intake.busy = none

/-- The Management Unit can take a directive of a source, and the engine is not RESETTING (R154). -/
def State.canRun (s : State) (r : Request) (cls : Nat) : Prop := s.knows r cls ∧ s.mgmt.engine ≠ .resetting

/-- Command c, a directive of request r and code d, completes: it leaves the state u and answers x. -/
def Completes (s : State) (c : Instr) (r : Request) (d : DirectiveCode) (u : State) (x : Reply) : Prop :=
  ∃ t, exec c s = .next t ∧ Carried u t r (codeByte d) x

/-- The answer of a transfer whose one entry was written, clamped or not (R158). -/
def wrote (clamped : Bool) : Reply := { outcome := if clamped then .clamped else .done, entriesDone := 1 }

/-- The answer of a transfer whose first entry failed (R158). -/
def refusedEntry (c : OutcomeCode) : Reply := { outcome := .partialDone, entriesDone := 0, cause := some c }

/-- A write of a structural parameter by a command (R159): LOCKED while the lock is set, else NOT_PAUSED outside PAUSED, and
else it leaves the state u with the answer x. -/
def StructuralWrite (s : State) (c : Instr) (r : Request) (u : State) (x : Reply) : Prop :=
  (s.mgmt.lock = true → Completes s c r .writeEntries s (refusedEntry .locked))
    ∧ (s.mgmt.lock = false → s.mgmt.engine ≠ .paused → Completes s c r .writeEntries s (refusedEntry .notPaused))
    ∧ (s.mgmt.lock = false → s.mgmt.engine = .paused → Completes s c r .writeEntries u x)

/-- A WRITE_ENTRIES of one entry at an index of its table, by a sender the Access Table permits, the lock being clear: what
is left are the entry's own tests (R42, R71, R124, R125, R155, R156). -/
def State.mayWrite (s : State) (r : Request) (table : Nat) (t : Transfer) : Prop :=
  ∃ cls, s.canRun r cls ∧ s.permits table cls = true ∧ s.mgmt.lock = false
    ∧ t.count = 1 ∧ (stepOf t.step).isSome = true ∧ t.data.length = entrySize table ∧ t.start.toNat ≤ lastIndex table

/-! ### The intake -/

/-- The idle Intake Unit's next take is from link l, whose FIFO holds f and then rest (R57). -/
def State.takesNext (s : State) (l : Link) (f : InFrame) (rest : List InFrame) : Prop :=
  s.intake.busy = none ∧ (s.linkIn l).fifo = f :: rest
    ∧ (l = s.intake.preferred ∨ (s.linkIn s.intake.preferred).fifo = [])

/-- The state once the head of link l's FIFO has left it and the preferred link is the other one (R57). -/
def State.taken (s : State) (l : Link) (rest : List InFrame) : State :=
  let u := s.setLinkIn l { s.linkIn l with fifo := rest }
  { u with intake := { u.intake with preferred := otherLink l } }

/-- The Intake Unit is idle again, with one device-wide count raised (R57, R68). -/
def State.counted (s : State) (c : IntakeCount) : State :=
  { s with intake := { s.intake with busy := none, counts := s.intake.counts.bump c } }

/-- A report of context k is discarded: a device-wide count and a counter of the context rise, and nothing else changes
(R52, R61). -/
def State.dropped (s : State) (k : Nat) (c : IntakeCount) (d : CtxCount) : State :=
  (s.counted c).setCtx k { s.ctx k with counts := (s.ctx k).counts.bump d }

/-- The state with the pending bit of context k set (R64). -/
def State.pended (s : State) (k : Nat) : State :=
  { s with mgmt := { s.mgmt with pendingMap := CtxSet.add s.mgmt.pendingMap k } }

/-- A report for slot g is LATE (R91). -/
def State.lateFor (s : State) (g : Nat) : Prop :=
  g < s.store.hLow ∨ (s.slot g).state = .closed ∨ (s.slot g).state = .emitting
    ∨ (g < s.store.floor ∧ (s.slot g).state = .free)

/-- Steps 1 to 4 of placement pass a report for slot g (R91 to R93). -/
def State.placeable (s : State) (g : Nat) : Prop :=
  ¬s.lateFor g ∧ g ≤ s.gnow + s.params.lead ∧ g ≤ s.store.hLow + 63
    ∧ (s.mgmt.engine = .running ∨ (s.slot g).state = .opened ∨ (s.slot g).state = .complete)

/-! ### Directives -/

/-- The request, the code and the fields of the directive that a command stands for; a command that is an event stands for
none (log entry 2). -/
def directiveOf : Instr → Option (Request × DirectiveCode × Directive)
  | .readEntries r table start count step =>
    some (r, .readEntries, directive r .readEntries table start.toNat count step [])
  | .writeStreamMap r t => some (r, .writeEntries, writeDirective r 1 t)
  | .writeStreamContexts r t => some (r, .writeEntries, writeDirective r 2 t)
  | .writeChannelConversion r t => some (r, .writeEntries, writeDirective r 3 t)
  | .writeProfiles r t => some (r, .writeEntries, writeDirective r 4 t)
  | .writeMemberLists r t => some (r, .writeEntries, writeDirective r 5 t)
  | .writeManagers r t => some (r, .writeEntries, writeDirective r 6 t)
  | .writeAccess r t => some (r, .writeEntries, writeDirective r 7 t)
  | .writeOutputRate r v => some (r, .writeEntries, paramDirective r 0 v)
  | .writeMapSelect r v => some (r, .writeEntries, paramDirective r 1 v)
  | .writeManagementIdentifier r v => some (r, .writeEntries, paramDirective r 2 v)
  | .writePpsEdge r v => some (r, .writeEntries, paramDirective r 4 v)
  | .writeCSat r v => some (r, .writeEntries, paramDirective r 5 v)
  | .writeWindowLimits r .wMin v => some (r, .writeEntries, paramDirective r 7 v)
  | .writeWindowLimits r .wMax v => some (r, .writeEntries, paramDirective r 8 v)
  | .writeW0 r v => some (r, .writeEntries, paramDirective r 9 v)
  | .writeAdaptation r v => some (r, .writeEntries, paramDirective r 10 v)
  | .writeWq r v => some (r, .writeEntries, paramDirective r 14 v)
  | .writeWatermark r .wm1 v => some (r, .writeEntries, paramDirective r 15 v)
  | .writeWatermark r .wm2 v => some (r, .writeEntries, paramDirective r 16 v)
  | .writeHoldoverParameter r .hMax v => some (r, .writeEntries, paramDirective r 17 v)
  | .writeHoldoverParameter r .drift v => some (r, .writeEntries, paramDirective r 18 v)
  | .writeHoldLimit r v => some (r, .writeEntries, paramDirective r 19 v)
  | .writeEngineParameter r i v => some (r, .writeEntries, paramDirective r i.toNat v)
  | .bindStream r k sid =>
    some (r, .bindStream, directive r .bindStream 0 k.toNat 0 0 (beBytes 2 sid.toNat ++ [0, 0]))
  | .unbindStream r k => some (r, .unbindStream, directive r .unbindStream 0 k.toNat 0 0 [])
  | .streamEnable r k => some (r, .setStreamState, directive r .setStreamState 1 k.toNat 0 0 [])
  | .streamDisable r k => some (r, .setStreamState, directive r .setStreamState 0 k.toNat 0 0 [])
  | .enableProfile r n => some (r, .enableProfile, directive r .enableProfile 0 n.toNat 0 0 [])
  | .disableProfile r n => some (r, .disableProfile, directive r .disableProfile 0 n.toNat 0 0 [])
  | .resume r => some (r, .resume, plainDirective r .resume)
  | .pause r => some (r, .pause, plainDirective r .pause)
  | .pauseNow r => some (r, .pauseNow, plainDirective r .pauseNow)
  | .engineReset r => some (r, .engineReset, plainDirective r .engineReset)
  | .flushBatches r => some (r, .flushBatches, plainDirective r .flushBatches)
  | .clearCounters r => some (r, .clearCounters, plainDirective r .clearCounters)
  | .lockConfig r => some (r, .lockConfig, plainDirective r .lockConfig)
  | .readStatus r selector => some (r, .readStatus, directive r .readStatus selector 0 0 0 [])
  | .readStatusClear r selector => some (r, .readStatus, directive r .readStatus selector 0 1 0 [])
  | .powerOnReset _ => none
  | .frameArrival _ _ _ _ => none
  | .frameTake => none
  | .placementRequest => none
  | .instantEvent => none
  | .deadlineExpiry _ => none
  | .compositionStep => none
  | .holdExpiry _ => none
  | .readyIndication _ => none
  | .completionIndication _ => none
  | .todMessage _ _ => none
  | .ppsEdge _ _ => none
  | .edgeTimerExpiry => none
  | .holdoverSecond => none
  | .directiveTake => none
  | .scrubCompletion => none

/-- The directive queue holds at its head a directive frame of request r and code k, laid out as 11.4 gives it, with option byte
o, index i, count c, step st and data, and then rest. -/
def State.headIs (s : State) (r : Request) (k : DirectiveCode) (o : Byte) (i : Half) (c st : Byte) (data : List Byte)
    (rest : List InFrame) : Prop :=
  ∃ head reserved : List Byte, head.length = 6 ∧ reserved.length = 2
    ∧ s.mgmt.queue =
      { source := r.source
        bytes := head ++ beBytes 2 r.tag.toNat ++ [codeByte k, o] ++ beBytes 2 i.toNat ++ [c, st] ++ reserved ++ data } :: rest

/-- Command c, given in state s, has the IDLE unit execute directive d of request r and code k in the state v: it is the command of
that directive, or DIRECTIVE_TAKE where the directive's frame is at the head of the queue, which it leaves (R153). -/
def Delivers (s : State) (c : Instr) (r : Request) (k : DirectiveCode) (d : Directive) (v : State) : Prop :=
  (directiveOf c = some (r, k, d) ∧ v = s)
    ∨ (c = .directiveTake ∧ ∃ (o : Byte) (i : Half) (n st : Byte) (data : List Byte) (rest : List InFrame),
        s.headIs r k o i n st data rest ∧ d = directive r k o i.toNat n st data
          ∧ v = { s with mgmt := { s.mgmt with queue := rest } })

/-- A directive passes orders 3 to 5 of R154: its table, its fields and its frame length are right. -/
def wellFramed (k : DirectiveCode) (d : Directive) : Prop :=
  (isTransfer k = true → d.option.toNat ≤ 7) ∧ fieldsOk k d = true ∧ d.length = directiveLength k d

/-! ### Frames and records, field by field -/

/-- A report carries what its frame holds at the offsets of 11.2. -/
def Report.readFrom (r : Report) (bs : List Byte) : Prop :=
  let w : Nat := if r.format = .rect16 then 2 else 4
  r.streamId.toNat = field bs 4 2
    ∧ r.channels = (byteAt bs 6).toNat
    ∧ (r.format = .rect32 ↔ (byteAt bs 7).getLsbD 0 = true) ∧ r.hasFreq = (byteAt bs 7).getLsbD 1
    ∧ r.quality = (byteAt bs 7).toNat / 16
    ∧ r.seconds = field bs 8 4 ∧ r.ticks = field bs 12 4 ∧ r.flags.toNat = field bs 16 2
    ∧ r.pairs.length = r.channels
    ∧ (∀ i, i < r.channels →
        r.pairs[i]? = some (signedField bs (18 + i * (2 * w)) w, signedField bs (18 + i * (2 * w) + w) w))
    ∧ (r.hasFreq = false → r.freq = none)
    ∧ (r.hasFreq = true → r.freq = some (signedField bs (bs.length - 8) 4, signedField bs (bs.length - 4) 4))

/-- A record holds fields: each a triple of its offset, its length in bytes and its value. -/
def holdsFields (bs : List Byte) (fields : List (Nat × Nat × Nat)) : Prop :=
  ∀ f ∈ fields, field bs f.1 f.2.1 = f.2.2 % 256 ^ f.2.1

/-- The fields of a run of counts from an offset on, four bytes each (11.7). -/
def countFields (off : Nat) (cs : List Nat) : List (Nat × Nat × Nat) :=
  (List.range cs.length).map fun i => (off + 4 * i, 4, cs.getD i 0)

/-! ### Forced closes and batches -/

/-- The number of slots that a forced drain or a time step closes (R104, R106). -/
def State.waitingSlots (s : State) : Nat := s.recordsIn .opened + s.recordsIn .complete

/-- The number of OPEN slots that await a context which has not arrived in them (R47). -/
def State.openMisses (s : State) (k : Nat) : Nat :=
  ((List.range 64).filter fun i =>
    let x := Tbl.get Slot.empty s.store.ring i
    decide (x.state = .opened) && CtxSet.has x.missing k).length

/-- The waiting slots of s stand closed for a cause in t, and H_low, where it was closed, is EMITTING (R99, R101, R104, R106):
an OPEN slot has the time state sampled and its misses charged, a COMPLETE slot keeps its sample, each keeps its cells and is
counted, and the other slots stand. -/
structure ForcedClose (c : Cause) (s t : State) : Prop where
  opened : ∀ g, (s.slot g).state = .opened → t.slot g = { s.slot g with
    state := if g = t.store.hLow then .emitting else .closed
    cause := some c, sampled := some (s.tru.state, s.tru.quality s.params.drift) }
  complete : ∀ g, (s.slot g).state = .complete →
    t.slot g = { s.slot g with state := if g = t.store.hLow then .emitting else .closed, cause := some c }
  closed : ∀ g, (s.slot g).state = .closed →
    t.slot g = { s.slot g with state := if g = t.store.hLow then .emitting else .closed }
  others : ∀ g, (s.slot g).state = .free ∨ (s.slot g).state = .emitting → t.slot g = s.slot g
  misses : ∀ k, t.ctx k = { s.ctx k with confidence := (s.ctx k).confidence - s.openMisses k }
  counted : t.store.closeCounts = (fun x => x.bump c)^[s.waitingSlots] s.store.closeCounts
  working : t.composer.working =
    if (t.slot t.store.hLow).state = .emitting ∧ (s.slot t.store.hLow).state ≠ .emitting then
      some { g := t.store.hLow, next := 0 }
    else s.composer.working

/-- The batch frames that the sets held become, in ascending profile number (R131, R134, R135). -/
def State.heldBatches (s : State) : List OutFrame :=
  (List.range 8).flatMap fun n =>
    if (s.holding n).sets = [] then []
    else [{ bytes := batchFrame n (s.holding n).sets, dest := (s.profile n).dest, kind := .batch, cls := .low }]

/-- The frames that a flush forms: the batch frames of the sets held, the last of them marked as the one that ends it (R134). -/
def State.flushFrames (s : State) : List OutFrame :=
  match s.heldBatches.getLast? with
  | none => []
  | some f => s.heldBatches.dropLast ++ [{ f with endsFlush := true }]

/-- The sets held in s are gone from t, with their timers, and the batch frames they became are counted (R131, R133). -/
structure HoldingsTaken (s t : State) : Prop where
  holding : ∀ n, t.holding n = if n < 8 ∧ (s.holding n).sets ≠ [] then Holding.empty else s.holding n
  counted : t.composer.counts.batches = satInc^[s.heldBatches.length] s.composer.counts.batches

/-- The slots that catch-up opens with H_low at low, in ascending order: the FREE ones from max(H_low, step floor) to
min(H_low + 63, Gnow) (R89). -/
def State.catchUpSlots (s : State) (low : Nat) : List Nat :=
  ((List.range 64).map fun i => low + i).filter fun g =>
    decide (s.store.floor ≤ g ∧ g ≤ s.gnow ∧ (s.slot g).state = .free)

/-- The entries that frames make as they enter the egress queue at one reading of the oscillator (R140). -/
def entriesAt (osc : Nat) (fs : List OutFrame) : List Entry := fs.map fun f => { frame := f, enqueued := osc }

/-- The sets held in s have left as batch frames in t, which stand at the tail of the egress queue with the frames fs after
them (R131, R132, R135, R147). -/
structure BatchesSent (s t : State) (fs : List OutFrame) : Prop where
  queue : t.egress.queue = s.egress.queue ++ entriesAt s.tru.osc (s.heldBatches ++ fs)
  outbound : t.composer.outbound = []
  holding : ∀ n, n < 8 → t.holding n = if (s.holding n).sets = [] then s.holding n else Holding.empty
  counted : t.composer.counts = { s.composer.counts with batches := satInc^[s.heldBatches.length] s.composer.counts.batches }

/-! ### What every step keeps -/

/-- Every table is in its canonical form. -/
def State.canonical (s : State) : Prop :=
  Tbl.wf none s.map = true ∧ Tbl.wf Ctx.zero s.ctxs = true ∧ Tbl.wf Conversion.zero s.conv = true
    ∧ Tbl.wf Slot.empty s.store.ring = true ∧ Tbl.wf Cell.zero s.store.pool = true
    ∧ Tbl.wf Profile.zero s.profiles = true ∧ Tbl.wf 0 s.members = true
    ∧ Tbl.wf Holding.empty s.composer.holding = true ∧ Tbl.wf Manager.zero s.mgmt.managers = true
    ∧ Tbl.wf Access.zero s.mgmt.access = true

/-- An ingress FIFO holds at most 16 frames, none longer than 2048 bytes (R54). -/
def LinkIn.bounded (l : LinkIn) : Prop := l.fifo.length ≤ 16 ∧ ∀ f ∈ l.fifo, f.bytes.length ≤ 2048

/-- The FIFOs, the directive queue and the egress queue hold no more than they can (R54, R60, R139). -/
def State.bounded (s : State) : Prop :=
  s.intake.linkA.bounded ∧ s.intake.linkB.bounded ∧ s.mgmt.queue.length ≤ 4
    ∧ s.egress.queue.length ≤ queueSize ∧ (∀ e ∈ s.egress.queue, e.bypass ≤ 15)

/-- Every Engine Parameter lies in its range (R159), Wmin does not exceed Wmax (R112) nor WM2 exceed WM1 (R107). -/
def Params.inRange (p : Params) : Prop :=
  p.rate ∈ rates ∧ p.mgmtId ≤ 65535 ∧ p.lead ≤ 32 ∧ (1 ≤ p.cSat ∧ p.cSat ≤ 15) ∧ p.cAwait ≤ 15
    ∧ (1 ≤ p.wMin ∧ p.wMin ≤ p.wMax ∧ p.wMax ≤ 40000) ∧ (1 ≤ p.w0 ∧ p.w0 ≤ 40000)
    ∧ p.theta ∈ [1, 2, 4, 8] ∧ p.upStep ∈ [16, 32, 64, 128] ∧ p.downStep ∈ [1, 2, 4, 8]
    ∧ (p.wm2 ≤ p.wm1 ∧ p.wm1 ≤ 4095) ∧ p.hMax ≤ 86400 ∧ (1 ≤ p.drift ∧ p.drift ≤ 100000)
    ∧ (10 ≤ p.holdLimit ∧ p.holdLimit ≤ 60000) ∧ (1 ≤ p.promotion ∧ p.promotion ≤ 1000)
    ∧ (1 ≤ p.highBypassMax ∧ p.highBypassMax ≤ 15) ∧ (1 ≤ p.lowBypassMax ∧ p.lowBypassMax ≤ 15)

/-- W_q lies within its limits (R112), L does not exceed T (R116), and the two pacing counters stay below 16 (R110). -/
def State.windowInLimits (s : State) : Prop :=
  16 * s.params.wMin ≤ s.window.wq ∧ s.window.wq ≤ 16 * s.params.wMax
    ∧ s.window.late ≤ s.window.total ∧ s.window.total ≤ countLimit ∧ s.window.j < 16 ∧ s.window.closings < 16

/-- No context's confidence exceeds C_sat (R49). -/
def State.confidenceInRange (s : State) : Prop := ∀ k, (s.ctx k).confidence ≤ s.params.cSat

/-- The laws of the Stream Map (R34) and its agreement with the contexts: each binding stands in the bucket of its ID
(R35), names a context that records it, and no ID and no context stands in two ways; each bound context stands in the map;
0xFFFF is never bound (R38). -/
def State.mapLawful (s : State) : Prop :=
  (∀ i b, s.way i = some b →
      i / 4 = bucketOf s.params.mapSelect b.streamId ∧ b.ctx ≤ 255 ∧ b.streamId ≠ 0xFFFF
        ∧ (s.ctx b.ctx).binding = some b.streamId)
    ∧ (∀ i j a b, s.way i = some a → s.way j = some b → (a.streamId = b.streamId ∨ a.ctx = b.ctx) → i = j)
    ∧ (∀ k sid, (s.ctx k).binding = some sid → ∃ i, s.way i = some { streamId := sid, ctx := k })

/-- Every enabled context is one of the 256, is bound, and its rate is compatible with the output rate (R14, R43). -/
def State.contextsFit (s : State) : Prop :=
  ∀ k, (s.ctx k).enabled = true →
    k ≤ 255 ∧ (s.ctx k).binding.isSome = true ∧ compatible s.params.rate (s.ctx k).desc.rate = true

/-- Every enabled profile is one of the eight, its member range lies in the table and holds no context twice, its k divides
R, and it batches only in class LOW (R125, R126). -/
def State.profilesFit (s : State) : Prop :=
  ∀ n, (s.profile n).enabled = true →
    n ≤ 7 ∧ (s.profile n).base + (s.profile n).count ≤ 1024 ∧ (s.memberList (s.profile n)).Nodup
      ∧ s.params.rate % (s.profile n).decimation = 0 ∧ ((s.profile n).depth ≠ 0 → (s.profile n).cls = .low)

/-- The Slot Ring (R84, R85, R100, R101, R105): a record that is not FREE stands at its position within the span from
H_low; a FREE record is empty; slots are held only in RUNNING and DRAINING; the EMITTING slot is H_low, and it is the slot
the Set Composer holds; the scrub runs in RESETTING alone; slot H_low is offered as soon as it is COMPLETE or CLOSED. -/
def State.ringLawful (s : State) : Prop :=
  (∀ i, (Tbl.get Slot.empty s.store.ring i).state ≠ .free →
      (Tbl.get Slot.empty s.store.ring i).g % 64 = i ∧ s.store.hLow ≤ (Tbl.get Slot.empty s.store.ring i).g
        ∧ (Tbl.get Slot.empty s.store.ring i).g ≤ s.store.hLow + 63)
    ∧ (∀ i, (Tbl.get Slot.empty s.store.ring i).state = .free → Tbl.get Slot.empty s.store.ring i = Slot.empty)
    ∧ (s.mgmt.engine = .running ∨ s.mgmt.engine = .draining
        ∨ ∀ i, (Tbl.get Slot.empty s.store.ring i).state = .free)
    ∧ (∀ g, (s.slot g).state = .emitting → g = s.store.hLow ∧ s.composer.working.isSome = true)
    ∧ (∀ w, s.composer.working = some w → w.g = s.store.hLow ∧ w.next ≤ 8 ∧ (s.slot w.g).state = .emitting)
    ∧ (s.store.scrubbing = true → s.mgmt.engine = .resetting)
    ∧ (s.slot s.store.hLow).state ≠ .complete ∧ (s.slot s.store.hLow).state ≠ .closed

/-- The cells on the free list and the cells linked into slot records are the 4096 cells, each once (R86). -/
def State.cellsConserved (s : State) : Prop :=
  (s.store.freeList ++ s.store.ring.flatMap (fun e => e.2.cells)).Perm (List.range 4096)

/-- Every context a slot record awaits is enabled (R103). -/
def State.awaitedEnabled (s : State) : Prop :=
  ∀ i k, CtxSet.has (Tbl.get Slot.empty s.store.ring i).awaited k = true → (s.ctx k).enabled = true

/-- The TRU's items lie in their ranges (2.1), and a TRU in HOLDOVER is within both holdover limits (R26). -/
def State.truInRange (s : State) : Prop :=
  s.tru.qualified < 3 ∧ s.tru.unqualifiedRun < 3 ∧ s.tru.mismatchRun < 3 ∧ s.tru.clockQuality ≤ 15
    ∧ s.tru.elapsedHoldover ≤ 86400 ∧ s.tru.slewPhase < slewSpacing ∧ s.tru.todBuf.length < 8
    ∧ (s.tru.state = .holdover →
        s.tru.elapsedHoldover < s.params.hMax
          ∧ holdoverUncertainty s.params.drift s.tru.elapsedHoldover ≤ uncertaintyLimit)

/-- What the configuration lock guards (R157): the structural parameters, the map, the descriptors and bindings, the
calibration, the profiles apart from their enabled state, the member lists, the managers and the access entries. -/
def SameConfig (s t : State) : Prop :=
  (t.params.rate = s.params.rate ∧ t.params.mapSelect = s.params.mapSelect ∧ t.params.mgmtId = s.params.mgmtId
      ∧ t.params.lead = s.params.lead ∧ t.params.ppsEdge = s.params.ppsEdge)
    ∧ t.map = s.map
    ∧ (∀ k, (t.ctx k).desc = (s.ctx k).desc ∧ (t.ctx k).binding = (s.ctx k).binding)
    ∧ t.conv = s.conv
    ∧ (∀ n, { t.profile n with enabled := false } = { s.profile n with enabled := false })
    ∧ t.members = s.members ∧ t.mgmt.managers = s.mgmt.managers ∧ t.mgmt.access = s.mgmt.access

end Sys2Proof.Machine
end

