-- ==== Sys2Proof/Certificates/Slice0/Obligations.lean ====
section
/-! DEFINITION. The statements for the provers. -/

section

open Sys2Proof Sys2Proof.Machine

/-! ### Engine Parameters -/

/-- R1, R159, R160: the twelve rates; a write of R is refused for a value that is no rate, then by the structural conditions,
then while the store has run, then for a misfit; else R is written and the next instant slot set anew (R32). -/
def Obligations.OutputRateWrite : Prop :=
  rates = [10, 12, 15, 20, 25, 30, 50, 60, 100, 120, 200, 240]
  ∧ ∀ (s : State) (r : Request) (cls : Nat) (v : Word), s.canRun r cls → (s.access 0).permits cls = true →
    (v.toNat ∉ rates → Completes s (.writeOutputRate r v) r .writeEntries s (refusedEntry .invalidValue))
    ∧ (v.toNat ∈ rates →
        (v.toNat ≠ s.params.rate → s.store.hLow ≠ 0 ∨ s.store.floor ≠ 0 →
          StructuralWrite s (.writeOutputRate r v) r s (refusedEntry .notPaused))
        ∧ (v.toNat = s.params.rate ∨ (s.store.hLow = 0 ∧ s.store.floor = 0) →
          ((∃ k, k ≤ 255 ∧ (s.ctx k).enabled = true ∧ compatible v.toNat (s.ctx k).desc.rate = false)
              ∨ (∃ n, n ≤ 7 ∧ (s.profile n).enabled = true ∧ v.toNat % (s.profile n).decimation ≠ 0) →
            StructuralWrite s (.writeOutputRate r v) r s (refusedEntry .rateMismatch))
          ∧ ((∀ k, k ≤ 255 → (s.ctx k).enabled = true → compatible v.toNat (s.ctx k).desc.rate = true)
              → (∀ n, n ≤ 7 → (s.profile n).enabled = true → v.toNat % (s.profile n).decimation = 0) →
            StructuralWrite s (.writeOutputRate r v) r
              { s with params := { s.params with rate := v.toNat }
                       tru := { s.tru with nextInstant := currentSlot v.toNat s.tru.now + 1 } } (wrote false))))

/-- R36, R20, R161, R92: the other structural parameters. An enumerated value outside its set is refused first; the map
select function is refused with MAP_NOT_EMPTY while any way is occupied; a numeric value is clamped. -/
def Obligations.StructuralParameterWrites : Prop :=
  ∀ (s : State) (r : Request) (cls : Nat) (v : Word), s.canRun r cls → (s.access 0).permits cls = true →
    (4 ≤ v.toNat → Completes s (.writeMapSelect r v) r .writeEntries s (refusedEntry .invalidValue))
    ∧ (∀ f, v.toNat = mapSelectCode f →
        ((∃ i, i < 1024 ∧ (s.way i).isSome = true) →
          StructuralWrite s (.writeMapSelect r v) r s (refusedEntry .mapNotEmpty))
        ∧ ((∀ i, i < 1024 → s.way i = none) →
          StructuralWrite s (.writeMapSelect r v) r
            { s with params := { s.params with mapSelect := f } } (wrote false)))
    ∧ (2 ≤ v.toNat → Completes s (.writePpsEdge r v) r .writeEntries s (refusedEntry .invalidValue))
    ∧ (∀ e, v.toNat = ppsEdgeCode e →
        StructuralWrite s (.writePpsEdge r v) r { s with params := { s.params with ppsEdge := e } } (wrote false))
    ∧ StructuralWrite s (.writeManagementIdentifier r v) r
        { s with params := { s.params with mgmtId := min v.toNat 65535 } } (wrote (decide (65535 < v.toNat)))
    ∧ StructuralWrite s (.writeEngineParameter r 3 v) r
        { s with params := { s.params with lead := min v.toNat 32 } } (wrote (decide (32 < v.toNat)))

/-- R49: a write of C_sat is clamped to 1 to 15, and every context's confidence above it becomes it. -/
def Obligations.CSatWriteClampsConfidences : Prop :=
  ∀ (s : State) (r : Request) (cls : Nat) (v : Word), s.canRun r cls → (s.access 0).permits cls = true → s.canonical →
    ∃ u, Completes s (.writeCSat r v) r .writeEntries u (wrote (decide (v.toNat < 1 ∨ 15 < v.toNat)))
      ∧ u = { s with params := { s.params with cSat := clampNat 1 15 v.toNat }, ctxs := u.ctxs }
      ∧ ∀ k, u.ctx k = { s.ctx k with confidence := min (s.ctx k).confidence (clampNat 1 15 v.toNat) }

/-- R112, R113: Wmin and Wmax are clamped to 1 to 40,000, refused where they would cross, and W_q is clamped into the new limits;
W0 is written as clamped and leaves W_q; W_q is clamped into its limits and replaces the value held; an enumerated window
parameter outside its set is refused and else written. -/
def Obligations.WindowParameterWrites : Prop :=
  ∀ (s : State) (r : Request) (cls : Nat) (v : Word), s.canRun r cls → (s.access 0).permits cls = true →
    let x := clampNat 1 40000 v.toNat
    let b := decide (v.toNat < 1 ∨ 40000 < v.toNat)
    (s.params.wMax < x →
      Completes s (.writeWindowLimits r .wMin v) r .writeEntries s (refusedEntry .invalidValue))
    ∧ (x ≤ s.params.wMax →
      Completes s (.writeWindowLimits r .wMin v) r .writeEntries
        { s with params := { s.params with wMin := x }
                 window := { s.window with wq := clampNat (16 * x) (16 * s.params.wMax) s.window.wq } } (wrote b))
    ∧ (x < s.params.wMin →
      Completes s (.writeWindowLimits r .wMax v) r .writeEntries s (refusedEntry .invalidValue))
    ∧ (s.params.wMin ≤ x →
      Completes s (.writeWindowLimits r .wMax v) r .writeEntries
        { s with params := { s.params with wMax := x }
                 window := { s.window with wq := clampNat (16 * s.params.wMin) (16 * x) s.window.wq } } (wrote b))
    ∧ Completes s (.writeW0 r v) r .writeEntries { s with params := { s.params with w0 := x } } (wrote b)
    ∧ (s.params.wMin ≤ s.params.wMax →
      Completes s (.writeWq r v) r .writeEntries
        { s with window := { s.window with wq := max (16 * s.params.wMin) (min v.toNat (16 * s.params.wMax)) } }
        (wrote (decide (v.toNat < 16 * s.params.wMin ∨ 16 * s.params.wMax < v.toNat))))
    ∧ (2 ≤ v.toNat → Completes s (.writeAdaptation r v) r .writeEntries s (refusedEntry .invalidValue))
    ∧ (v.toNat < 2 →
      Completes s (.writeAdaptation r v) r .writeEntries
        { s with params := { s.params with adaptation := decide (v.toNat = 1) } } (wrote false))
    ∧ (v.toNat ∉ [1, 2, 4, 8] →
      Completes s (.writeEngineParameter r 11 v) r .writeEntries s (refusedEntry .invalidValue)
      ∧ Completes s (.writeEngineParameter r 13 v) r .writeEntries s (refusedEntry .invalidValue))
    ∧ (v.toNat ∈ [1, 2, 4, 8] →
      Completes s (.writeEngineParameter r 11 v) r .writeEntries
        { s with params := { s.params with theta := v.toNat } } (wrote false)
      ∧ Completes s (.writeEngineParameter r 13 v) r .writeEntries
        { s with params := { s.params with downStep := v.toNat } } (wrote false))
    ∧ (v.toNat ∉ [16, 32, 64, 128] →
      Completes s (.writeEngineParameter r 12 v) r .writeEntries s (refusedEntry .invalidValue))
    ∧ (v.toNat ∈ [16, 32, 64, 128] →
      Completes s (.writeEngineParameter r 12 v) r .writeEntries
        { s with params := { s.params with upStep := v.toNat } } (wrote false))

/-- R107, R26: a watermark is clamped to 4095, and a write that would leave WM2 above WM1 is refused. Hmax and the drift bound
are clamped and take effect at once: a TRU in HOLDOVER at or above the new Hmax, or with its uncertainty above 1,638,400 ns,
enters FREERUN on the write. -/
def Obligations.WatermarkAndHoldoverWrites : Prop :=
  ∀ (s : State) (r : Request) (cls : Nat) (v : Word), s.canRun r cls → (s.access 0).permits cls = true →
    let judged (p : Params) : TruState :=
      if s.tru.state = .holdover
          ∧ (p.hMax ≤ s.tru.elapsedHoldover ∨ 1638400 < 100 + p.drift * s.tru.elapsedHoldover) then .freerun
      else s.tru.state
    let p1 : Params := { s.params with hMax := min v.toNat 86400 }
    let p2 : Params := { s.params with drift := clampNat 1 100000 v.toNat }
    let x := min v.toNat 4095
    let b := decide (4095 < v.toNat)
    (x < s.params.wm2 → Completes s (.writeWatermark r .wm1 v) r .writeEntries s (refusedEntry .invalidValue))
    ∧ (s.params.wm2 ≤ x →
      Completes s (.writeWatermark r .wm1 v) r .writeEntries { s with params := { s.params with wm1 := x } } (wrote b))
    ∧ (s.params.wm1 < x → Completes s (.writeWatermark r .wm2 v) r .writeEntries s (refusedEntry .invalidValue))
    ∧ (x ≤ s.params.wm1 →
      Completes s (.writeWatermark r .wm2 v) r .writeEntries { s with params := { s.params with wm2 := x } } (wrote b))
    ∧ Completes s (.writeHoldoverParameter r .hMax v) r .writeEntries
        { s with params := p1, tru := { s.tru with state := judged p1 } } (wrote (decide (86400 < v.toNat)))
    ∧ Completes s (.writeHoldoverParameter r .drift v) r .writeEntries
        { s with params := p2, tru := { s.tru with state := judged p2 } }
        (wrote (decide (v.toNat < 1 ∨ 100000 < v.toNat)))

/-- R159: WRITE_ENGINE_PARAMETER is a write of the entry of its index. It does what the parameter's own command does, writes
C_await, the promotion limit and the bypass limits as clamped (R49, R141, R142), and beyond index 22 is refused with
BAD_INDEX. -/
def Obligations.EngineParameterWrites : Prop :=
  ∀ (s : State) (r : Request) (v : Word),
    (exec (.writeEngineParameter r 0 v) s = exec (.writeOutputRate r v) s
      ∧ exec (.writeEngineParameter r 1 v) s = exec (.writeMapSelect r v) s
      ∧ exec (.writeEngineParameter r 2 v) s = exec (.writeManagementIdentifier r v) s
      ∧ exec (.writeEngineParameter r 4 v) s = exec (.writePpsEdge r v) s
      ∧ exec (.writeEngineParameter r 5 v) s = exec (.writeCSat r v) s
      ∧ exec (.writeEngineParameter r 7 v) s = exec (.writeWindowLimits r .wMin v) s
      ∧ exec (.writeEngineParameter r 8 v) s = exec (.writeWindowLimits r .wMax v) s
      ∧ exec (.writeEngineParameter r 9 v) s = exec (.writeW0 r v) s
      ∧ exec (.writeEngineParameter r 10 v) s = exec (.writeAdaptation r v) s
      ∧ exec (.writeEngineParameter r 14 v) s = exec (.writeWq r v) s
      ∧ exec (.writeEngineParameter r 15 v) s = exec (.writeWatermark r .wm1 v) s
      ∧ exec (.writeEngineParameter r 16 v) s = exec (.writeWatermark r .wm2 v) s
      ∧ exec (.writeEngineParameter r 17 v) s = exec (.writeHoldoverParameter r .hMax v) s
      ∧ exec (.writeEngineParameter r 18 v) s = exec (.writeHoldoverParameter r .drift v) s
      ∧ exec (.writeEngineParameter r 19 v) s = exec (.writeHoldLimit r v) s)
    ∧ ∀ cls, s.canRun r cls →
        (∀ i : Half, 22 < i.toNat →
          Completes s (.writeEngineParameter r i v) r .writeEntries s (refusedEntry .badIndex))
        ∧ ((s.access 0).permits cls = true →
            Completes s (.writeEngineParameter r 6 v) r .writeEntries
              { s with params := { s.params with cAwait := min v.toNat 15 } } (wrote (decide (15 < v.toNat)))
            ∧ Completes s (.writeEngineParameter r 20 v) r .writeEntries
              { s with params := { s.params with promotion := clampNat 1 1000 v.toNat } }
              (wrote (decide (v.toNat < 1 ∨ 1000 < v.toNat)))
            ∧ Completes s (.writeEngineParameter r 21 v) r .writeEntries
              { s with params := { s.params with highBypassMax := clampNat 1 15 v.toNat } }
              (wrote (decide (v.toNat < 1 ∨ 15 < v.toNat)))
            ∧ Completes s (.writeEngineParameter r 22 v) r .writeEntries
              { s with params := { s.params with lowBypassMax := clampNat 1 15 v.toNat } }
              (wrote (decide (v.toNat < 1 ∨ 15 < v.toNat))))

/-! ### Time (chapters 1 and 2) -/

/-- R3, R4: instants rise with G, by at least 4,166,666 ns; the instant of G lies in second floor(G / R) at the truncated fraction
of that second, which is 0 for slot index 0; the current slot is the largest slot whose instant is at or before local time, and
so the slot whose instant local time equals; after power-on reset it is 0. -/
def Obligations.CurrentSlotIsLargest : Prop :=
  (∀ r ∈ rates,
    (∀ g h, g < h → instantOf r g + 4166666 ≤ instantOf r h)
    ∧ (∀ g, instantOf r g / 1000000000 = g / r
        ∧ (instantOf r g % 1000000000) * r ≤ (g % r) * 1000000000
        ∧ (g % r) * 1000000000 < (instantOf r g % 1000000000 + 1) * r
        ∧ (g % r = 0 → instantOf r g % 1000000000 = 0))
    ∧ (∀ s : State, s.params.rate = r →
        (∀ g, g ≤ s.gnow ↔ s.instant g ≤ s.tru.now) ∧ ∀ g, s.tru.now = s.instant g → s.gnow = g))
    ∧ State.reset.gnow = 0

/-- R8, R9: the slot a valid tag is named by, with the wrap into the next second, and the residual in ticks with its range. -/
def Obligations.TagSlotAndResidualTicks : Prop :=
  ∀ r ∈ rates, ∀ b sec f : Nat, 1 ≤ b → b ≤ 1073741823 → f < b → sec < 2 ^ 32 →
    let n := slotIndexOf r b f
    n ≤ r
    ∧ (n = r → tagSlot r b sec f = (sec + 1) * r + 0)
    ∧ (n < r → tagSlot r b sec f = sec * r + n)
    ∧ tagSlot r b sec f / r = (if n = r then sec + 1 else sec)
    ∧ tagSlot r b sec f % r = (if n = r then 0 else n)
    ∧ tagSlot r b sec f ≤ 1030792151040
    ∧ residualTicks r b f = (f : Int) * r - (n : Int) * b
    ∧ -(b : Int) ≤ 2 * residualTicks r b f ∧ 2 * residualTicks r b f < b
    ∧ (n * b ≤ f * r ↔ 0 ≤ residualTicks r b f)
    ∧ (2 * (f * r) + b = 2 * (n * b) → 2 * residualTicks r b f = -(b : Int))
    ∧ n * b < 2 ^ 38 ∧ (residualTicks r b f).natAbs < 2 ^ 38

/-- R10, R74 to R76, R79, R80, R82: the part's rounding is to nearest with ties away from zero; the residual in nanoseconds and
the converted and packed parts are so rounded, and saturated to their widths; a RECT32 part is packed as it stands and never
saturates. A clamped value is the nearer end of its range. -/
def Obligations.RoundingAndSaturation : Prop :=
  (∀ (x : Int) (d : Nat), 0 < d →
      2 * (roundDiv x d * d - x).natAbs ≤ d
      ∧ (2 * (roundDiv x d * d - x).natAbs = d → x.natAbs < (roundDiv x d * d).natAbs))
    ∧ (∀ r ∈ rates, ∀ b f : Nat, 1 ≤ b → f < b →
        residualNs r b f = roundDiv (residualTicks r b f * 1000000000) (r * b)
        ∧ (residualNs r b f : Int).natAbs ≤ (roundDiv 1000000000 (2 * r)).natAbs)
    ∧ (∀ (e : Conversion) (re im : Int),
        let x := re * e.rotC - im * e.rotD
        let y := re * e.rotD + im * e.rotC
        let u := roundDiv (x * e.multiplier) (2 ^ (14 + e.shift))
        let v := roundDiv (y * e.multiplier) (2 ^ (14 + e.shift))
        convertPair e (re, im) =
          (max (-2147483648) (min u 2147483647), max (-2147483648) (min v 2147483647))
        ∧ (pairSaturates e (re, im) = true ↔
            u < -2147483648 ∨ 2147483647 < u ∨ v < -2147483648 ∨ 2147483647 < v))
    ∧ (∀ (h : Nat) (x : Int),
        packPart .rect32 h x = x
        ∧ packPart .rect16 h x = max (-32768) (min (roundDiv x (2 ^ h)) 32767)
        ∧ (packSaturates .rect16 h x = true ↔ packPart .rect16 h x ≠ roundDiv x (2 ^ h))
        ∧ packSaturates .rect32 h x = false)
    ∧ ∀ lo hi v : Nat, lo ≤ hi → clampNat lo hi v = max lo (min v hi)

/-- R31: the own quality code by TRU state, the least q whose limit holds the uncertainty, or 15; it is what a slot that leaves
OPEN samples with the TRU state, and byte 1 of the TIME record. -/
def Obligations.OwnQualityCode : Prop :=
  (∀ (t : Tru) (d : Nat),
    (t.state = .unset ∨ t.state = .acquiring ∨ t.state = .freerun → t.quality d = 15)
    ∧ (∀ u : Nat,
        (t.state = .locked ∧ u = 100 + t.slew.natAbs) ∨ (t.state = .holdover ∧ u = 100 + d * t.elapsedHoldover) →
          t.quality d ≤ 15
          ∧ (t.quality d < 15 → u ≤ 100 * 2 ^ t.quality d)
          ∧ ∀ p, p < t.quality d → 100 * 2 ^ p < u))
    ∧ (∀ (s : State) (g : Nat) (c : Cause), s.canonical → (s.slot g).state = .opened →
        ((s.leaveOpen g c).slot g).sampled = some (s.tru.state, s.tru.quality s.params.drift))
    ∧ ∀ s : State, (byteAt (s.statusRecord 1) 1).toNat = s.tru.quality s.params.drift

/-- R18, R29: as the oscillator runs, local time runs with it and with what the slew remainder gives up, one nanosecond in
10,000 at most, with the remainder's sign, never backward; a remainder of m is cleared in 10,000 m nanoseconds; and waiting
for a point of local time takes the least oscillator time that reaches it (log entries 3 and 5). -/
def Obligations.SlewedLocalTime : Prop :=
  ∀ (t : Tru) (a b : Nat), t.slewPhase < 10000 →
    let u := t.elapse a
    (u = { t with osc := t.osc + a, now := u.now, slew := u.slew, slewPhase := u.slewPhase })
    ∧ (u.now : Int) = t.now + a + (t.slew - u.slew)
    ∧ t.now ≤ u.now ∧ u.slewPhase < 10000
    ∧ (0 ≤ t.slew → 0 ≤ u.slew ∧ u.slew ≤ t.slew) ∧ (t.slew ≤ 0 → u.slew ≤ 0 ∧ t.slew ≤ u.slew)
    ∧ 10000 * (t.slew - u.slew).natAbs ≤ t.slewPhase + a
    ∧ (u.slew ≠ 0 → t.slewPhase + a < 10000 * ((t.slew - u.slew).natAbs + 1))
    ∧ (t.slewPhase = 0 → 10000 * t.slew.natAbs ≤ a → u.slew = 0)
    ∧ u.elapse b = t.elapse (a + b)
    ∧ t.now + b ≤ (t.elapse (t.timeFor b)).now
    ∧ (a < t.timeFor b → u.now < t.now + b)

/-- R19, R172: a message whose layout is right replaces the held announcement and moves an UNSET TRU to ACQUIRING; a message
marked not valid leaves none held; a message whose layout is wrong is counted, and the hunt begins at the byte after its byte 0:
the bytes from the next 0xA5 on are kept. A hunting TRU passes over the bytes before a 0xA5, which starts a message; the bytes of
a message that is not whole yet are held, and a later command's bytes follow them. Time passes before the bytes, and they all
arrive at the command, which is the model's choice (log entries 3 and 20). -/
def Obligations.TodMessageTaken : Prop :=
  (∀ m : List Byte, todLayoutOk m = true ↔
      byteAt m 0 = 0xA5 ∧ (byteAt m 1 &&& 0x70) = 0 ∧ byteAt m 6 = 0 ∧ (m.map BitVec.toNat).sum % 256 = 0)
    ∧ ∀ (s : State) (after : Nat) (bytes : List Byte),
      let u := s.elapse after
      let m := s.tru.todBuf ++ bytes
      let starts : Prop := s.tru.todHunting = false ∨ s.tru.todBuf ≠ [] ∨ byteAt bytes 0 = 0xA5
      (bytes ≠ [] → m.length = 8 → todLayoutOk m = true →
        let v : Tru := { u.tru with clockQuality := (byteAt m 1).toNat % 16, todHunting := false, todBuf := [] }
        ((byteAt m 1).getLsbD 7 = true → u.tru.state ≠ .unset →
          exec (.todMessage after bytes) s = .next { u with tru := { v with held := some (field m 2 4) } })
        ∧ ((byteAt m 1).getLsbD 7 = true → u.tru.state = .unset →
          exec (.todMessage after bytes) s = .next { u with tru :=
            { v with held := some (field m 2 4), state := .acquiring, qualified := 0, edgeTimer := some u.tru.osc } })
        ∧ ((byteAt m 1).getLsbD 7 = false →
          exec (.todMessage after bytes) s = .next { u with tru := { v with held := none } }))
      ∧ (bytes ≠ [] → m.length = 8 → starts → todLayoutOk m = false →
          ∀ p q, m.tail = p ++ q → (∀ x ∈ p, x ≠ 0xA5) → q = [] ∨ byteAt q 0 = 0xA5 →
          exec (.todMessage after bytes) s = .next { u with tru :=
            { u.tru with todHunting := true, todBuf := q
                         counts := { u.tru.counts with rejectedTod := satInc u.tru.counts.rejectedTod } } })
      ∧ (m.length < 8 → starts → exec (.todMessage after bytes) s = .next { u with tru := { u.tru with todBuf := m } })
      ∧ (s.tru.todHunting = true → s.tru.todBuf = [] → ∀ p q, bytes = p ++ q → (∀ x ∈ p, x ≠ 0xA5) →
          (q = [] → exec (.todMessage after bytes) s = .next u)
          ∧ exec (.todMessage after bytes) s = exec (.todMessage after q) s)
      ∧ ∀ p q, bytes = p ++ q → ∃ t, exec (.todMessage after p) s = .next t
          ∧ exec (.todMessage after bytes) s = exec (.todMessage 0 q) t

/-- R20, R21, R23: an edge of the other polarity, or in UNSET, is not taken. In ACQUIRING an unqualified edge returns the count
to 0, a qualified one raises it, and the third sets local time to the announced second, with no time-step event, and moves a
WAIT_TIME engine to RUNNING. The time before the edge, and the transition of the other polarity, are the model's (log entries 3
and 21). -/
def Obligations.EdgesUntilFirstLock : Prop :=
  ∀ (s : State) (after : Nat) (e : PpsEdge), s.params.rate ∈ rates →
    let u := s.elapse after
    let v : Tru := { u.tru with held := none, prevEdge := some u.tru.osc, edgeTimer := some u.tru.osc }
    (e ≠ s.params.ppsEdge ∨ s.tru.state = .unset → exec (.ppsEdge after e) s = .next u)
    ∧ (e = s.params.ppsEdge → s.tru.state = .acquiring →
        (u.tru.edgeQualified = true ↔
          ∃ a, u.tru.held = some a ∧ ∀ p, u.tru.prevEdge = some p →
            u.tru.qualified = 0 ∨ (999980000 ≤ u.tru.osc - p ∧ u.tru.osc - p ≤ 1000020000))
        ∧ (u.tru.edgeQualified = false → exec (.ppsEdge after e) s = .next { u with tru :=
            { v with qualified := 0
                     counts := { v.counts with unqualifiedEdges := satInc v.counts.unqualifiedEdges } } })
        ∧ (u.tru.edgeQualified = true → u.tru.qualified < 2 →
            exec (.ppsEdge after e) s = .next { u with tru := { v with qualified := v.qualified + 1 } })
        ∧ (∀ a, u.tru.edgeQualified = true → 2 ≤ u.tru.qualified → u.tru.held = some a →
            let w : State := { u with tru :=
              { v with state := .locked, elapsedHoldover := 0, qualified := 0, unqualifiedRun := 0, mismatchRun := 0
                       slew := 0, slewPhase := 0, now := a * 1000000000, nextInstant := a * s.params.rate + 1 } }
            (s.mgmt.engine ≠ .waitTime → exec (.ppsEdge after e) s = .next w)
            ∧ (s.mgmt.engine = .waitTime → exec (.ppsEdge after e) s = .next w.enterRunning)))

/-- R24, R25: in LOCKED a matching edge replaces the slew remainder by the offset and clears both runs; a mismatching or an
unqualified edge raises its run and clears the other, and the third in a row enters HOLDOVER, or FREERUN where Hmax is 0. Time
passes before the edge with no other event taken, and the second from which HOLDOVER is counted is kept: both are the model's
choice (log entries 3 and 28). -/
def Obligations.EdgesInLocked : Prop :=
  ∀ (s : State) (after : Nat) (e : PpsEdge), e = s.params.ppsEdge → s.tru.state = .locked →
    let u := s.elapse after
    let v : Tru := { u.tru with held := none, prevEdge := some u.tru.osc, edgeTimer := some u.tru.osc }
    let second := (u.tru.now + 500000000) / 1000000000
    let lost (c : TruCounts) : Tru :=
      { v with state := if s.params.hMax = 0 then .freerun else .holdover
               elapsedHoldover := 0, qualified := 0, unqualifiedRun := 0, mismatchRun := 0
               secondMark := v.now / 1000000000, counts := { c with holdoverEntries := satInc c.holdoverEntries } }
    let c1 : TruCounts := { v.counts with mismatchedEdges := satInc v.counts.mismatchedEdges }
    let c2 : TruCounts := { v.counts with unqualifiedEdges := satInc v.counts.unqualifiedEdges }
    (u.tru.edgeQualified = true ↔
      ∃ a, u.tru.held = some a ∧ ∀ p, u.tru.prevEdge = some p →
        999980000 ≤ u.tru.osc - p ∧ u.tru.osc - p ≤ 1000020000)
    ∧ (∀ a, u.tru.edgeQualified = true → u.tru.held = some a →
        (a = second → exec (.ppsEdge after e) s = .next { u with tru :=
          { v with slew := (a : Int) * 1000000000 - u.tru.now, slewPhase := 0, unqualifiedRun := 0, mismatchRun := 0 } })
        ∧ (a ≠ second → u.tru.mismatchRun < 2 → exec (.ppsEdge after e) s = .next { u with tru :=
          { v with unqualifiedRun := 0, mismatchRun := v.mismatchRun + 1, counts := c1 } })
        ∧ (a ≠ second → 2 ≤ u.tru.mismatchRun → exec (.ppsEdge after e) s = .next { u with tru := lost c1 }))
    ∧ (u.tru.edgeQualified = false →
        (u.tru.unqualifiedRun < 2 → exec (.ppsEdge after e) s = .next { u with tru :=
          { v with unqualifiedRun := v.unqualifiedRun + 1, mismatchRun := 0, counts := c2 } })
        ∧ (2 ≤ u.tru.unqualifiedRun → exec (.ppsEdge after e) s = .next { u with tru := lost c2 }))

/-- R21, R27, R28, R30: in HOLDOVER and FREERUN an edge is qualified by a held announcement and its interval, which is waived
without a previous edge or with the qualified-edge count at 0; edges count toward relock; the third qualified edge relocks, by
slew where the offset is at most 1,000,000 ns, else by a step that sets local time and raises the time-step event. The time before
the edge, and the order of the time step and the engine's move, are the model's (log entries 3 and 29). -/
def Obligations.RelockBySlewOrStep : Prop :=
  ∀ (s : State) (after : Nat) (e : PpsEdge), e = s.params.ppsEdge → s.params.rate ∈ rates →
    s.tru.state = .holdover ∨ s.tru.state = .freerun →
    let u := s.elapse after
    let v : Tru := { u.tru with held := none, prevEdge := some u.tru.osc, edgeTimer := some u.tru.osc }
    let w : Tru := { v with state := .locked, elapsedHoldover := 0, qualified := 0, unqualifiedRun := 0, mismatchRun := 0 }
    (u.tru.edgeQualified = true ↔
      ∃ a, u.tru.held = some a ∧ ∀ p, u.tru.prevEdge = some p →
        u.tru.qualified = 0 ∨ (999980000 ≤ u.tru.osc - p ∧ u.tru.osc - p ≤ 1000020000))
    ∧ (u.tru.edgeQualified = false → exec (.ppsEdge after e) s = .next { u with tru :=
        { v with qualified := 0
                 counts := { v.counts with unqualifiedEdges := satInc v.counts.unqualifiedEdges } } })
    ∧ (u.tru.edgeQualified = true → u.tru.qualified < 2 →
        exec (.ppsEdge after e) s = .next { u with tru := { v with qualified := v.qualified + 1 } })
    ∧ (∀ a, u.tru.edgeQualified = true → 2 ≤ u.tru.qualified → u.tru.held = some a →
        let offset : Int := (a : Int) * 1000000000 - u.tru.now
        let slewed : State := { u with tru :=
          { w with slew := offset, slewPhase := 0
                   counts := { w.counts with slewedRelocks := satInc w.counts.slewedRelocks } } }
        let stepped : State := { u with tru :=
          { w with slew := 0, slewPhase := 0, now := a * 1000000000, nextInstant := a * s.params.rate + 1
                   counts := { w.counts with
                     steppedRelocks := satInc w.counts.steppedRelocks, timeSteps := satInc w.counts.timeSteps } } }
        (offset.natAbs ≤ 1000000 → s.mgmt.engine ≠ .waitTime → exec (.ppsEdge after e) s = .next slewed)
        ∧ (offset.natAbs ≤ 1000000 → s.mgmt.engine = .waitTime →
            exec (.ppsEdge after e) s = .next slewed.enterRunning)
        ∧ (1000000 < offset.natAbs → s.mgmt.engine ≠ .waitTime →
            exec (.ppsEdge after e) s = .next stepped.takeTimeStep)
        ∧ (1000000 < offset.natAbs → s.mgmt.engine = .waitTime →
            exec (.ppsEdge after e) s = .next stepped.takeTimeStep.enterRunning))

/-- R22, R25, R26: the edge timer's expiry after 1.5 s, and the passing of a whole second in HOLDOVER, with the entry to
FREERUN at Hmax or above the limit of code 14. The waiting, with no other event taken, and how the seconds are told apart are the
model's choice (log entries 3 and 28). -/
def Obligations.EdgeTimerAndHoldoverSecond : Prop :=
  ∀ s : State,
    (s.tru.edgeTimer = none → exec .edgeTimerExpiry s = .next s)
    ∧ (∀ t, s.tru.edgeTimer = some t →
        let u := s.elapse (t + 1500000000 - s.tru.osc)
        let v : Tru := { u.tru with
          prevEdge := none, edgeTimer := some u.tru.osc
          counts := { u.tru.counts with edgeTimeouts := satInc u.tru.counts.edgeTimeouts } }
        (s.tru.state = .unset → exec .edgeTimerExpiry s = .next { u with tru := v })
        ∧ (s.tru.state = .acquiring ∨ s.tru.state = .holdover ∨ s.tru.state = .freerun →
            exec .edgeTimerExpiry s = .next { u with tru := { v with qualified := 0 } })
        ∧ (s.tru.state = .locked → exec .edgeTimerExpiry s = .next { u with tru :=
            { v with state := if s.params.hMax = 0 then .freerun else .holdover
                     elapsedHoldover := 0, qualified := 0, unqualifiedRun := 0, mismatchRun := 0
                     secondMark := v.now / 1000000000
                     counts := { v.counts with holdoverEntries := satInc v.counts.holdoverEntries } } }))
    ∧ (s.tru.state ≠ .holdover → exec .holdoverSecond s = .next s)
    ∧ (s.tru.state = .holdover →
        let u := s.waitLocal ((s.tru.secondMark + 1) * 1000000000)
        let n := u.tru.elapsedHoldover + 1
        exec .holdoverSecond s = .next { u with tru :=
          { u.tru with elapsedHoldover := n, secondMark := u.tru.secondMark + 1
                       state := if s.params.hMax ≤ n ∨ 1638400 < 100 + s.params.drift * n then .freerun
                                else .holdover } })

/-! ### Intake (chapters 3 and 4) -/

/-- R54 to R56, and the Conventions of 00_scope.md: every count rises by one up to 4,294,967,295, where it stays; an arrival is
discarded as oversize, joins the tail of its link's FIFO, or is discarded at a full FIFO with the overflow flag set; nothing
else changes but the time that passes before it, which is the model's choice (log entry 3). -/
def Obligations.FrameArrivalAtLink : Prop :=
  (∀ n, satInc n = min (n + 1) 4294967295)
  ∧ ∀ (s : State) (after : Nat) (link : Link) (source : Word) (frame : List Byte),
    let u := s.elapse after
    let l := s.linkIn link
    (2048 < frame.length → exec (.frameArrival after link source frame) s =
      .next (u.setLinkIn link { l with oversize := satInc l.oversize }))
    ∧ (frame.length ≤ 2048 → l.fifo.length < 16 → exec (.frameArrival after link source frame) s =
      .next (u.setLinkIn link
        { l with fifo := l.fifo ++ [{ source := source, bytes := frame }], received := satInc l.received }))
    ∧ (frame.length ≤ 2048 → 16 ≤ l.fifo.length → exec (.frameArrival after link source frame) s =
      .next (u.setLinkIn link { l with overflow := satInc l.overflow, overflowFlag := true }))

/-- R57 to R60: a busy unit or two empty FIFOs take nothing, which is the model's choice of what the command then does (log
entry 1); the frame taken is malformed, foreign, or a directive that joins the directive queue or is dropped, each with its
count. Each device-wide count of R68 and each counter of R52 rises alone. -/
def Obligations.FrameTakeClassifies : Prop :=
  (∀ c : IntakeCounts,
    [IntakeCount.accepted, .queued, .malformed, .foreign, .directiveDropped, .unknownStream, .disabled, .layoutMismatch,
        .paused, .noTime, .resetting, .tagInvalid, .offGrid, .duplicate, .late, .future, .outOfRing, .drainingClosed,
        .poolExhausted].map c.bump =
      [{ c with accepted := satInc c.accepted }, { c with queued := satInc c.queued },
        { c with malformed := satInc c.malformed }, { c with foreign := satInc c.foreign },
        { c with directiveDropped := satInc c.directiveDropped }, { c with unknownStream := satInc c.unknownStream },
        { c with disabled := satInc c.disabled }, { c with layoutMismatch := satInc c.layoutMismatch },
        { c with paused := satInc c.paused }, { c with noTime := satInc c.noTime },
        { c with resetting := satInc c.resetting }, { c with tagInvalid := satInc c.tagInvalid },
        { c with offGrid := satInc c.offGrid }, { c with duplicate := satInc c.duplicate },
        { c with late := satInc c.late }, { c with future := satInc c.future },
        { c with outOfRing := satInc c.outOfRing }, { c with drainingClosed := satInc c.drainingClosed },
        { c with poolExhausted := satInc c.poolExhausted }])
  ∧ (∀ c : CtxCounts,
    [CtxCount.admitted, .late, .offGrid, .duplicate, .other].map c.bump =
      [{ c with admitted := satInc c.admitted }, { c with late := satInc c.late }, { c with offGrid := satInc c.offGrid },
        { c with duplicate := satInc c.duplicate }, { c with other := satInc c.other }])
  ∧ ∀ s : State,
    (s.intake.busy ≠ none ∨ (s.intake.linkA.fifo = [] ∧ s.intake.linkB.fifo = []) → exec .frameTake s = .next s)
    ∧ ∀ (l : Link) (f : InFrame) (rest : List InFrame), s.takesNext l f rest →
      let u := s.taken l rest
      let bs := f.bytes
      let ok : Prop := 8 ≤ bs.length ∧ byteAt bs 0 = 0xE3 ∧ field bs 2 2 = bs.length
      (¬ok → exec .frameTake s = .next (u.counted .malformed))
      ∧ (ok → byteAt bs 1 ≠ 0x11 → byteAt bs 1 ≠ 0x31 ∨ field bs 4 2 ≠ s.params.mgmtId →
          exec .frameTake s = .next (u.counted .foreign))
      ∧ (ok → byteAt bs 1 = 0x31 → field bs 4 2 = s.params.mgmtId → s.mgmt.queue.length < 4 →
          exec .frameTake s =
            .next { u.counted .queued with mgmt := { s.mgmt with queue := s.mgmt.queue ++ [f] } })
      ∧ (ok → byteAt bs 1 = 0x31 → field bs 4 2 = s.params.mgmtId → 4 ≤ s.mgmt.queue.length →
          exec .frameTake s = .next (u.counted .directiveDropped))

/-- R6, R11 to R13, R37, R46, R50 to R52, R61 to R66, 11.2: fields are read most significant byte first and signed ones in two's
complement; a report carries what its frame holds at the offsets of 11.2; the checks of a report's admission in their order,
each discard with its counts and nothing else, and the placement request of a report that passes them all. -/
def Obligations.ReportAdmission : Prop :=
  (∀ (bs : List Byte) (off : Nat),
    (off + 2 ≤ bs.length → field bs off 2 = 256 * (byteAt bs off).toNat + (byteAt bs (off + 1)).toNat)
    ∧ (off + 4 ≤ bs.length → field bs off 4 = 65536 * field bs off 2 + field bs (off + 2) 2)
    ∧ ∀ k, 1 ≤ k → field bs off k < 256 ^ k
      ∧ signedField bs off k =
          if 2 * field bs off k < 256 ^ k then (field bs off k : Int) else (field bs off k : Int) - 256 ^ k)
  ∧ ∀ (s : State) (l : Link) (f : InFrame) (rest : List InFrame), s.takesNext l f rest →
    headerOk f.bytes = true → byteAt f.bytes 1 = 0x11 →
    let u := s.taken l rest
    (parseReport f.bytes = none ↔
      16 < (byteAt f.bytes 6).toNat ∨ f.bytes.length ≠ 18
        + (byteAt f.bytes 6).toNat * (if (byteAt f.bytes 7).getLsbD 0 = true then 8 else 4)
        + (if (byteAt f.bytes 7).getLsbD 1 = true then 8 else 0))
    ∧ (parseReport f.bytes = none → exec .frameTake s = .next (u.counted .malformed))
    ∧ ∀ r, parseReport f.bytes = some r →
      r.readFrom f.bytes
      ∧ (s.lookup r.streamId = none → exec .frameTake s = .next (u.counted .unknownStream))
      ∧ ∀ k, s.lookup r.streamId = some k →
        let x := s.ctx k
        let agrees : Prop := r.format = x.desc.format ∧ r.channels = x.desc.channels ∧ r.hasFreq = x.desc.hasFreq
        (x.enabled = false → exec .frameTake s = .next (u.dropped k .disabled .other))
        ∧ (x.enabled = true → ¬agrees → exec .frameTake s = .next (u.dropped k .layoutMismatch .other))
        ∧ (x.enabled = true → agrees →
          (s.mgmt.engine = .paused → exec .frameTake s = .next ((u.pended k).dropped k .paused .other))
          ∧ (s.mgmt.engine = .waitTime → exec .frameTake s = .next (u.dropped k .noTime .other))
          ∧ (s.mgmt.engine = .resetting → exec .frameTake s = .next (u.dropped k .resetting .other))
          ∧ (s.mgmt.engine = .running ∨ s.mgmt.engine = .draining →
            let onGrid : Prop :=
              (residualNs s.params.rate x.desc.timeBase r.ticks).natAbs ≤ 1000 * x.desc.tolerance
            (x.desc.timeBase ≤ r.ticks → exec .frameTake s = .next (u.dropped k .tagInvalid .other))
            ∧ (r.ticks < x.desc.timeBase → ¬onGrid → x.desc.policy = .discard →
                exec .frameTake s = .next (u.dropped k .offGrid .offGrid))
            ∧ ∀ p, r.ticks < x.desc.timeBase → onGrid ∨ x.desc.policy = .snap →
                period s.params.rate x.desc.rate = some p →
                let g := tagSlot s.params.rate x.desc.timeBase r.seconds r.ticks
                let distance : Nat := ((g : Int) - ((x.expected.getD g : Nat) : Int)).natAbs
                let v := u.setCtx k { x with
                  expected := some (g + p)
                  confidence :=
                    if distance = 0 then (if x.confidence < s.params.cSat then x.confidence + 1 else x.confidence)
                    else if distance ≤ 4 * p then x.confidence - 1
                    else 0 }
                (s.canonical → x.highest = some g → exec .frameTake s = .next (v.dropped k .duplicate .duplicate))
                ∧ (s.canonical → x.highest ≠ some g → ∃ mark : Bool, (mark = true ↔ ¬onGrid) ∧
                    let request : Placement :=
                      { ctx := k, g := g, residual := residualNs s.params.rate x.desc.timeBase r.ticks
                        offGrid := mark, awaitable := decide (s.params.cAwait ≤ x.confidence)
                        flags := r.flags, quality := r.quality, pairs := r.pairs, freq := r.freq }
                    exec .frameTake s = .next { v with intake := { v.intake with busy := some request } })))

/-- R34, R35, R37: the four map select functions on the bytes of a stream ID; and in a lawful map the lookup finds the context
of the way that holds the ID, or none where no way does. -/
def Obligations.LookupFindsBinding : Prop :=
  (∀ sid : Half,
      let lo : BitVec 8 := sid.extractLsb' 0 8
      let hi : BitVec 8 := sid.extractLsb' 8 8
      bucketOf .low sid = lo.toNat ∧ bucketOf .high sid = hi.toNat ∧ bucketOf .fold sid = (lo ^^^ hi).toNat
        ∧ bucketOf .foldrot sid = (lo ^^^ hi.rotateLeft 3).toNat)
    ∧ ∀ (s : State) (sid : Half) (k : Nat), s.mapLawful →
      (s.lookup sid = some k ↔ ∃ i, s.way i = some { streamId := sid, ctx := k })

/-! ### Placement and the Alignment Store (chapters 5 and 6) -/

/-- R57, R91 to R95: without a request nothing happens; each discard of a placement request by its step, with its counts, the
late notice of an awaitable report, and the close that an exhausted pool forces. A request in RESETTING is discarded as
RESETTING, and in no engine state but RUNNING does a slot open for one (log entry 11). -/
def Obligations.PlacementDiscards : Prop :=
  ∀ s : State,
    (s.intake.busy = none → exec .placementRequest s = .next s)
    ∧ ∀ q, s.intake.busy = some q →
      (s.mgmt.engine = .resetting → exec .placementRequest s = .next (s.dropped q.ctx .resetting .other))
      ∧ (s.mgmt.engine ≠ .resetting →
        let w := s.window
        let noticed : Window :=
          if q.awaitable = true ∧ w.total < 4294967295 then { w with total := w.total + 1, late := w.late + 1 } else w
        (s.lateFor q.g →
          exec .placementRequest s = .next ({ s with window := noticed }.dropped q.ctx .late .late))
        ∧ (¬s.lateFor q.g → s.gnow + s.params.lead < q.g →
            exec .placementRequest s = .next (s.dropped q.ctx .future .other))
        ∧ (¬s.lateFor q.g → q.g ≤ s.gnow + s.params.lead → s.store.hLow + 64 ≤ q.g →
            exec .placementRequest s = .next (s.dropped q.ctx .outOfRing .other))
        ∧ (¬s.lateFor q.g → q.g ≤ s.gnow + s.params.lead → q.g ≤ s.store.hLow + 63 → s.mgmt.engine ≠ .running →
            (s.slot q.g).state = .free → exec .placementRequest s = .next (s.dropped q.ctx .drainingClosed .other))
        ∧ (s.placeable q.g → (s.slot q.g).state ≠ .free →
          (CtxSet.has (s.slot q.g).arrived q.ctx = true →
            exec .placementRequest s = .next (s.dropped q.ctx .duplicate .duplicate))
          ∧ (CtxSet.has (s.slot q.g).arrived q.ctx = false → s.store.freeList = [] →
            let v : State := { s with store := { s.store with poolPressure := true } }
            ((s.slot s.store.hLow).state ≠ .opened →
              exec .placementRequest s = .next (v.dropped q.ctx .poolExhausted .other))
            ∧ ((s.slot s.store.hLow).state = .opened →
              exec .placementRequest s =
                .next ((v.leaveOpen s.store.hLow .forcedPool).offer.dropped q.ctx .poolExhausted .other)))))

/-- R51, R66, R70, R73 to R78, R86, R87, R95 to R97: a report accepted into a slot that is held takes the cell at the head of the
free list, fills it with the converted report and links it into the slot; the on-time notice, the counts and the context's highest
accepted slot follow; the last awaited arrival completes the slot. For a FREE slot, the slot is opened first; where that opening
completes slot H_low and makes it EMITTING, the report is linked into the EMITTING slot, or discarded where no cell is free, which
is the model's reading (log entry 15). -/
def Obligations.PlacementAccepts : Prop :=
  ∀ (s : State) (q : Placement), s.canonical → s.intake.busy = some q →
    s.mgmt.engine ≠ .resetting → s.placeable q.g →
    let entry (i : Nat) : Conversion := s.conversion (16 * q.ctx + i)
    let cell : Cell :=
      { ctx := q.ctx, residual := q.residual, offGrid := q.offGrid, flags := q.flags, quality := q.quality
        pairs := (List.range q.pairs.length).map fun i => convertPair (entry i) (q.pairs.getD i (0, 0))
        freq := q.freq
        saturated := (List.range q.pairs.length).any fun i => pairSaturates (entry i) (q.pairs.getD i (0, 0)) }
    let pool (c : Nat) : Tbl Cell := Tbl.set Cell.zero s.store.pool c cell
    let joined (x : Slot) (c : Nat) : Slot :=
      { x with arrived := CtxSet.add x.arrived q.ctx, cells := linkCell (pool c) c x.cells }
    let filled (o : State) (c : Nat) (rest : List Nat) : State := ({ o with
      window :=
        if q.awaitable = true ∧ o.window.total < 4294967295 then { o.window with total := o.window.total + 1 } else o.window
      store := { o.store with
        pool := pool c, freeList := rest, lowestFree := min o.store.lowestFree rest.length
        saturatedCells :=
          if cell.saturated = true then satInc o.store.saturatedCells else o.store.saturatedCells } }).setSlot q.g
            (joined (o.slot q.g) c)
    let accepted (t : State) : State := (t.counted .accepted).setCtx q.ctx
      { t.ctx q.ctx with
        highest := some (max q.g ((t.ctx q.ctx).highest.getD 0))
        counts := { (t.ctx q.ctx).counts with admitted := satInc (t.ctx q.ctx).counts.admitted } }
    (∀ (c : Nat) (rest : List Nat), (s.slot q.g).state ≠ .free → CtxSet.has (s.slot q.g).arrived q.ctx = false →
      s.store.freeList = c :: rest →
      let x := s.slot q.g
      let y := joined x c
      let v := filled s c rest
      (x.state = .complete ∨ CtxSet.minus x.awaited y.arrived ≠ 0 ∨ s.tru.now < s.instant q.g →
        exec .placementRequest s = .next (accepted v))
      ∧ (x.state = .opened → CtxSet.minus x.awaited y.arrived = 0 → s.instant q.g ≤ s.tru.now →
        exec .placementRequest s = .next (accepted ((v.leaveOpen q.g .complete).offerIfLow q.g)))
      ∧ y.cells.Perm (c :: x.cells)
      ∧ (x.cells.Pairwise (fun a b => (Tbl.get Cell.zero (pool c) a).ctx ≤ (Tbl.get Cell.zero (pool c) b).ctx) →
          y.cells.Pairwise (fun a b => (Tbl.get Cell.zero (pool c) a).ctx ≤ (Tbl.get Cell.zero (pool c) b).ctx)))
    ∧ ((s.slot q.g).state = .free →
        ((s.openSlot q.g).slot q.g).state = .opened ∨ ((s.openSlot q.g).slot q.g).state = .complete →
        ∀ t, exec .placementRequest (s.openSlot q.g) = .next t →
          exec .placementRequest s = .next (t.expireIfDue q.g))
    ∧ ((s.slot q.g).state = .free → q.g = s.store.hLow → s.awaitedFor q.g = 0 → s.instant q.g ≤ s.tru.now →
        let o := s.openSlot q.g
        (o.slot q.g).state = .emitting ∧ (o.slot q.g).cells = [] ∧ o.store.freeList = s.store.freeList
        ∧ o.composer.working = some { g := q.g, next := 0 }
        ∧ (∀ (c : Nat) (rest : List Nat), s.store.freeList = c :: rest →
            exec .placementRequest s = .next (accepted (filled o c rest)))
        ∧ (s.store.freeList = [] → exec .placementRequest s =
            .next ({ o with store := { o.store with poolPressure := true } }.dropped q.ctx .poolExhausted .other)))

/-- R14 to R16, R50, R84, R87, R114, R115: the period of a rate, and the slots a context is expected in; a slot opened takes the
applied window of the moment for its deadline and the awaitable contexts expected in it as its awaited set, and completes at
once where that set is empty and its instant has passed. A record written for slot G is read for G alone, and no other slot of
its position is then held. -/
def Obligations.SlotOpening : Prop :=
  (∀ R Rs : Nat,
    let fits : Prop := Rs ≠ 0 ∧ (Rs % R = 0 ∨ R % Rs = 0)
    (fits → R ≤ Rs → period R Rs = some 1) ∧ (fits → Rs < R → period R Rs = some (R / Rs)) ∧ (¬fits → period R Rs = none))
  ∧ (∀ (s : State) (k g : Nat), s.expected k g = true ↔
      ∃ p, period s.params.rate (s.ctx k).desc.rate = some p ∧ g % p = 0)
  ∧ ∀ (s : State) (g : Nat), s.canonical →
    let r := Window.opening s.params (decide (s.store.freeList.length < s.params.wm2)) s.window
    let v : State := ({ s with window := r.2 }).setSlot g
      { g := g, state := .opened, deadline := s.instant g + r.1 * 100000, awaited := s.awaitedFor g }
    (∀ (x : Slot) (j : Nat), x.g = g → x.state ≠ .free →
      (s.setSlot g x).slot j = if j = g then x else if j % 64 = g % 64 then Slot.empty else s.slot j)
    ∧ (∀ k, CtxSet.has (s.awaitedFor g) k = true ↔
      k < 256 ∧ (s.ctx k).enabled = true ∧ s.params.cAwait ≤ (s.ctx k).confidence
        ∧ ∃ p, period s.params.rate (s.ctx k).desc.rate = some p ∧ g % p = 0)
    ∧ (s.awaitedFor g ≠ 0 ∨ s.tru.now < s.instant g → s.openSlot g = v)
    ∧ (s.awaitedFor g = 0 → s.instant g ≤ s.tru.now → s.openSlot g = (v.leaveOpen g .complete).offerIfLow g)

/-- R84, R99, R101, R117: a slot that leaves OPEN samples the time state, takes its cause and its state, charges a miss to each
awaited context that did not arrive, sends its notice where its cause has one and raises its close count; and slot H_low, once
COMPLETE or CLOSED, is EMITTING and with the composer. Nothing else changes. -/
def Obligations.SlotLeavesOpen : Prop :=
  ∀ (s : State) (g : Nat) (c : Cause), s.canonical → (s.slot g).state = .opened →
    let x := s.slot g
    let y : Slot := { x with
      state := if c = .complete then .complete else .closed
      cause := some c, sampled := some (s.tru.state, s.tru.quality s.params.drift) }
    let t := s.leaveOpen g c
    let k (d : Cause) (n : Nat) : Nat := if c = d then satInc n else n
    let cc := s.store.closeCounts
    t = { s with
      ctxs := t.ctxs
      window := if c = .complete ∨ c = .deadline then
          Window.closingNotice s.params s.store.freeList.length s.window else s.window
      store := { s.store with
        ring := Tbl.set Slot.empty s.store.ring (g % 64) y
        closeCounts :=
          { complete := k .complete cc.complete, deadline := k .deadline cc.deadline
            forcedPool := k .forcedPool cc.forcedPool, forcedRing := k .forcedRing cc.forcedRing
            forcedDrain := k .forcedDrain cc.forcedDrain, timeStep := k .timeStep cc.timeStep } } }
    ∧ (∀ i, t.ctx i =
        if CtxSet.has x.awaited i = true ∧ CtxSet.has x.arrived i = false then
          { s.ctx i with confidence := (s.ctx i).confidence - 1 }
        else s.ctx i)
    ∧ (g ≠ s.store.hLow → t.offerIfLow g = t)
    ∧ (g = s.store.hLow → t.offerIfLow g =
        { t.setSlot g { y with state := .emitting } with
          composer := { s.composer with working := some { g := g, next := 0 } } })

/-- R88, R90, R97, R32: the instant event of the next instant slot, by where that slot stands. The waiting, with no
other event taken, is the model's choice (log entry 3). -/
def Obligations.InstantEventTaken : Prop :=
  ∀ s : State,
    let g := s.tru.nextInstant
    let w := s.waitLocal (s.instant g)
    let u : State := { w with tru := { w.tru with nextInstant := g + 1 } }
    let x := s.slot g
    let low := s.slot s.store.hLow
    (g < s.store.hLow ∨ g < s.store.floor → exec .instantEvent s = .next u)
    ∧ (s.store.hLow ≤ g → s.store.floor ≤ g → g ≤ s.store.hLow + 63 →
        (x.state = .complete ∨ x.state = .closed ∨ x.state = .emitting → exec .instantEvent s = .next u)
        ∧ (x.state = .free → s.mgmt.engine ≠ .running → exec .instantEvent s = .next u)
        ∧ (x.state = .free → s.mgmt.engine = .running →
            exec .instantEvent s = .next ((u.openSlot g).expireIfDue g))
        ∧ (x.state = .opened → CtxSet.minus x.awaited x.arrived ≠ 0 → exec .instantEvent s = .next u)
        ∧ (x.state = .opened → CtxSet.minus x.awaited x.arrived = 0 → s.instant g ≤ u.tru.now →
            exec .instantEvent s = .next ((u.leaveOpen g .complete).offerIfLow g)))
    ∧ (s.store.hLow + 64 ≤ g → s.store.floor ≤ g →
        (s.mgmt.engine ≠ .running ∨ low.state ≠ .opened → exec .instantEvent s = .next u)
        ∧ (s.mgmt.engine = .running → low.state = .opened →
            let v := u.leaveOpen s.store.hLow .forcedRing
            exec .instantEvent s = .next ({ v with store := { v.store with ringForced := true } }).offer))

/-- R97, R98, R101: the deadline of an OPEN slot is reached: the slot completes where every awaited context has arrived and its
instant has passed, and else closes with cause DEADLINE. A slot that is not OPEN takes no expiry; an opening that finds the
deadline passed takes the same expiry at once (R87), and no other. That the command waits for the deadline, with no other event
taken, is the model's choice (log entry 3). -/
def Obligations.DeadlineExpiryCloses : Prop :=
  ∀ (s : State) (g : Nat), s.canonical →
    let x := s.slot g
    let u := s.waitLocal x.deadline
    let whole : Prop := CtxSet.minus x.awaited x.arrived = 0 ∧ s.instant g ≤ u.tru.now
    u = { s with tru := s.tru.elapse (s.tru.timeFor (x.deadline - s.tru.now)) }
    ∧ (x.state ≠ .opened → exec (.deadlineExpiry g) s = .next s)
    ∧ (x.state = .opened → ¬whole →
        exec (.deadlineExpiry g) s = .next ((u.leaveOpen g .deadline).offerIfLow g))
    ∧ (x.state = .opened → whole →
        exec (.deadlineExpiry g) s = .next ((u.leaveOpen g .complete).offerIfLow g))
    ∧ (x.state = .opened → s.tru.slewPhase < 10000 → exec (.deadlineExpiry g) s = .next (u.expireIfDue g))
    ∧ (x.state = .opened → x.deadline ≤ s.tru.now → s.tru.slewPhase < 10000 → (s.tru.slew = 0 → s.tru.slewPhase = 0) →
        exec (.deadlineExpiry g) s = .next (s.expireIfDue g))
    ∧ (x.state ≠ .opened ∨ s.tru.now < x.deadline → s.expireIfDue g = s)

/-- R47, R99, R102, R104, R30: at a time step every OPEN or COMPLETE slot is closed with cause TIME_STEP: an OPEN one samples the
time state and charges its misses, each keeps its cells and is counted; the step floor becomes Gnow + 1 under the new local
time, H_low passes a FREE slot below it, a closed slot H_low is handed to the composer, and no slot is opened. -/
def Obligations.TimeStepClosesSlots : Prop :=
  ∀ s : State, s.canonical → s.ringLawful →
    let t := s.takeTimeStep
    t = { s with ctxs := t.ctxs, store := t.store, composer := { s.composer with working := t.composer.working } }
    ∧ t.store = { s.store with ring := t.store.ring, hLow := t.store.hLow, closeCounts := t.store.closeCounts
                               floor := s.gnow + 1 }
    ∧ ForcedClose .timeStep s t
    ∧ (s.gnow + 1 ≤ s.store.hLow ∨ (s.slot s.store.hLow).state ≠ .free → t.store.hLow = s.store.hLow)
    ∧ (s.store.hLow < s.gnow + 1 → (s.slot s.store.hLow).state = .free →
        s.store.hLow < t.store.hLow ∧ t.store.hLow ≤ s.gnow + 1
          ∧ (∀ g, s.store.hLow < g → (s.slot g).state ≠ .free → t.store.hLow ≤ g)
          ∧ (t.store.hLow = s.gnow + 1 ∨ (s.slot t.store.hLow).state ≠ .free))

/-! ### The wait window (chapter 7) -/

/-- R114, R115, R117, R118: the applied window of an opening request in its three cases; the window computed from W_q is
floor(W_q / 16), and one unit more exactly where floor((j + 1) f / 16) is greater than floor(j f / 16) for the fraction f of W_q,
so that over the sixteen values of j the windows add up to W_q. A closing notice counts; the sixteenth
takes an evaluation, which clears L, T and the closing counter and, with adaptation ON and reports counted, raises W_q where the
late share is at or above θ and the pool is not short, holds it where the pool is short, and lowers it otherwise, clamped into
its limits. -/
def Obligations.WaitWindow : Prop :=
  (∀ (p : Params) (w : Window),
    Window.opening p true w =
        (p.wMin, { w with lastApplied := p.wMin
                          counts := { w.counts with overridden := satInc w.counts.overridden } })
    ∧ (p.adaptation = false → Window.opening p false w = (p.w0, { w with lastApplied := p.w0 }))
    ∧ (p.adaptation = true →
        (Window.opening p false w).2 =
            { w with lastApplied := (Window.opening p false w).1, j := if w.j = 15 then 0 else (w.j + 1) % 16 }
        ∧ (w.j * (w.wq % 16) / 16 < (w.j + 1) * (w.wq % 16) / 16 → (Window.opening p false w).1 = w.wq / 16 + 1)
        ∧ ((w.j + 1) * (w.wq % 16) / 16 ≤ w.j * (w.wq % 16) / 16 → (Window.opening p false w).1 = w.wq / 16)
        ∧ ((List.range 16).map fun j => (Window.opening p false { w with j := j }).1).sum = w.wq))
    ∧ ∀ (p : Params) (n : Nat) (w : Window), p.wMin ≤ p.wMax →
      let v (q : Nat) (c : WindowCounts) : Window :=
        { w with wq := q, late := 0, total := 0, closings := 0
                 counts := { c with evaluations := satInc w.counts.evaluations } }
      let clamp (q : Nat) : Nat := max (16 * p.wMin) (min q (16 * p.wMax))
      (w.closings < 15 → Window.closingNotice p n w = { w with closings := w.closings + 1 })
      ∧ (w.closings = 15 →
          (p.adaptation = false → Window.closingNotice p n w = v w.wq w.counts)
          ∧ (p.adaptation = true → w.total = 0 →
              Window.closingNotice p n w = v w.wq { w.counts with idle := satInc w.counts.idle })
          ∧ (p.adaptation = true → 0 < w.total → p.theta * w.total ≤ 16 * w.late → p.wm1 ≤ n →
              Window.closingNotice p n w =
                v (clamp (w.wq + p.upStep)) { w.counts with raises := satInc w.counts.raises })
          ∧ (p.adaptation = true → 0 < w.total → p.theta * w.total ≤ 16 * w.late → n < p.wm1 →
              Window.closingNotice p n w = v w.wq { w.counts with holds := satInc w.counts.holds })
          ∧ (p.adaptation = true → 0 < w.total → 16 * w.late < p.theta * w.total →
              Window.closingNotice p n w =
                v (clamp (w.wq - p.downStep)) { w.counts with lowers := satInc w.counts.lowers }))

/-! ### Composition (chapter 8) -/

/-- R128, R129, R131, R132, R147: how many bytes a batch of the sets held and a new set would take, whether a member is missing, and
what entering the queue is. A composition step without a slot, or with frames on offer, does nothing. A profile that does
not take the slot is passed over; one that takes it has its set built and entered in the egress queue, or joined to its holding
list, which becomes a batch frame first where the new set would not fit, and at the profile's depth with it. After the turn of
profile 7 the slot is composed in the same step (log entry 24). -/
def Obligations.CompositionStepTurns : Prop :=
  (∀ (sets : List (List Byte)) (new : List Byte), batchLength sets new = 8 + (sets.map List.length).sum + new.length)
  ∧ (∀ ms : List (Half × MemberState), anyMissing ms = true ↔ ∃ m ∈ ms, m.2 = .missing)
  ∧ (∀ (x : Egress) (osc : Nat) (f : OutFrame), x.enter osc f = { x with
      queue := x.queue ++ [{ frame := f, enqueued := osc }]
      counts := { x.counts with highWater := max x.counts.highWater (x.queue.length + 1) } })
  ∧ ∀ s : State,
    (s.composer.working = none ∨ s.composer.outbound ≠ [] → exec .compositionStep s = .next s)
    ∧ ∀ w, s.composer.working = some w → w.next < 8 → s.quiet → s.canonical →
      let p := s.profile w.next
      let x := s.slot w.g
      let h := s.holding w.next
      let bytes := s.buildSet w.next x
      let k := s.composer.counts
      let c : ComposerCounts := { k with
        sets := satInc k.sets
        incomplete := if anyMissing (s.membersOf p x) = true then satInc k.incomplete else k.incomplete }
      let on (cs : ComposerCounts) : Composer :=
        { s.composer with working := some { w with next := w.next + 1 }, counts := cs }
      let sent (f : OutFrame) : Egress := { s.egress.enter s.tru.osc f with composerWaits := false }
      let batch (sets : List (List Byte)) : OutFrame :=
        { bytes := batchFrame w.next sets, dest := p.dest, kind := .batch, cls := .low }
      let leaves (u : State) : Prop :=
        exec .compositionStep s = .next (if w.next = 7 then u.composed.settleAndJudge else u)
      (¬(p.enabled = true ∧ x.g % p.decimation = 0) → leaves { s with composer := on k })
      ∧ (p.enabled = true → x.g % p.decimation = 0 →
        (p.depth = 0 → leaves { s with
            composer := on c, egress := sent { bytes := bytes, dest := p.dest, kind := .set, cls := p.cls } })
        ∧ (h.sets = [] ∨ batchLength h.sets bytes ≤ 65535 → h.sets.length + 1 < p.depth →
            leaves ({ s with composer := on c }.setHolding w.next
              { sets := h.sets ++ [bytes], timer := if h.sets = [] then some s.tru.osc else h.timer }))
        ∧ (h.sets = [] ∨ batchLength h.sets bytes ≤ 65535 → p.depth ≠ 0 → p.depth ≤ h.sets.length + 1 →
            leaves ({ s with
              composer := on { c with batches := satInc c.batches }
              egress := sent (batch (h.sets ++ [bytes])) }.setHolding w.next Holding.empty))
        ∧ (h.sets ≠ [] → 65535 < batchLength h.sets bytes → 2 ≤ p.depth →
            leaves ({ s with
              composer := on { c with batches := satInc c.batches }
              egress := sent (batch h.sets) }.setHolding w.next { sets := [bytes], timer := some s.tru.osc })))

/-- R79 to R82, R125, R129 to R131, R169, R170, 11.3: the member state of a context in a slot and the members of a profile's set;
a member record field by field; a set-batch frame: its header, then its sets whole and in order, oldest first; and a set frame:
its header field by field, then its member records in order. That bits 7 to 4 of a member's byte 7 are 0 is the model's choice, not
the spec's (log entry 35); of the other bits that no field names nothing is said. -/
def Obligations.SetFrameFields : Prop :=
  (∀ (s : State) (x : Slot) (k : Nat),
      (∀ c, s.memberState x k = .present c ↔ s.cellOf x k = some c)
      ∧ (∀ c, s.cellOf x k = some c → c.ctx = k ∧ ∃ i ∈ x.cells, s.cell i = c)
      ∧ (s.cellOf x k = none ↔ ∀ i ∈ x.cells, (s.cell i).ctx ≠ k)
      ∧ (s.cellOf x k = none →
        (s.memberState x k = .disabled ↔ (s.ctx k).binding = none ∨ (s.ctx k).enabled = false)
        ∧ (s.memberState x k = .notExpected ↔
            (s.ctx k).binding ≠ none ∧ (s.ctx k).enabled = true ∧ s.expected k x.g = false)
        ∧ (s.memberState x k = .missing ↔
            (s.ctx k).binding ≠ none ∧ (s.ctx k).enabled = true ∧ s.expected k x.g = true)))
    ∧ (∀ (s : State) (n : Nat) (x : Slot),
      let p := s.profile n
      s.buildSet n x = setFrame s.params.rate n p x (s.membersOf p x)
      ∧ (s.membersOf p x).length = p.count
      ∧ ∀ i, i < p.count → ∃ k, k = s.member (p.base + i)
          ∧ (s.membersOf p x)[i]? = some ((s.ctx k).binding.getD 0xFFFF, s.memberState x k))
    ∧ (∀ (p : Profile) (sid : Half),
      memberRecord p sid .disabled = beBytes 2 sid.toNat ++ [0x10, 0]
      ∧ memberRecord p sid .notExpected = beBytes 2 sid.toNat ++ [0x11, 0]
      ∧ memberRecord p sid .missing = beBytes 2 sid.toNat ++ [0x12, 0]
      ∧ ∀ c : Cell,
        let m := memberRecord p sid (.present c)
        let w : Nat := if p.format = .rect16 then 2 else 4
        let fits (v : Int) : Prop := -2147483648 ≤ v ∧ v ≤ 2147483647
        let tail := 12 + c.pairs.length * (2 * w)
        m.length = tail + (if p.inclFreq = true ∧ c.freq.isSome = true then 2 * w else 0)
        ∧ field m 0 2 = sid.toNat ∧ byteAt m 2 = (if p.inclFreq = true ∧ c.freq.isSome = true then 1 else 0)
        ∧ (byteAt m 3).toNat = c.pairs.length % 256 ∧ field m 4 2 = c.flags.toNat
        ∧ (c.quality ≤ 15 → (byteAt m 7).toNat = c.quality
            ∧ (byteAt m 6).getLsbD 0 = c.offGrid ∧ (byteAt m 6).getLsbD 1 = memberSaturated p c)
        ∧ (fits c.residual → signedField m 8 4 = c.residual)
        ∧ (∀ i x, c.pairs[i]? = some x → fits x.1 → fits x.2 →
            signedField m (12 + i * (2 * w)) w = packPart p.format p.shift x.1
              ∧ signedField m (12 + i * (2 * w) + w) w = packPart p.format p.shift x.2)
        ∧ (∀ y, p.inclFreq = true → c.freq = some y → fits y.1 → fits y.2 →
            signedField m tail w = packPart p.format 0 y.1 ∧ signedField m (tail + w) w = packPart p.format 0 y.2)
        ∧ (memberSaturated p c = true ↔ c.saturated = true
            ∨ (∃ x ∈ c.pairs, packSaturates p.format p.shift x.1 = true ∨ packSaturates p.format p.shift x.2 = true)
            ∨ ∃ y, p.inclFreq = true ∧ c.freq = some y
              ∧ (packSaturates p.format 0 y.1 = true ∨ packSaturates p.format 0 y.2 = true)))
    ∧ (∀ (n : Nat) (sets : List (List Byte)),
      let f := batchFrame n sets
      f.length = 8 + (sets.map List.length).sum ∧ f.drop 8 = sets.flatten
      ∧ byteAt f 0 = 0xE3 ∧ byteAt f 1 = 0x22 ∧ field f 2 2 = f.length % 65536
      ∧ field f 4 2 = n % 65536 ∧ field f 6 2 = sets.length % 65536
      ∧ (f.length ≤ 65535 → headerOk f = true))
    ∧ ∀ (r n : Nat) (p : Profile) (x : Slot) (ms : List (Half × MemberState)),
      let f := setFrame r n p x ms
      let q := setQuality ((x.sampled.map Prod.snd).getD 0) ms
      f.length = 22 + (ms.map fun m => (memberRecord p m.1 m.2).length).sum
      ∧ f.drop 22 = ms.flatMap (fun m => memberRecord p m.1 m.2)
      ∧ (f.length ≤ 65535 → headerOk f = true) ∧ byteAt f 1 = 0x21
      ∧ field f 4 2 = n % 65536 ∧ field f 6 2 = p.count % 65536
      ∧ field f 8 4 = x.g / r % 2 ^ 32 ∧ field f 12 2 = x.g % r % 65536 ∧ (byteAt f 14).toNat = r % 256
      ∧ (byteAt f 15).toNat = q % 256
      ∧ (x.sampled.map Prod.snd).getD 0 ≤ q ∧ (∀ c sid, (sid, MemberState.present c) ∈ ms → c.quality ≤ q)
      ∧ (q = (x.sampled.map Prod.snd).getD 0 ∨ ∃ c sid, (sid, MemberState.present c) ∈ ms ∧ q = c.quality)
      ∧ (field f 16 2).testBit 0 = decide (x.cause = some .forcedPool)
      ∧ (field f 16 2).testBit 1 = decide (x.cause = some .forcedRing)
      ∧ (field f 16 2).testBit 2 = decide (x.cause = some .forcedDrain)
      ∧ (field f 16 2).testBit 3 = decide (x.cause = some .timeStep)
      ∧ (field f 16 2).testBit 4 = decide (x.sampled.map Prod.fst = some .holdover)
      ∧ (field f 16 2).testBit 5 = decide (x.sampled.map Prod.fst = some .freerun)
      ∧ ((field f 16 2).testBit 6 = true ↔ ∃ sid, (sid, MemberState.missing) ∈ ms)
      ∧ ((field f 16 2).testBit 7 = true ↔ ∃ c sid, (sid, MemberState.present c) ∈ ms ∧ memberSaturated p c = true)
      ∧ (∀ j, j < 16 →
          ((field f 18 2).testBit j = true ↔ ∃ c sid, (sid, MemberState.present c) ∈ ms ∧ c.flags.getLsbD j = true))
      ∧ (byteAt f 20).getLsbD 0 = decide (p.format = .rect32) ∧ (byteAt f 20).getLsbD 1 = p.inclFreq
      ∧ (byteAt f 20).toNat / 16 = (if p.format = .rect32 then 0 else p.shift % 16) ∧ byteAt f 21 = 0

/-- R86, R101, R102, R128, R135, R164: when the last profile has been considered and the outbound list is empty, slot H_low is
released: its cells return to the free list, H_low advances to the next held slot or as far as the step floor, and the next
slot, if it is COMPLETE or CLOSED, is offered. In RUNNING catch-up opens the FREE slots from the new H_low and the floor up to
the end of the ring and Gnow, in ascending order, each with a passed deadline's expiry at once, and the held slots stand. In
DRAINING every set held first leaves as a batch frame, no slot opens, and the drain ends where the ring is then FREE. When the
ring is FREE and the composer has nothing left is spelled out. That a drain whose new H_low is FREE below a held slot stands is
the model's choice (log entry 36). -/
def Obligations.CompositionReleasesSlot : Prop :=
  (∀ s : State,
    (s.ringFree = true ↔ ∀ i, i < 64 → (Tbl.get Slot.empty s.store.ring i).state = .free)
    ∧ (s.holdingEmpty = true ↔ ∀ n, n < 8 → (s.holding n).sets = [])
    ∧ (s.composerEmpty = true ↔
      s.composer.working = none ∧ (∀ n, n < 8 → (s.holding n).sets = []) ∧ s.composer.outbound = []))
  ∧ ∀ (s : State) (w : Composing), s.composer.working = some w → s.mgmt.exec = .idle → s.mgmt.formed = [] →
    s.composer.outbound = [] → s.egress.link ≠ .ready → s.canonical → s.ringLawful →
    let t := s.composed.settleAndJudge
    let bare := max (s.store.hLow + 1) s.store.floor
    (w.next = 8 → exec .compositionStep s = .next t)
    ∧ t.store.freeList = (s.slot s.store.hLow).cells.reverse ++ s.store.freeList
    ∧ t.store.pool = s.store.pool ∧ t.store.composed = satInc s.store.composed ∧ t.store.floor = s.store.floor
    ∧ s.store.hLow < t.store.hLow ∧ t.store.hLow ≤ bare
    ∧ (∀ g, s.store.hLow < g → (s.slot g).state ≠ .free → t.store.hLow ≤ g ∧ (t.slot g).state ≠ .free)
    ∧ (t.store.hLow = bare ∨ (s.slot t.store.hLow).state ≠ .free)
    ∧ (t.slot t.store.hLow).state ≠ .complete ∧ (t.slot t.store.hLow).state ≠ .closed
    ∧ (t.composer.working = none ∨ (t.composer.working = some { g := t.store.hLow, next := 0 }
        ∧ (t.slot t.store.hLow).state = .emitting))
    ∧ (s.mgmt.engine = .running →
        let held (g : Nat) : Slot := { s.slot g with
          state :=
            if g = t.store.hLow ∧ ((s.slot g).state = .complete ∨ (s.slot g).state = .closed) then .emitting
            else (s.slot g).state }
        let released : State := { s.setSlot s.store.hLow Slot.empty with
          store := { (s.setSlot s.store.hLow Slot.empty).store with
            freeList := (s.slot s.store.hLow).cells.reverse ++ s.store.freeList
            composed := satInc s.store.composed, hLow := t.store.hLow }
          composer := { s.composer with working := none } }
        t = ((s.catchUpSlots t.store.hLow).foldl (fun u g => (u.openSlot g).expireIfDue g) released).offer
        ∧ t = { s with ctxs := t.ctxs, window := t.window, store := t.store
                       composer := { s.composer with working := t.composer.working } }
        ∧ (∀ g, s.store.hLow < g → (s.slot g).state ≠ .free → t.slot g = held g)
        ∧ (∀ g, g ∈ s.catchUpSlots t.store.hLow ↔
            (t.store.hLow ≤ g ∧ s.store.floor ≤ g) ∧ (g ≤ t.store.hLow + 63 ∧ g ≤ s.gnow) ∧ (s.slot g).state = .free)
        ∧ (∀ g, (s.slot g).state = .free →
            ((t.slot g).state ≠ .free ↔ g ∈ s.catchUpSlots t.store.hLow)
            ∧ ((t.slot g).state = .opened → s.tru.now < (t.slot g).deadline)))
    ∧ (s.mgmt.engine = .draining → s.egress.queue.length + s.heldBatches.length ≤ 32 →
        BatchesSent s t []
        ∧ t.ctxs = s.ctxs ∧ t.window = s.window
        ∧ (∀ g, (s.slot g).state = .free → (t.slot g).state = .free)
        ∧ (∀ g, s.store.hLow < g → (s.slot g).state ≠ .free →
            t.slot g = { s.slot g with
              state :=
                if g = t.store.hLow ∧ ((s.slot g).state = .complete ∨ (s.slot g).state = .closed) then .emitting
                else (s.slot g).state })
        ∧ t.mgmt.engine = (if t.ringFree = true then .paused else .draining))

/-- R133, R132, R147: a stopped hold timer takes no expiry; a running one, at the batch hold limit, turns the held sets into
one batch frame; the waiting, with no other event taken, is the model's choice (log entry 3). A write of the limit is clamped and
expires a timer already past it, one exactly at it included by the model's choice (log entry 25): the batch frame enters the queue
ahead of the write's answer (log entry 12). Several expiries at one write, whose order is the model's (log entry 33), are left
out. -/
def Obligations.HoldLimitAndExpiry : Prop :=
  ∀ s : State,
    (∀ n, (s.holding n.val).timer = none → exec (.holdExpiry n) s = .next s)
    ∧ (∀ (n : Fin 8) t, (s.holding n.val).timer = some t → (s.holding n.val).sets ≠ [] → s.quiet →
        s.mgmt.engine ≠ .draining →
        let u := s.elapse (t + s.params.holdLimit * 1000000 - s.tru.osc)
        let f : OutFrame :=
          { bytes := batchFrame n.val (s.holding n.val).sets, dest := (s.profile n.val).dest, kind := .batch, cls := .low }
        let k := s.composer.counts
        exec (.holdExpiry n) s = .next ({ u with
          composer := { s.composer with
            counts := { k with batches := satInc k.batches, holdExpiries := satInc k.holdExpiries } }
          egress := { s.egress.enter u.tru.osc f with composerWaits := false } }.setHolding n.val Holding.empty))
    ∧ ∀ (r : Request) (cls : Nat) (v : Word), s.canRun r cls → (s.access 0).permits cls = true → s.canonical →
        let u : State := { s with params := { s.params with holdLimit := clampNat 10 60000 v.toNat } }
        let b := decide (v.toNat < 10 ∨ 60000 < v.toNat)
        ((∀ n t, n < 8 → (s.holding n).timer = some t → s.tru.osc < t + u.params.holdLimit * 1000000) →
          Completes s (.writeHoldLimit r v) r .writeEntries u (wrote b))
        ∧ (∀ n t, n < 8 → (s.holding n).timer = some t → t + u.params.holdLimit * 1000000 ≤ s.tru.osc →
          (∀ m y, m < 8 → m ≠ n → (s.holding m).timer = some y → s.tru.osc < y + u.params.holdLimit * 1000000) →
          Completes s (.writeHoldLimit r v) r .writeEntries (u.holdExpire n) (wrote b)
          ∧ ((s.holding n).sets ≠ [] → s.quiet → s.egress.queue.length < 31 → s.mgmt.engine ≠ .draining →
            let f : OutFrame :=
              { bytes := batchFrame n (s.holding n).sets, dest := (s.profile n).dest, kind := .batch, cls := .low }
            let k := s.composer.counts
            exec (.writeHoldLimit r v) s = .next ({ u with
              composer := { s.composer with
                counts := { k with batches := satInc k.batches, holdExpiries := satInc k.holdExpiries } }
              egress := { s.egress.enter s.tru.osc f with composerWaits := false }.enter s.tru.osc
                (s.formAnswer r.source r.tag 0x02 (wrote b))
              mgmt := { s.mgmt with
                counts := { s.mgmt.counts with executed := satInc s.mgmt.counts.executed } }
              free := s.free + 1 }.setHolding n Holding.empty)))

/-! ### Egress (chapter 9) -/

/-- R134, R143 to R146, R148, R149, R153, R164: a ready indication at a WAITING link with entries in the queue sends the entry
that the selection chooses, with the bypass counts of the older entries passed over; with an empty queue the link becomes READY.
The place that the selection frees in a full queue takes the waiting answer, and where none waits the Set Composer's waiting
frame, with which a drain may end, and so may a flush, whose deferred answer is then offered and waits or sheds the oldest LOW
entry. A completion indication ends the transmission and raises its counts. A ready indication at a SENDING link, or at a READY
one with an empty queue, and a completion at a link that is not SENDING, do nothing but let the time pass that is the model's
choice (log entry 3). -/
def Obligations.LinkIndications : Prop :=
  ∀ (s : State) (after : Nat), s.mgmt.formed = [] →
    let u := s.elapse after
    let q := s.egress.queue
    let chosen (i : Nat) (e : Entry) : Egress :=
      { s.egress with
        queue := (q.take i).map (fun o =>
            if classCode (e.effective s.params u.tru.osc) < classCode (o.effective s.params u.tru.osc) then
              { o with bypass := min (o.bypass + 1) 15 } else o) ++ q.drop (i + 1)
        link := .sending e.frame (e.promoted s.params u.tru.osc)
        counts := { s.egress.counts with
          limited := if e.limited s.params u.tru.osc = true then satInc s.egress.counts.limited
            else s.egress.counts.limited } }
    let joined (x : Egress) (f : OutFrame) : Egress :=
      { x with
        queue := x.queue ++ [{ frame := f, enqueued := u.tru.osc }]
        counts := { x.counts with highWater := max x.counts.highWater 32 } }
    (s.mgmt.exec = .idle → s.composer.outbound = [] →
      ¬(s.mgmt.engine = .draining ∧ s.ringFree = true ∧ s.composerEmpty = true) →
      (s.egress.link = .waiting → q = [] →
        exec (.readyIndication after) s = .next { u with egress := { s.egress with link := .ready } })
      ∧ (s.egress.link = .ready → q = [] → exec (.readyIndication after) s = .next u)
      ∧ (∀ i e, s.egress.link = .waiting → choosePosition s.params u.tru.osc q = some i → q[i]? = some e →
          exec (.readyIndication after) s = .next { u with egress := chosen i e })
      ∧ (∀ f b, s.egress.link = .sending f b → exec (.readyIndication after) s = .next u))
    ∧ (∀ a i e, s.mgmt.exec = .waiting a → s.composer.outbound = [] ∨ s.egress.composerWaits = true →
        ¬(s.mgmt.engine = .draining ∧ s.ringFree = true ∧ s.composerEmpty = true) →
        s.egress.link = .waiting → q.length = 32 → choosePosition s.params u.tru.osc q = some i → q[i]? = some e →
        exec (.readyIndication after) s = .next { u with
          egress := joined (chosen i e) a, mgmt := { s.mgmt with exec := .idle } })
    ∧ (∀ f rest i e, s.mgmt.exec = .idle → s.composer.outbound = f :: rest → s.egress.composerWaits = true →
        f.endsFlush = false → s.egress.link = .waiting → q.length = 32 →
        choosePosition s.params u.tru.osc q = some i → q[i]? = some e →
        let v : State := { u with
          egress := { joined (chosen i e) f with composerWaits := false }
          composer := { s.composer with outbound := rest } }
        (rest = [] → exec (.readyIndication after) s = .next { v with
          mgmt := { s.mgmt with
            engine :=
              if s.mgmt.engine = .draining ∧ s.ringFree = true ∧ s.composer.working = none ∧ s.holdingEmpty = true then
                .paused
              else s.mgmt.engine } })
        ∧ (rest ≠ [] → f.cls ≠ .low → (∀ o ∈ q, o.frame.cls ≠ .low) → exec (.readyIndication after) s = .next { v with
          egress := { v.egress with composerWaits := true }
          composer := { v.composer with
            counts := { v.composer.counts with waits := satInc v.composer.counts.waits } } }))
    ∧ (∀ f i e d, s.mgmt.exec = .idle → s.composer.outbound = [f] → s.egress.composerWaits = true →
        f.endsFlush = true → s.mgmt.deferredFlush = some d → s.egress.link = .waiting → q.length = 32 →
        choosePosition s.params u.tru.osc q = some i → q[i]? = some e →
        let y : Egress := { joined (chosen i e) f with composerWaits := false }
        let a : OutFrame :=
          { s with composer := { s.composer with flushBusy := false } }.formAnswer d.source d.tag 0x24 (reply .done)
        let v : State := { u with
          composer := { s.composer with outbound := [], flushBusy := false }
          egress := y
          mgmt := { s.mgmt with
            engine :=
              if s.mgmt.engine = .draining ∧ s.ringFree = true ∧ s.composer.working = none ∧ s.holdingEmpty = true then
                .paused
              else s.mgmt.engine
            deferredFlush := none
            counts := { s.mgmt.counts with executed := satInc s.mgmt.counts.executed } } }
        ((∀ o ∈ y.queue, o.frame.cls ≠ .low) → exec (.readyIndication after) s = .next { v with
          egress := { y with counts := { y.counts with answerWaits := satInc y.counts.answerWaits } }
          mgmt := { v.mgmt with exec := .waiting a } })
        ∧ (∀ l o r, y.queue = l ++ o :: r → o.frame.cls = .low → (∀ p ∈ l, p.frame.cls ≠ .low) →
          exec (.readyIndication after) s = .next { v with
            egress := { y with
              queue := l ++ r ++ [{ frame := a, enqueued := u.tru.osc }], shedFlag := true
              counts := { y.counts with shed := satInc y.counts.shed } } }))
    ∧ (∀ f b, s.egress.link = .sending f b →
        let c := s.egress.counts
        exec (.completionIndication after) s = .next { u with egress := { s.egress with
          link := .waiting
          counts := { c with
            sent := satInc c.sent
            answers := if f.kind = .answer then satInc c.answers else c.answers
            sets := if f.kind = .set then satInc c.sets else c.sets
            batches := if f.kind = .batch then satInc c.batches else c.batches
            promoted := if b = true ∧ f.kind = .set then satInc c.promoted else c.promoted } } })
    ∧ (s.egress.link = .waiting ∨ s.egress.link = .ready → exec (.completionIndication after) s = .next u)

/-- R141, R142, R144: a selection chooses the oldest entry that has reached its limit, and where none has, the oldest entry of
the highest effective class. -/
def Obligations.SelectionChooses : Prop :=
  ∀ (p : Params) (osc : Nat) (q : List Entry),
    (∀ e ∈ q,
        e.effective p osc =
          (if e.frame.cls = .variableClass then
            (if p.promotion * 1000000 < osc - e.enqueued then .high else .medium)
          else e.frame.cls)
        ∧ (e.limited p osc = true ↔
            (e.effective p osc = .medium ∧ p.highBypassMax ≤ e.bypass)
              ∨ (e.effective p osc = .low ∧ p.lowBypassMax ≤ e.bypass)))
    ∧ (q ≠ [] → ∃ i e, choosePosition p osc q = some i ∧ q[i]? = some e
        ∧ ((e.limited p osc = true ∧ ∀ j o, j < i → q[j]? = some o → o.limited p osc = false)
          ∨ ((∀ o ∈ q, o.limited p osc = false)
            ∧ (∀ o ∈ q, classCode (e.effective p osc) ≤ classCode (o.effective p osc))
            ∧ ∀ j o, j < i → q[j]? = some o →
                classCode (e.effective p osc) < classCode (o.effective p osc))))

/-- R132, R134, R138, R143, R147 to R149, R153: a frame offered to a queue with a free place enters it; offered to a full queue that
holds a LOW entry it enters once the oldest LOW entry is shed; offered to any other full queue its producer waits: the Management
Unit with its answer, the Set Composer with the head of its outbound list, which it does not offer again while it waits. The taking
of the frame that ends a flush clears the flush-busy flag and forms the deferred answer. A frame that enters at a READY link is
chosen at once. -/
def Obligations.OffersToTheQueue : Prop :=
  ∀ s : State,
    let x := s.egress
    let entered (f : OutFrame) : Egress :=
      { x with
        queue := x.queue ++ [{ frame := f, enqueued := s.tru.osc }]
        counts := { x.counts with highWater := max x.counts.highWater (x.queue.length + 1) } }
    let displaced (l r : List Entry) (f : OutFrame) : Egress :=
      { x with
        queue := l ++ r ++ [{ frame := f, enqueued := s.tru.osc }], shedFlag := true
        counts := { x.counts with shed := satInc x.counts.shed, highWater := max x.counts.highWater 32 } }
    (∀ a : OutFrame,
      (x.queue.length < 32 → s.offerAnswer a = { s with mgmt := { s.mgmt with exec := .idle }, egress := entered a })
      ∧ (∀ l e r, x.queue = l ++ e :: r → x.queue.length = 32 → e.frame.cls = .low → (∀ o ∈ l, o.frame.cls ≠ .low) →
          s.offerAnswer a = { s with mgmt := { s.mgmt with exec := .idle }, egress := displaced l r a })
      ∧ (32 ≤ x.queue.length → (∀ o ∈ x.queue, o.frame.cls ≠ .low) → s.offerAnswer a = { s with
          mgmt := { s.mgmt with exec := .waiting a }
          egress := { x with counts := { x.counts with answerWaits := satInc x.counts.answerWaits } } }))
    ∧ (∀ (f : OutFrame) (rest : List OutFrame), s.composer.outbound = f :: rest →
      let k := s.composer.counts
      let ended (m : Mgmt) (d : Deferred) : Mgmt :=
        { m with
          deferredFlush := none
          formed := m.formed
            ++ [{ s with composer := { s.composer with flushBusy := false } }.formAnswer d.source d.tag 0x24 (reply .done)]
          counts := { m.counts with executed := satInc m.counts.executed } }
      let leaves (y : Egress) : Prop :=
        (f.endsFlush = false → s.composerOffer = some { s with
          composer := { s.composer with outbound := rest }, egress := { y with composerWaits := false } })
        ∧ (f.endsFlush = true → s.mgmt.deferredFlush = none → s.composerOffer = some { s with
          composer := { s.composer with outbound := rest, flushBusy := false }
          egress := { y with composerWaits := false } })
        ∧ (∀ d, f.endsFlush = true → s.mgmt.deferredFlush = some d → s.composerOffer = some { s with
          composer := { s.composer with outbound := rest, flushBusy := false }
          egress := { y with composerWaits := false }
          mgmt := ended s.mgmt d })
      (x.queue.length < 32 → leaves (entered f))
      ∧ (∀ l e r, x.queue = l ++ e :: r → x.queue.length = 32 → e.frame.cls = .low → (∀ o ∈ l, o.frame.cls ≠ .low) →
          x.composerWaits = false → leaves (displaced l r f))
      ∧ (32 ≤ x.queue.length → (∀ o ∈ x.queue, o.frame.cls ≠ .low) → x.composerWaits = false →
          s.composerOffer = some { s with
            composer := { s.composer with counts := { k with waits := satInc k.waits } }
            egress := { x with composerWaits := true } })
      ∧ (32 ≤ x.queue.length → x.composerWaits = true → s.composerOffer = none))
    ∧ ∀ w, s.composer.working = some w → w.next < 8 → s.composer.outbound = [] → s.mgmt.exec = .idle →
      s.mgmt.formed = [] →
      let p := s.profile w.next
      let y := s.slot w.g
      let f : OutFrame := { bytes := s.buildSet w.next y, dest := p.dest, kind := .set, cls := p.cls }
      let c : ComposerCounts := { s.composer.counts with
        sets := satInc s.composer.counts.sets
        incomplete :=
          if anyMissing (s.membersOf p y) = true then satInc s.composer.counts.incomplete
          else s.composer.counts.incomplete }
      let on : Composer := { s.composer with working := some { w with next := w.next + 1 }, counts := c }
      p.enabled = true → y.g % p.decimation = 0 → p.depth = 0 →
      (x.link ≠ .ready → x.queue.length = 32 → (∀ o ∈ x.queue, o.frame.cls ≠ .low) → x.composerWaits = false →
        exec .compositionStep s = .next { s with
          composer := { on with outbound := [f], counts := { c with waits := satInc c.waits } }
          egress := { x with composerWaits := true } })
      ∧ (x.link = .ready → x.queue = [] → w.next < 7 → 1 ≤ s.params.highBypassMax → 1 ≤ s.params.lowBypassMax →
        exec .compositionStep s = .next { s with
          composer := on
          egress := { x with
            link := .sending f false, composerWaits := false
            counts := { x.counts with highWater := max x.counts.highWater 1 } } })

/-! ### Directives (chapters 3, 5, 8 and 10) -/

/-- R153, R154, R167, R169 to R171, 11.4: the IDLE Management Unit takes the head of the directive queue and executes it as the
command of its fields would be, with the queue's rest; a unit that is not IDLE, or an empty queue, takes nothing. The fifteen
codes; and a frame of fewer than 9 bytes, or of another code, is answered MALFORMED with its request tag and its code, 0x00
where it has none. The answer frame field by field, its destination and class, the nineteen outcome codes, and the counts that
an answer raises. Bits 4 and 3 of byte 11 and 7 to 1 of byte 13, which no field names, are not spoken of (log entry 35). -/
def Obligations.DirectiveTakeRunsTheHead : Prop :=
  (∀ s : State, s.mgmt.exec ≠ .idle ∨ s.mgmt.queue = [] → exec .directiveTake s = .next s)
    ∧ [DirectiveCode.readEntries, .writeEntries, .bindStream, .unbindStream, .setStreamState, .enableProfile,
        .disableProfile, .resume, .pause, .pauseNow, .engineReset, .flushBatches, .clearCounters, .lockConfig,
        .readStatus].map codeByte =
      [0x01, 0x02, 0x10, 0x11, 0x12, 0x13, 0x14, 0x20, 0x21, 0x22, 0x23, 0x24, 0x25, 0x26, 0x30]
    ∧ (∀ (s : State) (f : InFrame) (rest : List InFrame) (cls : Nat), s.mgmt.queue = f :: rest →
        8 ≤ f.bytes.length → (f.bytes.length = 8 ∨ ∀ k, byteAt f.bytes 8 ≠ codeByte k) →
        let r : Request := { source := f.source, tag := BitVec.ofNat 16 (field f.bytes 6 2) }
        let u : State := { s with mgmt := { s.mgmt with queue := rest } }
        s.knows r cls →
        ∃ t, exec .directiveTake s = .next t
          ∧ Carried u t r (if f.bytes.length = 8 then 0 else byteAt f.bytes 8) (reply .malformed))
    ∧ (∀ (s : State) (dest : Word) (tag : Half) (code : Byte) (x : Reply),
        let f := s.formAnswer dest tag code x
        let bs := f.bytes
        f.dest = dest ∧ f.kind = .answer ∧ f.cls = .high ∧ f.endsFlush = false
        ∧ bs.length = 16 + x.data.length ∧ bs.drop 16 = x.data
        ∧ byteAt bs 0 = 0xE3 ∧ byteAt bs 1 = 0x32 ∧ field bs 2 2 = bs.length % 65536
        ∧ field bs 4 2 = s.params.mgmtId % 65536 ∧ field bs 6 2 = tag.toNat
        ∧ byteAt bs 8 = code ∧ byteAt bs 9 = outcomeByte x.outcome ∧ (byteAt bs 10).toNat = x.entriesDone % 256
        ∧ ((byteAt bs 11).getLsbD 7 = true ↔ ∃ k, k < 256 ∧ CtxSet.has s.mgmt.pendingMap k = true)
        ∧ (byteAt bs 11).getLsbD 6 = s.mgmt.lock ∧ (byteAt bs 11).getLsbD 5 = s.composer.flushBusy
        ∧ (byteAt bs 11).toNat % 8 =
            (match s.mgmt.engine with
              | .paused => 0
              | .waitTime => 1
              | .running => 2
              | .draining => 3
              | .resetting => 4)
        ∧ (x.cause = none → byteAt bs 12 = 0) ∧ (∀ o, x.cause = some o → byteAt bs 12 = outcomeByte o)
        ∧ (byteAt bs 13).getLsbD 0 = x.clampedBefore ∧ byteAt bs 14 = 0 ∧ byteAt bs 15 = 0)
    ∧ [OutcomeCode.done, .clamped, .partialDone, .denied, .locked, .notPaused, .notRunning, .busy, .busyContext, .badTable,
        .badIndex, .invalidValue, .bucketFull, .alreadyBound, .notBound, .mapNotEmpty, .rateMismatch, .duplicateMember,
        .malformed].map outcomeByte =
      [0x00, 0x01, 0x02, 0x10, 0x11, 0x12, 0x13, 0x14, 0x15, 0x20, 0x21, 0x22, 0x23, 0x24, 0x25, 0x26, 0x27, 0x28, 0x30]
    ∧ (∀ (m : MgmtCounts) (x : Reply),
        let carries (o : OutcomeCode) : Prop := x.outcome = o ∨ (x.outcome = .partialDone ∧ x.cause = some o)
        (m.answered x).executed = satInc m.executed ∧ (m.answered x).unknownSource = m.unknownSource
        ∧ (carries .denied → (m.answered x).denied = satInc m.denied)
        ∧ (¬carries .denied → (m.answered x).denied = m.denied)
        ∧ (carries .locked → (m.answered x).locked = satInc m.locked)
        ∧ (¬carries .locked → (m.answered x).locked = m.locked)
        ∧ (m.answered x).busy = if x.outcome = .busy then satInc m.busy else m.busy)
    ∧ ∀ (s : State) (r : Request) (k : DirectiveCode) (o c st : Byte) (i : Half) (data : List Byte) (rest : List InFrame),
        s.mgmt.exec = .idle → s.headIs r k o i c st data rest →
        exec .directiveTake s =
            .next ({ s with mgmt := { s.mgmt with queue := rest } }.takeDirective (directive r k o i.toNat c st data))
        ∧ ∀ command, directiveOf command = some (r, k, directive r k o i.toNat c st data) →
            exec .directiveTake s = exec command { s with mgmt := { s.mgmt with queue := rest } }

/-- R45, R67, R153 to R156, R171, 11.4: a directive command is its directive's execution by the IDLE unit, after the whole of an
admission in progress (log entry 11); an unknown source is discarded and counted; and the checks of a directive in their order,
each answered with its outcome and nothing else done. What each check tests is spelled out: the fields and lengths of each code,
the entry sizes, and which Access Table entry or class governs each directive. -/
def Obligations.DirectiveChecksInOrder : Prop :=
  (∀ (s : State) (source : Word),
      (s.senderClass source = none ↔ (∃ i, i < 4 ∧ (s.manager i).enabled = true)
        ∧ ∀ i, i < 4 → (s.manager i).enabled = true → (s.manager i).source ≠ source)
      ∧ ((∀ i, i < 4 → (s.manager i).enabled = false) → s.senderClass source = some 0)
      ∧ ∀ i, i < 4 → (s.manager i).enabled = true → (s.manager i).source = source →
          (∀ j, j < 4 → j ≠ i → (s.manager j).enabled = true → (s.manager j).source ≠ source) →
          s.senderClass source = some (s.manager i).cls)
    ∧ (∀ (a : Access) (c : Nat), a.permits c = true ↔ c ≤ a.level ∨ a.deny.getLsbD c = false)
    ∧ (∀ (s : State) (cls : Nat),
      let by_ (i : Nat) : Bool := (s.access i).permits cls
      [DirectiveCode.readEntries, .readStatus, .writeEntries, .engineReset, .lockConfig, .bindStream, .unbindStream,
          .setStreamState, .enableProfile, .disableProfile, .resume, .pause, .pauseNow, .flushBatches,
          .clearCounters].map (s.permitted · cls) =
        [true, true, true, decide (cls = 0), decide (cls = 0), by_ 1, by_ 1, by_ 2, by_ 4, by_ 4, by_ 0, by_ 0, by_ 0, by_ 0,
          by_ 0])
    ∧ (∀ (k : DirectiveCode) (d : Directive),
      (isTransfer k = true ↔ k = .readEntries ∨ k = .writeEntries)
      ∧ (fieldsOk k d = false ↔
        (isTransfer k = true
            ∧ (d.count = 0 ∨ 64 < d.count.toNat ∨ (d.step ≠ 0x01 ∧ d.step ≠ 0xFF ∧ d.step ≠ 0x00)))
          ∨ (k = .readStatus ∧ (5 < d.option.toNat ∨ 1 < d.count.toNat))
          ∨ (k = .setStreamState ∧ 1 < d.option.toNat))
      ∧ directiveLength k d =
          (if k = .writeEntries then 16 + d.count.toNat * entrySize d.option.toNat else if k = .bindStream then 20 else 16))
    ∧ (List.range 8).map entrySize = [4, 8, 48, 8, 16, 2, 8, 2]
    ∧ (∀ (command : Instr) (r : Request) (k : DirectiveCode) (d : Directive) (s : State),
      directiveOf command = some (r, k, d) →
      exec command s = .next (s.takeDirective d)
      ∧ (s.mgmt.exec ≠ .idle → exec command s = .next s)
      ∧ ∀ t, s.mgmt.exec = .idle → exec .placementRequest s = .next t →
          t.intake.busy = none ∧ exec command s = exec command t)
    ∧ ∀ (command : Instr) (r : Request) (k : DirectiveCode) (d : Directive) (s v : State), Delivers s command r k d v →
      (v.mgmt.exec = .idle → v.intake.busy = none → v.senderClass r.source = none → exec command s = .next { v with
        free := v.free + 1
        mgmt := { v.mgmt with counts := { v.mgmt.counts with
          unknownSource := satInc v.mgmt.counts.unknownSource } } })
      ∧ ∀ cls, v.knows r cls →
        (isTransfer k = true → 7 < d.option.toNat → Completes s command r k v (reply .badTable))
        ∧ ((isTransfer k = true → d.option.toNat ≤ 7) → fieldsOk k d = false →
            Completes s command r k v (reply .invalidValue))
        ∧ ((isTransfer k = true → d.option.toNat ≤ 7) → fieldsOk k d = true → d.length ≠ directiveLength k d →
            Completes s command r k v (reply .malformed))
        ∧ (wellFramed k d → v.mgmt.engine = .resetting → k ≠ .readStatus →
            Completes s command r k v (reply .busy))
        ∧ (wellFramed k d → v.mgmt.engine ≠ .resetting → v.permitted k cls = false →
            Completes s command r k v (reply .denied))
        ∧ (wellFramed k d → v.mgmt.engine ≠ .resetting → v.permitted k cls = true →
            k = .bindStream ∨ k = .unbindStream → v.mgmt.lock = true → Completes s command r k v (reply .locked))

/-- R158, R40, 11.4: the last indices of the eight tables; the step that a step byte names; READ_ENTRIES returns the entries at
start, start + step, ... in order, and stops with PARTIAL and BAD_INDEX at the first index outside its table; it changes
nothing. -/
def Obligations.ReadEntriesReturnsEntries : Prop :=
  (List.range 8).map lastIndex = [22, 1023, 255, 4095, 7, 1023, 3, 7]
  ∧ stepOf 0x01 = some 1 ∧ stepOf 0xFF = some (-1) ∧ stepOf 0x00 = some 0
  ∧ (∀ b, b ≠ 0x01 → b ≠ 0xFF → b ≠ 0x00 → stepOf b = none)
  ∧ ∀ (s : State) (r : Request) (table count step : Byte) (start : Half) (cls : Nat) (d : Int) (j : Nat),
    s.canRun r cls → table.toNat ≤ 7 → 1 ≤ count.toNat → count.toNat ≤ 64 → stepOf step = some d → j ≤ count.toNat →
    let at_ (i : Nat) : Int := (start.toNat : Int) + i * d
    (∀ i, i < j → 0 ≤ at_ i ∧ at_ i ≤ lastIndex table.toNat) →
    (j < count.toNat → at_ j < 0 ∨ (lastIndex table.toNat : Int) < at_ j) →
    let x : Reply :=
      { outcome := if j = count.toNat then .done else .partialDone
        entriesDone := j
        cause := if j = count.toNat then none else some .badIndex
        data := (List.range j).flatMap fun i => s.readEntry table.toNat (at_ i).toNat }
    Completes s (.readEntries r table start count step) r .readEntries s x

/-- R158: a WRITE_ENTRIES of any count writes entries 0, 1, ... in order, each with its effects on the state the one before it
left, and stops at the first that fails, which changes nothing: the state left is the end of that chain of writes, the answer
tells how many were written, CLAMPED where one of all was clamped, and PARTIAL with the cause, and whether an entry before was
clamped, where it stopped early. So for the write commands and for every WRITE_ENTRIES that DIRECTIVE_TAKE takes from the queue,
of any of the eight tables. -/
def Obligations.WriteTransferStopsAtFailure : Prop :=
  ∀ (s v : State) (command : Instr) (r : Request) (table : Byte) (t : Transfer) (cls : Nat) (d : Int),
    Delivers s command r .writeEntries (writeDirective r table t) v → v.canRun r cls → table.toNat ≤ 7 →
    1 ≤ t.count.toNat → t.count.toNat ≤ 64 → stepOf t.step = some d →
    t.data.length = t.count.toNat * entrySize table.toNat →
    let write (u : State) (i : Nat) : WriteResult :=
      u.writeEntry table.toNat ((t.start.toNat : Int) + i * d) cls
        ((t.data.drop (i * entrySize table.toNat)).take (entrySize table.toNat))
    ∃ (chain : Nat → State) (marks : Nat → Bool) (n : Nat),
      chain 0 = v.setExec .executing ∧ n ≤ t.count.toNat
      ∧ (∀ i, i < n → write (chain i) i = .written (chain (i + 1)) (marks i))
      ∧ (n = t.count.toNat →
          Completes s command r .writeEntries ((chain n).setExec .idle)
            { outcome := if (List.range n).any marks = true then .clamped else .done, entriesDone := n })
      ∧ (n < t.count.toNat → ∃ cause, write (chain n) n = .fails cause
          ∧ Completes s command r .writeEntries ((chain n).setExec .idle)
            { outcome := .partialDone, entriesDone := n, cause := some cause
              clampedBefore := (List.range n).any marks })

/-- R40, R42, R71, R124, R125, R155, R156, R159: the tests that come first for an entry of each of the eight tables, wherever it
stands in its transfer, with what a transfer of one entry then answers; and the Stream Map, which is never written by a transfer.
The lock guards every entry of tables 1 to 7; those of table 0 it guards after the test of an enumerated value. -/
def Obligations.TableWriteGuards : Prop :=
  (∀ (s : State) (table : Nat) (i : Int) (cls : Nat) (e : List Byte), table ≤ 7 →
      let ok : Prop := if table = 7 then cls = 0 else (s.access table).permits cls = true
      (i < 0 ∨ (lastIndex table : Int) < i → s.writeEntry table i cls e = .fails .badIndex)
      ∧ (0 ≤ i → i ≤ (lastIndex table : Int) →
          (¬ok → s.writeEntry table i cls e = .fails .denied)
          ∧ (ok → 1 ≤ table → s.mgmt.lock = true → s.writeEntry table i cls e = .fails .locked)
          ∧ (ok → table = 1 → s.mgmt.lock = false → s.writeEntry table i cls e = .fails .badTable)))
    ∧ ∀ (s v : State) (command : Instr) (r : Request) (table : Byte) (t : Transfer) (cls : Nat),
      Delivers s command r .writeEntries (writeDirective r table t) v → v.canRun r cls →
      table.toNat ≤ 7 → t.count = 1 → (stepOf t.step).isSome = true → t.data.length = entrySize table.toNat →
      let ok : Prop := if table = 7 then cls = 0 else (v.access table.toNat).permits cls = true
      (lastIndex table.toNat < t.start.toNat → Completes s command r .writeEntries v (refusedEntry .badIndex))
      ∧ (t.start.toNat ≤ lastIndex table.toNat → ¬ok → Completes s command r .writeEntries v (refusedEntry .denied))
      ∧ (t.start.toNat ≤ lastIndex table.toNat → ok → 1 ≤ table.toNat → v.mgmt.lock = true →
          Completes s command r .writeEntries v (refusedEntry .locked))
      ∧ (t.start.toNat ≤ lastIndex table.toNat → ok → table = 1 → v.mgmt.lock = false →
          Completes s command r .writeEntries v (refusedEntry .badTable))

/-- R42, R71, R41, R70, R173: an entry of Stream Contexts is refused while its context is enabled, a value outside its field's
range is refused, and else the descriptor, or the calibration of an entry of Channel Conversion, is written whole. -/
def Obligations.ContextAndCalibrationWrites : Prop :=
  ∀ (s : State) (r : Request) (t : Transfer),
    let e := t.data
    let i := t.start.toNat
    (s.mayWrite r 2 t →
      let bad : Prop := 1 < (byteAt e 0).toNat ∨ 16 < (byteAt e 1).toNat ∨ 1 < (byteAt e 2).toNat
        ∨ 1 < (byteAt e 3).toNat ∨ (byteAt e 4).toNat ∉ rates ∨ field e 8 4 = 0 ∨ 1073741823 < field e 8 4
      let d : Descriptor :=
        { format := if byteAt e 0 = 0 then .rect16 else .rect32, channels := (byteAt e 1).toNat
          hasFreq := decide (byteAt e 2 = 1), policy := if byteAt e 3 = 0 then .discard else .snap
          rate := (byteAt e 4).toNat, tolerance := field e 6 2, timeBase := field e 8 4 }
      ((s.ctx i).enabled = true →
        Completes s (.writeStreamContexts r t) r .writeEntries s (refusedEntry .busyContext))
      ∧ ((s.ctx i).enabled = false → bad →
        Completes s (.writeStreamContexts r t) r .writeEntries s (refusedEntry .invalidValue))
      ∧ ((s.ctx i).enabled = false → ¬bad →
        Completes s (.writeStreamContexts r t) r .writeEntries (s.setCtx i { s.ctx i with desc := d }) (wrote false)))
    ∧ (s.mayWrite r 3 t →
      let c := signedField e 4 2
      let d := signedField e 6 2
      let bad : Prop := 31 < (byteAt e 2).toNat ∨ c < -16384 ∨ 16384 < c ∨ d < -16384 ∨ 16384 < d
      (bad → Completes s (.writeChannelConversion r t) r .writeEntries s (refusedEntry .invalidValue))
      ∧ (¬bad → Completes s (.writeChannelConversion r t) r .writeEntries
          (s.setConversion i { multiplier := field e 0 2, shift := (byteAt e 2).toNat, rotC := c, rotD := d })
          (wrote false)))

/-- R124, R125, R155, R156, R173: a profile is written whole but for its enabled state, refused while it is enabled or with a
field out of range; a member entry is refused within the range of an enabled profile, or for a context index above 255, and else
written. An entry of Managers is refused for a class above 3, for an enabled flag that is neither value, or where it would
enable a source that another enabled entry holds, and else written whole; an entry of the Access Table is refused for a level
above 3 or deny bits beyond the four classes, and else written whole. -/
def Obligations.ProfileMemberAndManagerWrites : Prop :=
  ∀ (s : State) (r : Request) (t : Transfer),
    let e := t.data
    let i := t.start.toNat
    (s.mayWrite r 4 t →
      let bad : Prop := 1 < (byteAt e 1).toNat ∨ 15 < (byteAt e 2).toNat ∨ 1 < (byteAt e 3).toNat ∨ 1023 < field e 8 2
        ∨ 256 < field e 10 2 ∨ byteAt e 12 = 0 ∨ 240 < (byteAt e 12).toNat ∨ 3 < (byteAt e 13).toNat
        ∨ byteAt e 14 = 1 ∨ 16 < (byteAt e 14).toNat
      let classes : List PriorityClass := [.high, .medium, .low, .variableClass]
      let p : Profile :=
        { enabled := false, format := if byteAt e 1 = 0 then .rect16 else .rect32, shift := (byteAt e 2).toNat
          inclFreq := decide (byteAt e 3 = 1), dest := BitVec.ofNat 32 (field e 4 4), base := field e 8 2
          count := field e 10 2, decimation := (byteAt e 12).toNat
          cls := classes.getD (byteAt e 13).toNat .high, depth := (byteAt e 14).toNat }
      ((s.profile i).enabled = true → Completes s (.writeProfiles r t) r .writeEntries s (refusedEntry .busyContext))
      ∧ ((s.profile i).enabled = false → bad →
        Completes s (.writeProfiles r t) r .writeEntries s (refusedEntry .invalidValue))
      ∧ ((s.profile i).enabled = false → ¬bad →
        Completes s (.writeProfiles r t) r .writeEntries (s.setProfile i p) (wrote false)))
    ∧ (s.mayWrite r 5 t →
      let inUse : Prop := ∃ n, n < 8 ∧ (s.profile n).enabled = true ∧ (s.profile n).base ≤ i
        ∧ i < (s.profile n).base + (s.profile n).count
      (inUse → Completes s (.writeMemberLists r t) r .writeEntries s (refusedEntry .busyContext))
      ∧ (¬inUse → 255 < field e 0 2 →
        Completes s (.writeMemberLists r t) r .writeEntries s (refusedEntry .invalidValue))
      ∧ (¬inUse → field e 0 2 ≤ 255 →
        Completes s (.writeMemberLists r t) r .writeEntries (s.setMember i (field e 0 2)) (wrote false)))
    ∧ (s.mayWrite r 6 t →
      let source : Word := BitVec.ofNat 32 (field e 0 4)
      let bad : Prop := 3 < (byteAt e 4).toNat ∨ 1 < (byteAt e 5).toNat
        ∨ (byteAt e 5 = 1 ∧ ∃ j, j < 4 ∧ j ≠ i ∧ (s.manager j).enabled = true ∧ (s.manager j).source = source)
      (bad → Completes s (.writeManagers r t) r .writeEntries s (refusedEntry .invalidValue))
      ∧ (¬bad → Completes s (.writeManagers r t) r .writeEntries
          (s.setManager i { source := source, cls := (byteAt e 4).toNat, enabled := decide (byteAt e 5 = 1) })
          (wrote false)))
    ∧ (s.mayWrite r 7 t →
      let bad : Prop := 3 < (byteAt e 0).toNat ∨ 15 < (byteAt e 1).toNat
      (bad → Completes s (.writeAccess r t) r .writeEntries s (refusedEntry .invalidValue))
      ∧ (¬bad → Completes s (.writeAccess r t) r .writeEntries
          (s.setAccess i { level := (byteAt e 0).toNat, deny := BitVec.ofNat 4 (byteAt e 1).toNat }) (wrote false)))

/-- R40 to R42, R71, R123, R125, R155, R156, R159, R173: the bytes that READ_ENTRIES returns of an entry of each table, field by
field, the fields a write ignores among them (an unset one, which its flag tells, is free: log entry 10; bits that no field
names: log entry 35); and what it returns of an entry whose fields lie in their ranges is read back by a write as the same
entry, the enabled state of a profile apart. -/
def Obligations.EntriesReadBack : Prop :=
  (∀ (k v : Nat), beNat (beBytes k v) = v % 256 ^ k ∧ (beBytes k v).length = k)
    ∧ (∀ (s : State) (i : Nat),
      let p := s.params
      (let fits (bs : List Byte) : Bool := bs.length == 4
      ((List.range 23).map (s.readEntry 0)).all fits = true
        ∧ ((List.range 23).map (s.readEntry 0)).map (field · 0 4) =
          [p.rate, mapSelectCode p.mapSelect, p.mgmtId, p.lead, ppsEdgeCode p.ppsEdge, p.cSat, p.cAwait, p.wMin, p.wMax, p.w0,
            bit p.adaptation, p.theta, p.upStep, p.downStep, s.window.wq, p.wm1, p.wm2, p.hMax, p.drift, p.holdLimit,
            p.promotion, p.highBypassMax, p.lowBypassMax].map (· % 2 ^ 32))
      ∧ (s.way i = none → s.readEntry 1 i = [0, 0, 0, 0, 0, 0, 0, 0])
      ∧ (∀ b, s.way i = some b →
        (s.readEntry 1 i).length = 8
          ∧ holdsFields (s.readEntry 1 i) [(0, 1, 1), (1, 1, 0), (2, 2, b.streamId.toNat), (4, 2, b.ctx), (6, 2, 0)])
      ∧ (let c := s.ctx i
        let e := s.readEntry 2 i
        e.length = 48
        ∧ holdsFields e ([(0, 1, if c.desc.format = .rect16 then 0 else 1), (1, 1, c.desc.channels),
            (2, 1, bit c.desc.hasFreq), (3, 1, if c.desc.policy = .discard then 0 else 1), (4, 1, c.desc.rate),
            (6, 2, c.desc.tolerance), (8, 4, c.desc.timeBase), (14, 1, c.confidence), (15, 1, 0)]
          ++ countFields 28 [c.counts.admitted, c.counts.late, c.counts.offGrid, c.counts.duplicate, c.counts.other])
        ∧ (byteAt e 5).getLsbD 0 = c.binding.isSome ∧ (byteAt e 5).getLsbD 1 = c.enabled
        ∧ (byteAt e 5).getLsbD 2 = c.expected.isSome ∧ (byteAt e 5).getLsbD 3 = c.highest.isSome
        ∧ (∀ sid, c.binding = some sid → field e 12 2 = sid.toNat)
        ∧ (∀ g, c.expected = some g → field e 16 6 = g % 256 ^ 6)
        ∧ (∀ g, c.highest = some g → field e 22 6 = g % 256 ^ 6))
      ∧ (let c := s.conversion i
        let e := s.readEntry 3 i
        holdsFields e [(0, 2, c.multiplier), (2, 1, c.shift), (3, 1, 0)]
        ∧ (-32768 ≤ c.rotC → c.rotC ≤ 32767 → signedField e 4 2 = c.rotC)
        ∧ (-32768 ≤ c.rotD → c.rotD ≤ 32767 → signedField e 6 2 = c.rotD))
      ∧ (let q := s.profile i
        holdsFields (s.readEntry 4 i)
          [(0, 1, bit q.enabled), (1, 1, if q.format = .rect16 then 0 else 1), (2, 1, q.shift), (3, 1, bit q.inclFreq),
            (4, 4, q.dest.toNat), (8, 2, q.base), (10, 2, q.count), (12, 1, q.decimation), (13, 1, classCode q.cls),
            (14, 1, q.depth), (15, 1, (s.holding i).sets.length)])
      ∧ (s.readEntry 5 i).length = 2 ∧ holdsFields (s.readEntry 5 i) [(0, 2, s.member i)]
      ∧ (let m := s.manager i
        holdsFields (s.readEntry 6 i) [(0, 4, m.source.toNat), (4, 1, m.cls), (5, 1, bit m.enabled), (6, 2, 0)])
      ∧ holdsFields (s.readEntry 7 i) [(0, 1, (s.access i).level), (1, 1, (s.access i).deny.toNat)])
    ∧ ([MapSelect.low, .high, .fold, .foldrot].map mapSelectCode = [0, 1, 2, 3]
      ∧ [PpsEdge.rising, .falling].map ppsEdgeCode = [0, 1])
    ∧ (∀ (event n : Nat) (c : Ctx), c.desc.channels ≤ 16 → c.desc.rate ∈ rates → 1 ≤ c.desc.timeBase →
        c.desc.timeBase ≤ 1073741823 → c.desc.tolerance ≤ 65535 →
        (ctxEntry event n c).length = 48 ∧ descriptorOf (ctxEntry event n c) = some c.desc)
    ∧ (∀ c : Conversion, c.multiplier ≤ 65535 → c.shift ≤ 31 → -16384 ≤ c.rotC → c.rotC ≤ 16384 →
        -16384 ≤ c.rotD → c.rotD ≤ 16384 →
        (conversionEntry c).length = 8 ∧ conversionOf (conversionEntry c) = some c)
    ∧ (∀ (p : Profile) (held : Nat), p.base ≤ 1023 → p.count ≤ 256 → p.shift ≤ 15 → 1 ≤ p.decimation →
        p.decimation ≤ 240 → p.depth ≠ 1 → p.depth ≤ 16 →
        (profileEntry p held).length = 16 ∧ profileOf (profileEntry p held) = some { p with enabled := false })
    ∧ (∀ m : Manager, m.cls ≤ 3 →
        (managerEntry m).length = 8 ∧ Sys2Proof.Machine.managerOf (managerEntry m) = some m)
    ∧ (∀ a : Access, a.level ≤ 3 → (accessEntry a).length = 2 ∧ accessOf (accessEntry a) = some a)

/-- R38, R39: the tests of BIND_STREAM and UNBIND_STREAM in their order, the lowest empty way that a binding takes, and the way
that an unbinding empties. -/
def Obligations.BindAndUnbind : Prop :=
  ∀ (s : State) (r : Request) (cls : Nat) (k sid : Half), s.canRun r cls → (s.access 1).permits cls = true →
    s.mgmt.lock = false →
    let x := s.ctx k.toNat
    let bucket := bucketOf s.params.mapSelect sid
    let mapped : Prop := ∃ i b, i < 1024 ∧ s.way i = some b ∧ b.streamId = sid
    let bind (u : State) (o : OutcomeCode) : Prop := Completes s (.bindStream r k sid) r .bindStream u (reply o)
    let unbind (u : State) (o : OutcomeCode) : Prop := Completes s (.unbindStream r k) r .unbindStream u (reply o)
    (255 < k.toNat → bind s .badIndex ∧ unbind s .badIndex)
    ∧ (k.toNat ≤ 255 → sid = 0xFFFF → bind s .invalidValue)
    ∧ (k.toNat ≤ 255 → sid ≠ 0xFFFF → x.enabled = true → bind s .busyContext)
    ∧ (k.toNat ≤ 255 → sid ≠ 0xFFFF → x.enabled = false → mapped ∨ x.binding ≠ none → bind s .alreadyBound)
    ∧ (k.toNat ≤ 255 → sid ≠ 0xFFFF → x.enabled = false → ¬mapped → x.binding = none →
        (∀ w, w < 4 → s.way (bucket * 4 + w) ≠ none) → bind s .bucketFull)
    ∧ (∀ w, k.toNat ≤ 255 → sid ≠ 0xFFFF → x.enabled = false → ¬mapped → x.binding = none → w < 4 →
        s.way (bucket * 4 + w) = none → (∀ v, v < w → s.way (bucket * 4 + v) ≠ none) →
        bind ((s.setWay (bucket * 4 + w) (some { streamId := sid, ctx := k.toNat })).setCtx k.toNat
          { x with binding := some sid }) .done)
    ∧ (k.toNat ≤ 255 → x.enabled = true → unbind s .busyContext)
    ∧ (k.toNat ≤ 255 → x.enabled = false → x.binding = none → unbind s .notBound)
    ∧ (∀ i, s.mapLawful → k.toNat ≤ 255 → x.enabled = false → x.binding = some sid →
        s.way i = some { streamId := sid, ctx := k.toNat } →
        unbind ((s.setWay i none).setCtx k.toNat { x with binding := none }) .done)

/-- R43, R44, R97, R99, R101, R103, R117: the tests of SET_STREAM_STATE; enabling resets the live fields and keeps the counters;
disabling clears the context's awaited bit, and no other, in every slot record and changes no other context; an OPEN slot whose
instant has passed and whose other awaited contexts have all arrived then completes, with no miss, its COMPLETE close count and
its closing notice, and every other slot stands but for the bit, as does the rest of the store. -/
def Obligations.StreamEnableAndDisable : Prop :=
  ∀ (s : State) (r : Request) (cls : Nat) (k : Half), s.canRun r cls → (s.access 2).permits cls = true →
    let x := s.ctx k.toNat
    let enable (u : State) (o : OutcomeCode) : Prop := Completes s (.streamEnable r k) r .setStreamState u (reply o)
    let disable (u : State) (o : OutcomeCode) : Prop := Completes s (.streamDisable r k) r .setStreamState u (reply o)
    (255 < k.toNat → enable s .badIndex ∧ disable s .badIndex)
    ∧ (k.toNat ≤ 255 → x.binding = none → enable s .notBound)
    ∧ (k.toNat ≤ 255 → x.binding ≠ none → compatible s.params.rate x.desc.rate = false → enable s .rateMismatch)
    ∧ (k.toNat ≤ 255 → x.binding ≠ none → compatible s.params.rate x.desc.rate = true → x.enabled = true →
        enable s .done)
    ∧ (k.toNat ≤ 255 → x.binding ≠ none → compatible s.params.rate x.desc.rate = true → x.enabled = false →
        enable (s.setCtx k.toNat { x with enabled := true, confidence := 0, expected := none, highest := none }) .done)
    ∧ (∀ R Rs, compatible R Rs = true ↔ Rs ≠ 0 ∧ (Rs % R = 0 ∨ R % Rs = 0))
    ∧ (∀ (a b : CtxSet) (i j : Nat),
        CtxSet.has (CtxSet.remove a i) j = (CtxSet.has a j && decide (j ≠ i))
        ∧ (i < 256 → CtxSet.has (CtxSet.add a i) j = (CtxSet.has a j || decide (j = i)))
        ∧ CtxSet.has (CtxSet.minus a b) j = (CtxSet.has a j && !CtxSet.has b j)
        ∧ (CtxSet.minus a b = 0 ↔ ∀ c, CtxSet.has a c = true → CtxSet.has b c = true))
    ∧ (k.toNat ≤ 255 → x.enabled = false → disable s .done)
    ∧ (k.toNat ≤ 255 → x.enabled = true → s.canonical → s.ringLawful →
        ∃ u, disable u .done
          ∧ u = { s with ctxs := u.ctxs, window := u.window, store := u.store
                         composer := { s.composer with working := u.composer.working } }
          ∧ (∀ j, u.ctx j = if j = k.toNat then { x with enabled := false } else s.ctx j)
          ∧ (∀ i, CtxSet.has (Tbl.get Slot.empty u.store.ring i).awaited k.toNat = false)
          ∧ (∀ g,
              let y : Slot := { s.slot g with awaited := CtxSet.remove (s.slot g).awaited k.toNat }
              let whole : Prop :=
                y.state = .opened ∧ CtxSet.minus y.awaited y.arrived = 0 ∧ s.instant g ≤ s.tru.now
              (whole → u.slot g = { y with
                state := if g = s.store.hLow then .emitting else .complete
                cause := some .complete, sampled := some (s.tru.state, s.tru.quality s.params.drift) })
              ∧ (¬whole → u.slot g = y))
          ∧ u.composer.working =
              (if (u.slot s.store.hLow).state = .emitting ∧ (s.slot s.store.hLow).state ≠ .emitting then
                some { g := s.store.hLow, next := 0 }
              else s.composer.working)
          ∧ (let completed := (List.range 64).filter fun i =>
              let y := s.slot (s.store.hLow + i)
              decide (y.state = .opened ∧ CtxSet.minus (CtxSet.remove y.awaited k.toNat) y.arrived = 0
                ∧ s.instant (s.store.hLow + i) ≤ s.tru.now)
            u.window = (Window.closingNotice s.params s.store.freeList.length)^[completed.length] s.window
            ∧ u.store = { s.store with
              ring := u.store.ring
              closeCounts := { s.store.closeCounts with
                complete := satInc^[completed.length] s.store.closeCounts.complete } }))

/-- R126, R127: the tests of ENABLE_PROFILE in their order; DISABLE_PROFILE turns the sets held into one batch frame, which
enters the queue ahead of the answer (log entry 12). -/
def Obligations.ProfileEnableAndDisable : Prop :=
  ∀ (s : State) (r : Request) (cls : Nat) (n : Half), s.canRun r cls → (s.access 4).permits cls = true →
    let p := s.profile n.toNat
    let enable (u : State) (o : OutcomeCode) : Prop := Completes s (.enableProfile r n) r .enableProfile u (reply o)
    let disable (u : State) (o : OutcomeCode) : Prop := Completes s (.disableProfile r n) r .disableProfile u (reply o)
    let twice : Prop := ∃ a b, a < b ∧ b < p.count ∧ s.member (p.base + a) = s.member (p.base + b)
    let sets := (s.holding n.toNat).sets
    let off := s.setProfile n.toNat { p with enabled := false }
    (7 < n.toNat → enable s .badIndex ∧ disable s .badIndex)
    ∧ (n.toNat ≤ 7 → p.enabled = true → enable s .done)
    ∧ (n.toNat ≤ 7 → p.enabled = false → 1024 < p.base + p.count → enable s .badIndex)
    ∧ (n.toNat ≤ 7 → p.enabled = false → p.base + p.count ≤ 1024 →
        (s.params.rate % p.decimation ≠ 0 → enable s .rateMismatch)
        ∧ (s.params.rate % p.decimation = 0 → p.depth ≠ 0 ∧ p.cls ≠ .low → enable s .invalidValue)
        ∧ (s.params.rate % p.decimation = 0 → p.depth = 0 ∨ p.cls = .low → twice → enable s .duplicateMember)
        ∧ (s.params.rate % p.decimation = 0 → p.depth = 0 ∨ p.cls = .low → ¬twice →
            enable (s.setProfile n.toNat { p with enabled := true }) .done))
    ∧ (n.toNat ≤ 7 → p.enabled = false → disable s .done)
    ∧ (n.toNat ≤ 7 → p.enabled = true → sets = [] → disable off .done)
    ∧ (n.toNat ≤ 7 → p.enabled = true → sets ≠ [] → s.canonical → s.quiet → s.egress.queue.length < 31 →
        s.mgmt.engine ≠ .draining →
        let f : OutFrame := { bytes := batchFrame n.toNat sets, dest := p.dest, kind := .batch, cls := .low }
        let k := s.composer.counts
        exec (.disableProfile r n) s = .next ({ off with
          composer := { s.composer with counts := { k with batches := satInc k.batches } }
          egress := { s.egress.enter s.tru.osc f with composerWaits := false }.enter s.tru.osc
            (s.formAnswer r.source r.tag 0x14 (reply .done))
          mgmt := { s.mgmt with
            counts := { s.mgmt.counts with executed := satInc s.mgmt.counts.executed } }
          free := s.free + 1 }.setHolding n.toNat Holding.empty))

/-- R105, R106, R135, R162 to R164: RESUME, PAUSE and PAUSE_NOW by engine state: the entry to RUNNING with the step floor and
H_low moved and the pending map cleared, the entry to DRAINING and its end where nothing is left, the forced closes of PAUSE_NOW
with their samples, misses and counts, the batches of the sets held, which leave ahead of the answer (log entry 12), and the
refusals. That the answer shows PAUSED where the batches are all taken at once and the ring is FREE is the model's choice (log
entry 34), and so is it that the entry to DRAINING leaves an H_low where it is that is FREE below a held slot (log entry 36). -/
def Obligations.EngineStateDirectives : Prop :=
  ∀ (s : State) (r : Request) (cls : Nat), s.canRun r cls → (s.access 0).permits cls = true →
    let resume (u : State) (o : OutcomeCode) : Prop := Completes s (.resume r) r .resume u (reply o)
    let pause (u : State) (o : OutcomeCode) : Prop := Completes s (.pause r) r .pause u (reply o)
    let pauseNow (u : State) (o : OutcomeCode) : Prop := Completes s (.pauseNow r) r .pauseNow u (reply o)
    let low := (s.slot s.store.hLow).state
    let floor := max s.store.floor (s.gnow + 1)
    (s.mgmt.engine ≠ .paused → resume s .notPaused)
    ∧ (s.mgmt.engine = .paused → s.tru.state = .unset ∨ s.tru.state = .acquiring →
        resume (s.setEngine .waitTime) .done)
    ∧ (s.mgmt.engine = .paused → s.tru.state ≠ .unset → s.tru.state ≠ .acquiring → s.canonical → s.ringLawful →
        resume { s with
          mgmt := { s.mgmt with engine := .running, pendingMap := 0 }
          store := { s.store with floor := floor, hLow := max s.store.hLow floor } } .done)
    ∧ (s.mgmt.engine = .paused ∨ s.mgmt.engine = .draining → pause s .notRunning ∧ pauseNow s .notRunning)
    ∧ (s.mgmt.engine = .waitTime → pause (s.setEngine .paused) .done ∧ pauseNow (s.setEngine .paused) .done)
    ∧ (s.mgmt.engine = .running → s.ringFree = true → s.composerEmpty = true → s.canonical →
        pause (s.setEngine .paused) .done)
    ∧ (s.mgmt.engine = .running → s.ringFree = false → s.holdingEmpty = true → low ≠ .complete → low ≠ .closed →
        pause (s.setEngine .draining) .done)
    ∧ (s.mgmt.engine = .running → s.canonical → s.ringLawful → s.holdingEmpty = true →
        ∃ u, pauseNow u .done
          ∧ u = { s with ctxs := u.ctxs, store := u.store, composer := { s.composer with working := u.composer.working }
                         mgmt := { s.mgmt with engine := u.mgmt.engine } }
          ∧ u.store = { s.store with ring := u.store.ring, closeCounts := u.store.closeCounts }
          ∧ u.mgmt.engine = (if s.ringFree = true ∧ s.composerEmpty = true then .paused else .draining)
          ∧ ForcedClose .forcedDrain s u)
    ∧ (s.mgmt.engine = .running → s.quiet → s.canonical → s.ringLawful →
        s.egress.queue.length + s.heldBatches.length + 1 ≤ 32 →
        let engine : EngineState := if s.ringFree = true then .paused else .draining
        let answer : OutFrame :=
          { s with mgmt := { s.mgmt with engine := engine } }.formAnswer r.source r.tag 0x21 (reply .done)
        let answerNow : OutFrame :=
          { s with mgmt := { s.mgmt with engine := engine } }.formAnswer r.source r.tag 0x22 (reply .done)
        (∃ t, exec (.pause r) s = .next t ∧ t.mgmt.engine = engine ∧ BatchesSent s t [answer]
          ∧ t.store = s.store ∧ t.ctxs = s.ctxs ∧ t.window = s.window ∧ t.composer.working = s.composer.working)
        ∧ ∃ t, exec (.pauseNow r) s = .next t ∧ t.mgmt.engine = engine ∧ BatchesSent s t [answerNow]
          ∧ ForcedClose .forcedDrain s t ∧ t.window = s.window
          ∧ t.store = { s.store with ring := t.store.ring, closeCounts := t.store.closeCounts })

/-- R53, R69, R108, R120, R137, R151, R153, R165: ENGINE_RESET from class 0 clears what each block's rule names and leaves the rest,
and begins the scrub with its answer deferred; a flush outstanding ends with it, and its deferred answer enters the queue after the
answers kept, or waits where these are 32. The scrub's completion zeroes the cells, moves the engine to PAUSED and sends the
answer. -/
def Obligations.EngineResetAndScrub : Prop :=
  (∀ (s : State) (r : Request), s.canRun r 0 → s.mgmt.formed = [] → s.egress.link ≠ .ready → s.canonical →
      let kept := s.egress.queue.filter fun e => e.frame.kind == .answer
      let cleared (l : LinkIn) : LinkIn := { l with received := 0, oversize := 0, overflow := 0, overflowFlag := false }
      ∃ ctxs : Tbl Ctx,
        let reset : State := { s with
          ctxs := ctxs
          intake := { s.intake with
            linkA := cleared s.intake.linkA, linkB := cleared s.intake.linkB, counts := ({} : IntakeCounts) }
          store := { ({} : Store) with pool := s.store.pool, scrubbing := true }
          window := { ({} : Window) with wq := clampNat (16 * s.params.wMin) (16 * s.params.wMax) (16 * s.params.w0) }
          composer := ({} : Composer)
          egress := { s.egress with
            queue := kept, shedFlag := false, composerWaits := false
            counts := { ({} : EgressCounts) with highWater := kept.length } }
          mgmt := { s.mgmt with
            engine := .resetting, deferredReset := some { source := r.source, tag := r.tag }
            pendingMap := 0, deferredFlush := none, counts := ({} : MgmtCounts) }
          free := s.free + 1 }
        (s.mgmt.deferredFlush = none → exec (.engineReset r) s = .next reset)
        ∧ (∀ d, s.mgmt.deferredFlush = some d →
          let a := reset.formAnswer d.source d.tag 0x24 (reply .done)
          let m : Mgmt := { reset.mgmt with counts := { ({} : MgmtCounts) with executed := 1 } }
          (kept.length < 32 →
            exec (.engineReset r) s = .next { reset with mgmt := m, egress := reset.egress.enter s.tru.osc a })
          ∧ (32 ≤ kept.length → (∀ e ∈ kept, e.frame.cls ≠ .low) →
            exec (.engineReset r) s = .next { reset with
              mgmt := { m with exec := .waiting a }
              egress := { reset.egress with counts := { reset.egress.counts with answerWaits := 1 } } }))
        ∧ ∀ k, reset.ctx k =
            { s.ctx k with confidence := 0, expected := none, highest := none, counts := ({} : CtxCounts) })
    ∧ (∀ s : State, s.store.scrubbing = false → exec .scrubCompletion s = .next s)
    ∧ ∀ (s : State) (d : Deferred), s.store.scrubbing = true → s.mgmt.deferredReset = some d →
        s.mgmt.exec = .idle → s.mgmt.formed = [] → s.composer.outbound = [] → s.egress.queue.length < 32 →
        s.egress.link ≠ .ready →
        let v : State := { s with
          store := { s.store with pool := [], scrubbing := false }
          mgmt := { s.mgmt with engine := .paused, deferredReset := none } }
        exec .scrubCompletion s = .next { v with
          egress := s.egress.enter s.tru.osc (v.formAnswer d.source d.tag 0x23 (reply .done))
          mgmt := { v.mgmt with counts := { s.mgmt.counts with executed := satInc s.mgmt.counts.executed } } }

/-- R134, R153, R157, R166: FLUSH_BATCHES is BUSY while a flush is in progress and DONE where no set is held; a flush of the
lists held, one or several, enters their batch frames in ascending profile number and then its answer in the queue; frames that
meet a full queue without a LOW entry stay on the outbound list, with the flush-busy flag set and the answer deferred.
CLEAR_COUNTERS clears the counts and nothing else. LOCK_CONFIG sets the lock, for class 0. -/
def Obligations.FlushClearAndLock : Prop :=
  (∀ (s : State) (r : Request) (cls : Nat), s.canRun r cls → (s.access 0).permits cls = true →
      (s.composer.flushBusy = true → Completes s (.flushBatches r) r .flushBatches s (reply .busy))
      ∧ (s.composer.flushBusy = false → (∀ n, n < 8 → (s.holding n).sets = []) →
          Completes s (.flushBatches r) r .flushBatches s (reply .done))
      ∧ (∀ n, n < 8 → s.composer.flushBusy = false → (s.holding n).sets ≠ [] →
          (∀ m, m < 8 → m ≠ n → (s.holding m).sets = []) → s.quiet → s.egress.queue.length < 31 →
          s.mgmt.engine ≠ .draining → s.canonical →
          let f : OutFrame :=
            { bytes := batchFrame n (s.holding n).sets, dest := (s.profile n).dest, kind := .batch, cls := .low
              endsFlush := true }
          let k := s.composer.counts
          exec (.flushBatches r) s = .next ({ s with
            composer := { s.composer with counts := { k with batches := satInc k.batches } }
            egress := { s.egress.enter s.tru.osc f with composerWaits := false }.enter s.tru.osc
              (s.formAnswer r.source r.tag 0x24 (reply .done))
            mgmt := { s.mgmt with
              deferredFlush := none
              counts := { s.mgmt.counts with executed := satInc s.mgmt.counts.executed } }
            free := s.free + 1 }.setHolding n Holding.empty))
      ∧ (s.composer.flushBusy = false → s.heldBatches ≠ [] → s.quiet →
          s.egress.queue.length + s.heldBatches.length + 1 ≤ 32 → s.mgmt.engine ≠ .draining → s.canonical →
          ∃ t, exec (.flushBatches r) s = .next t ∧ HoldingsTaken s t
            ∧ t = { s with
              composer := { s.composer with
                holding := t.composer.holding
                counts := { s.composer.counts with batches := t.composer.counts.batches } }
              egress := { s.egress with
                queue := s.egress.queue
                  ++ entriesAt s.tru.osc (s.flushFrames ++ [s.formAnswer r.source r.tag 0x24 (reply .done)])
                composerWaits := false
                counts := { s.egress.counts with
                  highWater := max s.egress.counts.highWater (s.egress.queue.length + s.heldBatches.length + 1) } }
              mgmt := { s.mgmt with
                deferredFlush := none
                counts := { s.mgmt.counts with executed := satInc s.mgmt.counts.executed } }
              free := s.free + 1 })
      ∧ (s.composer.flushBusy = false → s.heldBatches ≠ [] → s.mgmt.formed = [] → s.egress.link ≠ .ready →
          32 ≤ s.egress.queue.length → (∀ o ∈ s.egress.queue, o.frame.cls ≠ .low) → s.canonical →
          ∃ t, exec (.flushBatches r) s = .next t ∧ HoldingsTaken s t
            ∧ t = { s with
              composer := { s.composer with
                holding := t.composer.holding
                outbound := s.composer.outbound ++ s.flushFrames
                flushBusy := true
                counts := { s.composer.counts with
                  batches := t.composer.counts.batches
                  waits := if s.egress.composerWaits = true then s.composer.counts.waits
                    else satInc s.composer.counts.waits } }
              egress := { s.egress with composerWaits := true }
              mgmt := { s.mgmt with deferredFlush := some { source := r.source, tag := r.tag } }
              free := s.free + 1 })
      ∧ (s.canonical →
          let cleared (l : LinkIn) : LinkIn := { l with received := 0, oversize := 0, overflow := 0 }
          ∃ u, Completes s (.clearCounters r) r .clearCounters u (reply .done)
            ∧ u = { s with
              tru := { s.tru with counts := ({} : TruCounts) }
              ctxs := u.ctxs
              intake := { s.intake with
                linkA := cleared s.intake.linkA, linkB := cleared s.intake.linkB, counts := ({} : IntakeCounts) }
              store := { s.store with
                closeCounts := ({} : CloseCounts), composed := 0, lowestFree := s.store.freeList.length
                saturatedCells := 0 }
              window := { s.window with counts := ({} : WindowCounts) }
              composer := { s.composer with counts := ({} : ComposerCounts) }
              egress := { s.egress with
                counts := { ({} : EgressCounts) with highWater := s.egress.queue.length } }
              mgmt := { s.mgmt with counts := ({} : MgmtCounts) } }
            ∧ ∀ k, u.ctx k = { s.ctx k with counts := ({} : CtxCounts) }))
    ∧ ∀ (s : State) (r : Request), s.canRun r 0 →
        Completes s (.lockConfig r) r .lockConfig { s with mgmt := { s.mgmt with lock := true } } (reply .done)

/-- R33, R68, R69, R109, R121, R138, R152, R167, 11.7: READ_STATUS is executed in every engine state and for every class; it answers
the record its selector names, of that record's length and with each field at its offset, and the clear option clears that
record's sticky flags alone. Bits that no flag names are not spoken of (log entry 35), nor the free part of an age (log entry 9). -/
def Obligations.ReadStatusRecords : Prop :=
  (∀ s : State,
    let waits := bit (match s.mgmt.exec with
      | .waiting _ => true
      | _ => false)
    (s.statusRecord 0).length = 60 ∧ (s.statusRecord 1).length = 68 ∧ (s.statusRecord 2).length = 80
    ∧ (s.statusRecord 3).length = 56 ∧ (s.statusRecord 4).length = 104 ∧ (s.statusRecord 5).length = 92
    ∧ (let m := s.mgmt
      let e := s.statusRecord 0
      holdsFields e
        ([(0, 1, engineCode m.engine), (2, 2, s.params.mgmtId), (4, 1, m.queue.length), (5, 3, 0)]
          ++ countFields 40 [m.counts.executed, m.counts.unknownSource, m.counts.denied, m.counts.locked, m.counts.busy])
      ∧ (byteAt e 1).toNat % 16 =
          bit m.lock + 2 * waits + 4 * bit m.deferredReset.isSome + 8 * bit m.deferredFlush.isSome
      ∧ ∀ k, k < 256 → (byteAt e (8 + k / 8)).getLsbD (k % 8) = CtxSet.has m.pendingMap k)
    ∧ (let t := s.tru
      let e := s.statusRecord 1
      let c := t.counts
      holdsFields e
        ([(0, 1, truCode t.state), (1, 1, t.quality s.params.drift), (2, 1, t.clockQuality), (3, 1, t.qualified),
          (4, 1, t.unqualifiedRun), (5, 1, t.mismatchRun), (7, 1, 0), (8, 8, t.now / 1000000000),
          (16, 4, t.now % 1000000000), (20, 4, t.elapsedHoldover), (28, 4, s.params.drift), (32, 4, s.params.hMax)]
          ++ countFields 36 [c.unqualifiedEdges, c.mismatchedEdges, c.edgeTimeouts, c.rejectedTod, c.holdoverEntries,
            c.slewedRelocks, c.steppedRelocks, c.timeSteps])
      ∧ (byteAt e 6).getLsbD 0 = t.held.isSome ∧ (byteAt e 6).getLsbD 1 = decide (s.params.ppsEdge = .falling)
      ∧ (-2147483648 ≤ t.slew → t.slew ≤ 2147483647 → signedField e 24 4 = t.slew))
    ∧ (let x := s.store
      let e := s.statusRecord 2
      let low := s.slot x.hLow
      let deadline := if low.state = .free then 0 else low.deadline
      let c := x.closeCounts
      holdsFields e
        ([(0, 6, x.hLow), (6, 6, x.floor), (12, 6, x.hLow), (18, 1, slotStateCode low.state), (19, 1, causeCode low.cause),
          (20, 1, s.recordsIn .free), (21, 1, s.recordsIn .opened), (22, 1, s.recordsIn .complete),
          (23, 1, s.recordsIn .closed), (24, 1, s.recordsIn .emitting), (26, 2, x.freeList.length), (28, 2, x.lowestFree),
          (30, 2, s.params.wm1), (32, 2, s.params.wm2), (34, 1, s.params.lead), (35, 1, 0),
          (36, 8, deadline / 1000000000), (44, 4, deadline % 1000000000)]
          ++ countFields 48 [c.complete, c.deadline, c.forcedPool, c.forcedRing, c.forcedDrain, c.timeStep, x.composed,
            x.saturatedCells])
      ∧ (byteAt e 25).getLsbD 0 = x.poolPressure ∧ (byteAt e 25).getLsbD 1 = x.ringForced
      ∧ (byteAt e 25).getLsbD 2 = x.scrubbing)
    ∧ (let w := s.window
      let p := s.params
      let c := w.counts
      holdsFields (s.statusRecord 3)
        ([(0, 4, w.wq), (4, 2, w.wq / 16), (6, 1, w.wq % 16), (7, 1, w.j), (8, 1, w.closings), (9, 1, bit p.adaptation),
          (10, 1, p.theta), (11, 1, p.upStep), (12, 1, p.downStep), (13, 1, 0), (14, 2, w.lastApplied), (16, 4, w.late),
          (20, 4, w.total), (24, 2, p.wMin), (26, 2, p.wMax), (28, 2, p.w0), (30, 2, 0)]
          ++ countFields 32 [c.evaluations, c.raises, c.lowers, c.holds, c.idle, c.overridden]))
    ∧ (let i := s.intake
      let e := s.statusRecord 4
      let c := i.counts
      holdsFields e
        ([(0, 1, if i.preferred = .a then 0 else 1), (2, 1, i.linkA.fifo.length), (3, 1, i.linkB.fifo.length)]
          ++ countFields 4 [i.linkA.received, i.linkA.oversize, i.linkA.overflow, i.linkB.received, i.linkB.oversize,
            i.linkB.overflow, c.accepted, c.queued, c.malformed, c.foreign, c.directiveDropped, c.unknownStream, c.disabled,
            c.layoutMismatch, c.paused, c.noTime, c.resetting, c.tagInvalid, c.offGrid, c.duplicate, c.late, c.future,
            c.outOfRing, c.drainingClosed, c.poolExhausted])
      ∧ (byteAt e 1).getLsbD 0 = i.linkA.overflowFlag ∧ (byteAt e 1).getLsbD 1 = i.linkB.overflowFlag)
    ∧ (let x := s.egress
      let e := s.statusRecord 5
      let c := x.counts
      let k := s.composer.counts
      let ofClass (y : PriorityClass) : Nat := (x.queue.filter fun o => o.effective s.params s.tru.osc == y).length
      holdsFields e
        ([(0, 1, x.queue.length), (1, 1, ofClass .high), (2, 1, ofClass .medium), (3, 1, ofClass .low),
          (4, 1, linkCode x.link), (9, 1, s.params.highBypassMax), (10, 1, s.params.lowBypassMax),
          (11, 1, s.composer.outbound.length), (12, 2, s.params.promotion), (34, 2, 0)]
          ++ ((List.range 8).map fun n => (26 + n, 1, (s.holding n).sets.length))
          ++ countFields 36 [c.sent, c.answers, c.sets, c.batches, c.promoted, c.limited, c.shed, c.answerWaits, c.highWater,
            k.sets, k.incomplete, k.batches, k.holdExpiries, k.waits])
      ∧ (byteAt e 5).toNat % 16 = bit x.shedFlag + 2 * bit x.composerWaits + 4 * waits + 8 * bit s.composer.flushBusy
      ∧ (x.queue = [] → holdsFields e [(6, 3, 0), (14, 4, 0)])
      ∧ (∀ o rest, x.queue = o :: rest →
          holdsFields e [(6, 1, classCode o.frame.cls), (7, 1, kindCode o.frame.kind), (8, 1, o.bypass)]
          ∧ ∀ us, s.tru.osc - o.enqueued = 1000 * us → us < 2 ^ 32 → field e 14 4 = us)
      ∧ (s.composer.working = none → holdsFields e [(18, 8, 0)])
      ∧ (∀ w, s.composer.working = some w → holdsFields e [(18, 1, 1), (19, 1, w.next), (20, 6, w.g)])))
    ∧ ([EngineState.paused, .waitTime, .running, .draining, .resetting].map engineCode = [0, 1, 2, 3, 4]
      ∧ [TruState.unset, .acquiring, .locked, .holdover, .freerun].map truCode = [0, 1, 2, 3, 4]
      ∧ [SlotState.free, .opened, .complete, .closed, .emitting].map slotStateCode = [0, 1, 2, 3, 4]
      ∧ [none, some Cause.complete, some .deadline, some .forcedPool, some .forcedRing, some .forcedDrain,
          some .timeStep].map causeCode = [0, 1, 2, 3, 4, 5, 6]
      ∧ [PriorityClass.high, .medium, .low, .variableClass].map classCode = [0, 1, 2, 3]
      ∧ [FrameKind.answer, .set, .batch].map kindCode = [0, 1, 2]
      ∧ linkCode .waiting = 0 ∧ linkCode .ready = 1 ∧ ∀ f b, linkCode (.sending f b) = 2)
    ∧ ∀ (s : State) (r : Request) (cls : Nat) (n : Byte), s.knows r cls →
      let x : Reply := { outcome := .done, data := s.statusRecord n.toNat }
      let unflagged (l : LinkIn) : LinkIn := { l with overflowFlag := false }
      (5 < n.toNat →
        Completes s (.readStatus r n) r .readStatus s (reply .invalidValue)
        ∧ Completes s (.readStatusClear r n) r .readStatus s (reply .invalidValue))
      ∧ (n.toNat ≤ 5 → Completes s (.readStatus r n) r .readStatus s x)
      ∧ (n = 0 ∨ n = 1 ∨ n = 3 → Completes s (.readStatusClear r n) r .readStatus s x)
      ∧ (n = 2 → Completes s (.readStatusClear r n) r .readStatus
          { s with store := { s.store with poolPressure := false, ringForced := false } } x)
      ∧ (n = 4 → Completes s (.readStatusClear r n) r .readStatus
          { s with intake := { s.intake with
            linkA := unflagged s.intake.linkA, linkB := unflagged s.intake.linkB } } x)
      ∧ (n = 5 → Completes s (.readStatusClear r n) r .readStatus
          { s with egress := { s.egress with shedFlag := false } } x)

/-! ### The machine as a whole -/

/-- The row's own rule of a step, and log entry 4: a step takes the command at the front of the queue and runs it with the
queue's rest; on an empty queue it is a tick, and a tick that reaches no time limit is one nanosecond of oscillator time. -/
def Obligations.StepRunsFrontCommand : Prop :=
  (∀ (c : Instr) (rest : List Instr) (s : State),
      step { s with pending := c :: rest } = exec c { s with pending := rest })
    ∧ (∀ s : State, s.pending = [] → step s = .next s.tick)
    ∧ ∀ s : State,
      let u := s.elapse 1
      (s.tru.state = .holdover → u.tru.now < (s.tru.secondMark + 1) * 1000000000) →
      (∀ t, s.tru.edgeTimer = some t → u.tru.osc < t + 1500000000) →
      u.tru.now < s.instant s.tru.nextInstant →
      (∀ g, (s.slot g).state = .opened → u.tru.now < (s.slot g).deadline) →
      (∀ n t, (s.holding n).timer = some t → u.tru.osc < t + s.params.holdLimit * 1000000) →
      s.tick = u

/-- R18, R41, R49, R70, R84 to R86, R100, R110, R123, R159, R161: power-on reset gives every block its power-on state and the
management identifier the address-select pins; the commands that wait stand (log entries 6, 14 and 32), and so do the laws of a
state. -/
def Obligations.PowerOnResetState : Prop :=
  (∀ (pins : BitVec 4) (s : State), ∃ t, exec (.powerOnReset pins) s = .next t
      ∧ t = { State.reset with
        params := { State.reset.params with mgmtId := 0xE000 + pins.toNat }, free := s.free, pending := s.pending })
    ∧ (let s := State.reset
      (s.tru.state = .unset ∧ s.tru.now = 0 ∧ s.tru.slew = 0 ∧ s.tru.held = none ∧ s.tru.prevEdge = none
        ∧ s.tru.edgeTimer = none ∧ s.tru.nextInstant = 1 ∧ s.tru.todHunting = true)
      ∧ [s.params.rate, mapSelectCode s.params.mapSelect, s.params.mgmtId, s.params.lead, ppsEdgeCode s.params.ppsEdge,
          s.params.cSat, s.params.cAwait, s.params.wMin, s.params.wMax, s.params.w0, bit s.params.adaptation, s.params.theta,
          s.params.upStep, s.params.downStep, s.window.wq, s.params.wm1, s.params.wm2, s.params.hMax, s.params.drift,
          s.params.holdLimit, s.params.promotion, s.params.highBypassMax, s.params.lowBypassMax] =
        [30, 2, 0xE000, 2, 0, 8, 4, 10, 20000, 500, 1, 2, 32, 2, 8000, 1024, 256, 3600, 50, 1000, 20, 4, 8]
      ∧ (∀ i, s.way i = none)
      ∧ (∀ k, (s.ctx k).binding = none ∧ (s.ctx k).enabled = false ∧ (s.ctx k).desc.rate = 0 ∧ (s.ctx k).confidence = 0
        ∧ (s.ctx k).expected = none ∧ (s.ctx k).highest = none)
      ∧ (∀ i, s.conversion i = { multiplier := 0, shift := 0, rotC := 16384, rotD := 0 })
      ∧ (∀ g, (s.slot g).state = .free) ∧ s.store.freeList = List.range 4096 ∧ s.store.hLow = 0 ∧ s.store.floor = 0
      ∧ (∀ n, (s.profile n).enabled = false ∧ (s.profile n).decimation = 1 ∧ (s.profile n).depth = 0)
      ∧ (∀ i, (s.manager i).enabled = false) ∧ (∀ i, s.access i = { level := 0, deny := 0 })
      ∧ s.composer.working = none ∧ s.egress.queue = [] ∧ s.egress.link = .waiting
      ∧ s.mgmt.engine = .paused ∧ s.mgmt.exec = .idle ∧ s.mgmt.queue = [] ∧ s.mgmt.lock = false ∧ s.pending = []
      ∧ s.canonical ∧ s.bounded ∧ s.params.inRange ∧ s.windowInLimits ∧ s.confidenceInRange ∧ s.truInRange
      ∧ s.mapLawful ∧ s.contextsFit ∧ s.profilesFit ∧ s.ringLawful ∧ s.cellsConserved ∧ s.awaitedEnabled)

/-- R54, R60, R139, R145 and log entry 22: every step keeps every table in its canonical form, the ingress FIFOs within 16 frames
of 2048 bytes, the directive queue within 4 and the egress queue within 32 entries, each passed over at most 15 times. -/
def Obligations.TablesAndQueuesStayBounded : Prop :=
  ∀ s t : State, s.canonical → s.bounded → step s = .next t → t.canonical ∧ t.bounded

/-- R22 to R27, R49, R107, R110, R112, R116, R117, R159: every step keeps each Engine Parameter in its range, W_q between its
limits with L at most T, every context's confidence at most C_sat, and the TRU's counts in theirs, a TRU in HOLDOVER being
within both holdover limits. -/
def Obligations.ParametersStayInRange : Prop :=
  ∀ s t : State, s.canonical → s.params.inRange → s.windowInLimits → s.confidenceInRange → s.truInRange →
    step s = .next t → t.params.inRange ∧ t.windowInLimits ∧ t.confidenceInRange ∧ t.truInRange

/-- R14, R34 to R36, R38, R39, R42, R43, R124 to R126, R160: every step keeps the Stream Map and the contexts in agreement, every
enabled context bound and of a compatible rate, and every enabled profile such as ENABLE_PROFILE admits. -/
def Obligations.StreamMapStaysLawful : Prop :=
  ∀ s t : State, s.canonical → s.mapLawful → step s = .next t →
    t.mapLawful ∧ (s.contextsFit → s.profilesFit → t.contextsFit ∧ t.profilesFit)

/-- R84, R85, R100 to R102, R105, R108: every step keeps the Slot Ring lawful: held slots within the span of H_low and in RUNNING
or DRAINING only, FREE records empty, slot H_low alone EMITTING and with the composer, and never left COMPLETE or CLOSED. -/
def Obligations.SlotRingStaysLawful : Prop :=
  ∀ s t : State, s.canonical → s.ringLawful → step s = .next t → t.ringLawful

/-- R86, R96, R102, R103: every step keeps each of the 4096 cells on the free list or in one slot record, and every context that
a slot awaits enabled. -/
def Obligations.CellsAreConserved : Prop :=
  ∀ s t : State, s.canonical → s.ringLawful → step s = .next t →
    (s.cellsConserved → t.cellsConserved) ∧ (s.awaitedEnabled → t.awaitedEnabled)

/-- R157: while the configuration lock is set, no command but power-on reset, and no tick, clears it or changes what it guards. -/
def Obligations.LockHoldsConfiguration : Prop :=
  ∀ s t : State, s.canonical → s.mgmt.lock = true →
    (∀ pins, s.pending.head? ≠ some (.powerOnReset pins)) → step s = .next t →
    t.mgmt.lock = true ∧ SameConfig s t

/-- R18, R100: local time moves back only by power-on reset or by an edge at which the TRU enters LOCKED; the oscillator never,
but by power-on reset; H_low falls only there and where the engine enters RESETTING. So for every command, and for every step, the
tick of an empty queue among them (the model's own, log entry 4). -/
def Obligations.TimeAndLowestSlotNeverFall : Prop :=
  let rises (edge : Prop) (s t : State) : Prop :=
    (s.tru.now ≤ t.tru.now ∨ (edge ∧ s.tru.state ≠ .locked ∧ t.tru.state = .locked))
    ∧ s.tru.osc ≤ t.tru.osc
    ∧ (s.store.hLow ≤ t.store.hLow ∨ (s.mgmt.engine ≠ .resetting ∧ t.mgmt.engine = .resetting))
  (∀ (c : Instr) (s t : State), s.tru.slewPhase < 10000 → (∀ pins, c ≠ .powerOnReset pins) → exec c s = .next t →
    rises (∃ after e, c = .ppsEdge after e) s t)
  ∧ ∀ s t : State, s.tru.slewPhase < 10000 → (∀ pins, s.pending.head? ≠ some (.powerOnReset pins)) → step s = .next t →
    rises (∃ after e, s.pending.head? = some (.ppsEdge after e)) s t

/-- R105, R162 to R165: no command but power-on reset, and no tick, moves the engine between two states that the rules do not
join. That every command completes, in every state, is the model's reading of the spec (log entry 30); the queue of commands, which
each leaves as it was and of which a step takes the front, and the tick are the model's own (log entries 7 and 4). -/
def Obligations.EngineMovesAsTheRulesJoin : Prop :=
  let joined (s t : State) : Prop :=
    t.mgmt.engine = s.mgmt.engine ∨ t.mgmt.engine ∈
      (match s.mgmt.engine with
        | .paused => [.waitTime, .running, .resetting]
        | .waitTime => [.paused, .running, .resetting]
        | .running => [.draining, .paused, .resetting]
        | .draining => [.paused, .resetting]
        | .resetting => [.paused] : List EngineState)
  (∀ (c : Instr) (s : State), ∃ t, exec c s = .next t ∧ t.pending = s.pending
    ∧ ((∃ pins, c = .powerOnReset pins) ∨ joined s t))
  ∧ ∀ s : State, ∃ t, step s = .next t ∧ t.pending = s.pending.tail
    ∧ ((∃ pins, s.pending.head? = some (.powerOnReset pins)) ∨ joined s t)

end
end

