-- ==== Sys2Proof/Laws/Tables.lean ====
section
/-! SUPPORT. The laws of sparse tables in canonical form: a read after a write, and the form kept by every operation. -/

namespace Sys2Proof.Laws

open Sys2Proof.Machine

variable {α : Type}

/-- Every listed index of a table is above a bound. -/
def Above (b : Nat) (t : Tbl α) : Prop := ∀ e ∈ t, b < e.1

theorem get_nil (d : α) (i : Nat) : Tbl.get d [] i = d := rfl

theorem get_cons (d : α) (j : Nat) (w : α) (t : Tbl α) (i : Nat) :
    Tbl.get d ((j, w) :: t) i = if j = i then w else Tbl.get d t i := rfl

theorem get_above (d : α) {t : Tbl α} {i : Nat} (h : Above i t) : Tbl.get d t i = d := by
  induction t with
  | nil => rfl
  | cons e t ih =>
    obtain ⟨j, w⟩ := e
    have hj : i < j := h (j, w) (by simp)
    rw [get_cons, if_neg (by omega)]
    exact ih fun e he => h e (by simp [he])

/-- The entry read is listed, or it is the power-on entry. -/
theorem get_mem_or (d : α) (t : Tbl α) (i : Nat) : (i, Tbl.get d t i) ∈ t ∨ Tbl.get d t i = d := by
  induction t with
  | nil => exact .inr rfl
  | cons e t ih =>
    obtain ⟨j, w⟩ := e
    rw [get_cons]
    by_cases h : j = i
    · subst h; simp
    · rw [if_neg h]
      exact ih.imp (fun h => by simp [h]) id

variable [DecidableEq α]

/-- The canonical form, one entry at a time. -/
theorem wf_cons_iff (d : α) (i : Nat) (v : α) (t : Tbl α) :
    Tbl.wf d ((i, v) :: t) = true ↔ v ≠ d ∧ Above i t ∧ Tbl.wf d t = true := by
  induction t generalizing i v with
  | nil => simp [Tbl.wf, Above]
  | cons e t ih =>
    obtain ⟨j, w⟩ := e
    simp only [Tbl.wf, Bool.and_eq_true, decide_eq_true_eq]
    constructor
    · rintro ⟨⟨hv, hij⟩, hw⟩
      refine ⟨hv, ?_, hw⟩
      intro x hx
      rcases List.mem_cons.1 hx with rfl | hx
      · exact hij
      · exact Nat.lt_trans hij (((ih j w).1 hw).2.1 x hx)
    · rintro ⟨hv, ha, hw⟩
      exact ⟨⟨hv, ha (j, w) (by simp)⟩, hw⟩

theorem wf_tail {d : α} {e : Nat × α} {t : Tbl α} (h : Tbl.wf d (e :: t) = true) : Tbl.wf d t = true :=
  ((wf_cons_iff d e.1 e.2 t).1 h).2.2

theorem wf_above {d : α} {e : Nat × α} {t : Tbl α} (h : Tbl.wf d (e :: t) = true) : Above e.1 t :=
  ((wf_cons_iff d e.1 e.2 t).1 h).2.1

/-- What a written table lists was listed before or is the entry written. -/
theorem mem_set (d : α) (t : Tbl α) (i : Nat) (v : α) {e : Nat × α} (h : e ∈ Tbl.set d t i v) :
    e ∈ t ∨ (e = (i, v) ∧ v ≠ d) := by
  induction t with
  | nil =>
    by_cases hv : v = d
    · simp [Tbl.set, hv] at h
    · simp only [Tbl.set, hv, if_false, List.mem_singleton] at h
      exact .inr ⟨h, hv⟩
  | cons x t ih =>
    obtain ⟨j, w⟩ := x
    simp only [Tbl.set] at h
    split at h
    · split at h
      · exact .inl h
      · rename_i hv
        rcases List.mem_cons.1 h with h | h
        · exact .inr ⟨h, hv⟩
        · exact .inl h
    · split at h
      · split at h
        · exact .inl (by simp [h])
        · rename_i hv
          rcases List.mem_cons.1 h with h | h
          · exact .inr ⟨h, hv⟩
          · exact .inl (by simp [h])
      · rcases List.mem_cons.1 h with h | h
        · exact .inl (by simp [h])
        · exact (ih h).imp (fun h => by simp [h]) id

theorem above_set {d : α} {t : Tbl α} {b i : Nat} {v : α} (h : Above b t) (hi : b < i) :
    Above b (Tbl.set d t i v) := fun e he => by
  rcases mem_set d t i v he with h' | ⟨rfl, -⟩
  · exact h e h'
  · exact hi

/-- A write keeps the canonical form. -/
theorem wf_set {d : α} {t : Tbl α} (h : Tbl.wf d t = true) (i : Nat) (v : α) : Tbl.wf d (Tbl.set d t i v) = true := by
  induction t with
  | nil =>
    by_cases hv : v = d
    · simp [Tbl.set, hv, Tbl.wf]
    · simp [Tbl.set, hv, Tbl.wf]
  | cons x t ih =>
    obtain ⟨j, w⟩ := x
    obtain ⟨hw, ha, ht⟩ := (wf_cons_iff d j w t).1 h
    simp only [Tbl.set]
    split
    · rename_i hij
      split
      · exact h
      · rename_i hv
        refine (wf_cons_iff d i v _).2 ⟨hv, ?_, h⟩
        intro e he
        rcases List.mem_cons.1 he with rfl | he
        · exact hij
        · exact Nat.lt_trans hij (ha e he)
    · split
      · rename_i hij
        split
        · exact ht
        · rename_i hv
          exact (wf_cons_iff d i v t).2 ⟨hv, hij ▸ ha, ht⟩
      · exact (wf_cons_iff d j w _).2 ⟨hw, above_set ha (by omega), ih ht⟩

/-- A read after a write: the entry written reads as written, every other as before. -/
theorem get_set {d : α} {t : Tbl α} (h : Tbl.wf d t = true) (i : Nat) (v : α) (k : Nat) :
    Tbl.get d (Tbl.set d t i v) k = if i = k then v else Tbl.get d t k := by
  induction t with
  | nil =>
    by_cases hv : v = d
    · by_cases hk : i = k <;> simp [Tbl.set, hv, Tbl.get, hk]
    · simp [Tbl.set, hv, Tbl.get]
  | cons x t ih =>
    obtain ⟨j, w⟩ := x
    obtain ⟨hw, ha, ht⟩ := (wf_cons_iff d j w t).1 h
    simp only [Tbl.set]
    split
    · rename_i hij
      split
      · rename_i hv
        by_cases hk : i = k
        · subst hk
          rw [if_pos rfl, hv]
          refine get_above d fun e he => ?_
          rcases List.mem_cons.1 he with rfl | he
          · exact hij
          · exact Nat.lt_trans hij (ha e he)
        · rw [if_neg hk]
      · rw [get_cons]
    · split
      · rename_i hij
        subst hij
        split
        · rename_i hv
          by_cases hk : i = k
          · subst hk
            rw [if_pos rfl, hv]
            exact get_above d ha
          · rw [if_neg hk, get_cons, if_neg hk]
        · rw [get_cons, get_cons]
          by_cases hk : i = k <;> simp [hk]
      · rename_i hij hij'
        rw [get_cons, ih ht, get_cons]
        by_cases hk : i = k
        · subst hk; rw [if_pos rfl, if_neg (by omega), if_pos rfl]
        · rw [if_neg hk, if_neg hk]

/-- A read after a function is applied to every entry; the function leaves the power-on entry as it is. -/
theorem get_update {d : α} {f : Nat → α → α} (hf : ∀ i, f i d = d) {t : Tbl α} (h : Tbl.wf d t = true) (k : Nat) :
    Tbl.get d (Tbl.update d f t) k = f k (Tbl.get d t k) := by
  induction t with
  | nil => simp [Tbl.update, Tbl.get, hf]
  | cons x t ih =>
    obtain ⟨j, w⟩ := x
    have ha := wf_above h
    rw [get_cons]
    simp only [Tbl.update]
    split
    · rename_i hd
      rw [ih (wf_tail h)]
      by_cases hk : j = k
      · subst hk; rw [if_pos rfl, get_above d ha, hf, hd]
      · rw [if_neg hk]
    · rw [get_cons, ih (wf_tail h)]
      by_cases hk : j = k
      · subst hk; simp
      · rw [if_neg hk, if_neg hk]

/-- What an updated table lists is the image of an entry listed before. -/
theorem mem_update (d : α) (f : Nat → α → α) (t : Tbl α) {e : Nat × α} (h : e ∈ Tbl.update d f t) :
    ∃ w, (e.1, w) ∈ t ∧ e.2 = f e.1 w ∧ e.2 ≠ d := by
  induction t with
  | nil => simp [Tbl.update] at h
  | cons x t ih =>
    obtain ⟨j, w⟩ := x
    simp only [Tbl.update] at h
    split at h
    · obtain ⟨w', h1, h2⟩ := ih h
      exact ⟨w', by simp [h1], h2⟩
    · rename_i hd
      rcases List.mem_cons.1 h with rfl | h
      · exact ⟨w, by simp, rfl, hd⟩
      · obtain ⟨w', h1, h2⟩ := ih h
        exact ⟨w', by simp [h1], h2⟩

/-- An update keeps the canonical form. -/
theorem wf_update {d : α} (f : Nat → α → α) {t : Tbl α} (h : Tbl.wf d t = true) : Tbl.wf d (Tbl.update d f t) = true := by
  induction t with
  | nil => rfl
  | cons x t ih =>
    obtain ⟨j, w⟩ := x
    simp only [Tbl.update]
    split
    · exact ih (wf_tail h)
    · rename_i hd
      refine (wf_cons_iff d j _ _).2 ⟨hd, ?_, ih (wf_tail h)⟩
      intro e he
      obtain ⟨w', h1, -⟩ := mem_update d f t he
      exact wf_above h (e.1, w') h1

end Sys2Proof.Laws
end

