-- ==== Sys2Proof/Laws/State.lean ====
section
/-! SUPPORT. The fields of State after each named update: one lemma for each field that stands, and for the field written.
All hold by unfolding the update. -/

namespace Sys2Proof.Laws

open Sys2Proof.Machine

/-! ### State.setCtx -/

@[simp] theorem setCtx_tru (s : State) (k : Nat) (c : Ctx) : (s.setCtx k c).tru = s.tru := rfl
@[simp] theorem setCtx_params (s : State) (k : Nat) (c : Ctx) : (s.setCtx k c).params = s.params := rfl
@[simp] theorem setCtx_map (s : State) (k : Nat) (c : Ctx) : (s.setCtx k c).map = s.map := rfl
@[simp] theorem setCtx_intake (s : State) (k : Nat) (c : Ctx) : (s.setCtx k c).intake = s.intake := rfl
@[simp] theorem setCtx_conv (s : State) (k : Nat) (c : Ctx) : (s.setCtx k c).conv = s.conv := rfl
@[simp] theorem setCtx_store (s : State) (k : Nat) (c : Ctx) : (s.setCtx k c).store = s.store := rfl
@[simp] theorem setCtx_window (s : State) (k : Nat) (c : Ctx) : (s.setCtx k c).window = s.window := rfl
@[simp] theorem setCtx_profiles (s : State) (k : Nat) (c : Ctx) : (s.setCtx k c).profiles = s.profiles := rfl
@[simp] theorem setCtx_members (s : State) (k : Nat) (c : Ctx) : (s.setCtx k c).members = s.members := rfl
@[simp] theorem setCtx_composer (s : State) (k : Nat) (c : Ctx) : (s.setCtx k c).composer = s.composer := rfl
@[simp] theorem setCtx_egress (s : State) (k : Nat) (c : Ctx) : (s.setCtx k c).egress = s.egress := rfl
@[simp] theorem setCtx_mgmt (s : State) (k : Nat) (c : Ctx) : (s.setCtx k c).mgmt = s.mgmt := rfl
@[simp] theorem setCtx_free (s : State) (k : Nat) (c : Ctx) : (s.setCtx k c).free = s.free := rfl
@[simp] theorem setCtx_pending (s : State) (k : Nat) (c : Ctx) : (s.setCtx k c).pending = s.pending := rfl

/-! ### State.setWay -/

@[simp] theorem setWay_tru (s : State) (i : Nat) (b : Option Binding) : (s.setWay i b).tru = s.tru := rfl
@[simp] theorem setWay_params (s : State) (i : Nat) (b : Option Binding) : (s.setWay i b).params = s.params := rfl
@[simp] theorem setWay_ctxs (s : State) (i : Nat) (b : Option Binding) : (s.setWay i b).ctxs = s.ctxs := rfl
@[simp] theorem setWay_intake (s : State) (i : Nat) (b : Option Binding) : (s.setWay i b).intake = s.intake := rfl
@[simp] theorem setWay_conv (s : State) (i : Nat) (b : Option Binding) : (s.setWay i b).conv = s.conv := rfl
@[simp] theorem setWay_store (s : State) (i : Nat) (b : Option Binding) : (s.setWay i b).store = s.store := rfl
@[simp] theorem setWay_window (s : State) (i : Nat) (b : Option Binding) : (s.setWay i b).window = s.window := rfl
@[simp] theorem setWay_profiles (s : State) (i : Nat) (b : Option Binding) : (s.setWay i b).profiles = s.profiles := rfl
@[simp] theorem setWay_members (s : State) (i : Nat) (b : Option Binding) : (s.setWay i b).members = s.members := rfl
@[simp] theorem setWay_composer (s : State) (i : Nat) (b : Option Binding) : (s.setWay i b).composer = s.composer := rfl
@[simp] theorem setWay_egress (s : State) (i : Nat) (b : Option Binding) : (s.setWay i b).egress = s.egress := rfl
@[simp] theorem setWay_mgmt (s : State) (i : Nat) (b : Option Binding) : (s.setWay i b).mgmt = s.mgmt := rfl
@[simp] theorem setWay_free (s : State) (i : Nat) (b : Option Binding) : (s.setWay i b).free = s.free := rfl
@[simp] theorem setWay_pending (s : State) (i : Nat) (b : Option Binding) : (s.setWay i b).pending = s.pending := rfl

/-! ### State.setConversion -/

@[simp] theorem setConversion_tru (s : State) (i : Nat) (c : Conversion) : (s.setConversion i c).tru = s.tru := rfl
@[simp] theorem setConversion_params (s : State) (i : Nat) (c : Conversion) : (s.setConversion i c).params = s.params := rfl
@[simp] theorem setConversion_map (s : State) (i : Nat) (c : Conversion) : (s.setConversion i c).map = s.map := rfl
@[simp] theorem setConversion_ctxs (s : State) (i : Nat) (c : Conversion) : (s.setConversion i c).ctxs = s.ctxs := rfl
@[simp] theorem setConversion_intake (s : State) (i : Nat) (c : Conversion) : (s.setConversion i c).intake = s.intake := rfl
@[simp] theorem setConversion_store (s : State) (i : Nat) (c : Conversion) : (s.setConversion i c).store = s.store := rfl
@[simp] theorem setConversion_window (s : State) (i : Nat) (c : Conversion) : (s.setConversion i c).window = s.window := rfl
@[simp] theorem setConversion_profiles (s : State) (i : Nat) (c : Conversion) : (s.setConversion i c).profiles = s.profiles := rfl
@[simp] theorem setConversion_members (s : State) (i : Nat) (c : Conversion) : (s.setConversion i c).members = s.members := rfl
@[simp] theorem setConversion_composer (s : State) (i : Nat) (c : Conversion) : (s.setConversion i c).composer = s.composer := rfl
@[simp] theorem setConversion_egress (s : State) (i : Nat) (c : Conversion) : (s.setConversion i c).egress = s.egress := rfl
@[simp] theorem setConversion_mgmt (s : State) (i : Nat) (c : Conversion) : (s.setConversion i c).mgmt = s.mgmt := rfl
@[simp] theorem setConversion_free (s : State) (i : Nat) (c : Conversion) : (s.setConversion i c).free = s.free := rfl
@[simp] theorem setConversion_pending (s : State) (i : Nat) (c : Conversion) : (s.setConversion i c).pending = s.pending := rfl

/-! ### State.setProfile -/

@[simp] theorem setProfile_tru (s : State) (p : Nat) (x : Profile) : (s.setProfile p x).tru = s.tru := rfl
@[simp] theorem setProfile_params (s : State) (p : Nat) (x : Profile) : (s.setProfile p x).params = s.params := rfl
@[simp] theorem setProfile_map (s : State) (p : Nat) (x : Profile) : (s.setProfile p x).map = s.map := rfl
@[simp] theorem setProfile_ctxs (s : State) (p : Nat) (x : Profile) : (s.setProfile p x).ctxs = s.ctxs := rfl
@[simp] theorem setProfile_intake (s : State) (p : Nat) (x : Profile) : (s.setProfile p x).intake = s.intake := rfl
@[simp] theorem setProfile_conv (s : State) (p : Nat) (x : Profile) : (s.setProfile p x).conv = s.conv := rfl
@[simp] theorem setProfile_store (s : State) (p : Nat) (x : Profile) : (s.setProfile p x).store = s.store := rfl
@[simp] theorem setProfile_window (s : State) (p : Nat) (x : Profile) : (s.setProfile p x).window = s.window := rfl
@[simp] theorem setProfile_members (s : State) (p : Nat) (x : Profile) : (s.setProfile p x).members = s.members := rfl
@[simp] theorem setProfile_composer (s : State) (p : Nat) (x : Profile) : (s.setProfile p x).composer = s.composer := rfl
@[simp] theorem setProfile_egress (s : State) (p : Nat) (x : Profile) : (s.setProfile p x).egress = s.egress := rfl
@[simp] theorem setProfile_mgmt (s : State) (p : Nat) (x : Profile) : (s.setProfile p x).mgmt = s.mgmt := rfl
@[simp] theorem setProfile_free (s : State) (p : Nat) (x : Profile) : (s.setProfile p x).free = s.free := rfl
@[simp] theorem setProfile_pending (s : State) (p : Nat) (x : Profile) : (s.setProfile p x).pending = s.pending := rfl

/-! ### State.setMember -/

@[simp] theorem setMember_tru (s : State) (e k : Nat) : (s.setMember e k).tru = s.tru := rfl
@[simp] theorem setMember_params (s : State) (e k : Nat) : (s.setMember e k).params = s.params := rfl
@[simp] theorem setMember_map (s : State) (e k : Nat) : (s.setMember e k).map = s.map := rfl
@[simp] theorem setMember_ctxs (s : State) (e k : Nat) : (s.setMember e k).ctxs = s.ctxs := rfl
@[simp] theorem setMember_intake (s : State) (e k : Nat) : (s.setMember e k).intake = s.intake := rfl
@[simp] theorem setMember_conv (s : State) (e k : Nat) : (s.setMember e k).conv = s.conv := rfl
@[simp] theorem setMember_store (s : State) (e k : Nat) : (s.setMember e k).store = s.store := rfl
@[simp] theorem setMember_window (s : State) (e k : Nat) : (s.setMember e k).window = s.window := rfl
@[simp] theorem setMember_profiles (s : State) (e k : Nat) : (s.setMember e k).profiles = s.profiles := rfl
@[simp] theorem setMember_composer (s : State) (e k : Nat) : (s.setMember e k).composer = s.composer := rfl
@[simp] theorem setMember_egress (s : State) (e k : Nat) : (s.setMember e k).egress = s.egress := rfl
@[simp] theorem setMember_mgmt (s : State) (e k : Nat) : (s.setMember e k).mgmt = s.mgmt := rfl
@[simp] theorem setMember_free (s : State) (e k : Nat) : (s.setMember e k).free = s.free := rfl
@[simp] theorem setMember_pending (s : State) (e k : Nat) : (s.setMember e k).pending = s.pending := rfl

/-! ### State.setManager -/

@[simp] theorem setManager_tru (s : State) (i : Nat) (m : Manager) : (s.setManager i m).tru = s.tru := rfl
@[simp] theorem setManager_params (s : State) (i : Nat) (m : Manager) : (s.setManager i m).params = s.params := rfl
@[simp] theorem setManager_map (s : State) (i : Nat) (m : Manager) : (s.setManager i m).map = s.map := rfl
@[simp] theorem setManager_ctxs (s : State) (i : Nat) (m : Manager) : (s.setManager i m).ctxs = s.ctxs := rfl
@[simp] theorem setManager_intake (s : State) (i : Nat) (m : Manager) : (s.setManager i m).intake = s.intake := rfl
@[simp] theorem setManager_conv (s : State) (i : Nat) (m : Manager) : (s.setManager i m).conv = s.conv := rfl
@[simp] theorem setManager_store (s : State) (i : Nat) (m : Manager) : (s.setManager i m).store = s.store := rfl
@[simp] theorem setManager_window (s : State) (i : Nat) (m : Manager) : (s.setManager i m).window = s.window := rfl
@[simp] theorem setManager_profiles (s : State) (i : Nat) (m : Manager) : (s.setManager i m).profiles = s.profiles := rfl
@[simp] theorem setManager_members (s : State) (i : Nat) (m : Manager) : (s.setManager i m).members = s.members := rfl
@[simp] theorem setManager_composer (s : State) (i : Nat) (m : Manager) : (s.setManager i m).composer = s.composer := rfl
@[simp] theorem setManager_egress (s : State) (i : Nat) (m : Manager) : (s.setManager i m).egress = s.egress := rfl
@[simp] theorem setManager_free (s : State) (i : Nat) (m : Manager) : (s.setManager i m).free = s.free := rfl
@[simp] theorem setManager_pending (s : State) (i : Nat) (m : Manager) : (s.setManager i m).pending = s.pending := rfl
@[simp] theorem setManager_mgmt_engine (s : State) (i : Nat) (m : Manager) : (s.setManager i m).mgmt.engine = s.mgmt.engine := rfl
@[simp] theorem setManager_mgmt_exec (s : State) (i : Nat) (m : Manager) : (s.setManager i m).mgmt.exec = s.mgmt.exec := rfl
@[simp] theorem setManager_mgmt_queue (s : State) (i : Nat) (m : Manager) : (s.setManager i m).mgmt.queue = s.mgmt.queue := rfl
@[simp] theorem setManager_mgmt_deferredReset (s : State) (i : Nat) (m : Manager) : (s.setManager i m).mgmt.deferredReset = s.mgmt.deferredReset := rfl
@[simp] theorem setManager_mgmt_deferredFlush (s : State) (i : Nat) (m : Manager) : (s.setManager i m).mgmt.deferredFlush = s.mgmt.deferredFlush := rfl
@[simp] theorem setManager_mgmt_formed (s : State) (i : Nat) (m : Manager) : (s.setManager i m).mgmt.formed = s.mgmt.formed := rfl
@[simp] theorem setManager_mgmt_access (s : State) (i : Nat) (m : Manager) : (s.setManager i m).mgmt.access = s.mgmt.access := rfl
@[simp] theorem setManager_mgmt_lock (s : State) (i : Nat) (m : Manager) : (s.setManager i m).mgmt.lock = s.mgmt.lock := rfl
@[simp] theorem setManager_mgmt_pendingMap (s : State) (i : Nat) (m : Manager) : (s.setManager i m).mgmt.pendingMap = s.mgmt.pendingMap := rfl
@[simp] theorem setManager_mgmt_counts (s : State) (i : Nat) (m : Manager) : (s.setManager i m).mgmt.counts = s.mgmt.counts := rfl

/-! ### State.setAccess -/

@[simp] theorem setAccess_tru (s : State) (i : Nat) (a : Access) : (s.setAccess i a).tru = s.tru := rfl
@[simp] theorem setAccess_params (s : State) (i : Nat) (a : Access) : (s.setAccess i a).params = s.params := rfl
@[simp] theorem setAccess_map (s : State) (i : Nat) (a : Access) : (s.setAccess i a).map = s.map := rfl
@[simp] theorem setAccess_ctxs (s : State) (i : Nat) (a : Access) : (s.setAccess i a).ctxs = s.ctxs := rfl
@[simp] theorem setAccess_intake (s : State) (i : Nat) (a : Access) : (s.setAccess i a).intake = s.intake := rfl
@[simp] theorem setAccess_conv (s : State) (i : Nat) (a : Access) : (s.setAccess i a).conv = s.conv := rfl
@[simp] theorem setAccess_store (s : State) (i : Nat) (a : Access) : (s.setAccess i a).store = s.store := rfl
@[simp] theorem setAccess_window (s : State) (i : Nat) (a : Access) : (s.setAccess i a).window = s.window := rfl
@[simp] theorem setAccess_profiles (s : State) (i : Nat) (a : Access) : (s.setAccess i a).profiles = s.profiles := rfl
@[simp] theorem setAccess_members (s : State) (i : Nat) (a : Access) : (s.setAccess i a).members = s.members := rfl
@[simp] theorem setAccess_composer (s : State) (i : Nat) (a : Access) : (s.setAccess i a).composer = s.composer := rfl
@[simp] theorem setAccess_egress (s : State) (i : Nat) (a : Access) : (s.setAccess i a).egress = s.egress := rfl
@[simp] theorem setAccess_free (s : State) (i : Nat) (a : Access) : (s.setAccess i a).free = s.free := rfl
@[simp] theorem setAccess_pending (s : State) (i : Nat) (a : Access) : (s.setAccess i a).pending = s.pending := rfl
@[simp] theorem setAccess_mgmt_engine (s : State) (i : Nat) (a : Access) : (s.setAccess i a).mgmt.engine = s.mgmt.engine := rfl
@[simp] theorem setAccess_mgmt_exec (s : State) (i : Nat) (a : Access) : (s.setAccess i a).mgmt.exec = s.mgmt.exec := rfl
@[simp] theorem setAccess_mgmt_queue (s : State) (i : Nat) (a : Access) : (s.setAccess i a).mgmt.queue = s.mgmt.queue := rfl
@[simp] theorem setAccess_mgmt_deferredReset (s : State) (i : Nat) (a : Access) : (s.setAccess i a).mgmt.deferredReset = s.mgmt.deferredReset := rfl
@[simp] theorem setAccess_mgmt_deferredFlush (s : State) (i : Nat) (a : Access) : (s.setAccess i a).mgmt.deferredFlush = s.mgmt.deferredFlush := rfl
@[simp] theorem setAccess_mgmt_formed (s : State) (i : Nat) (a : Access) : (s.setAccess i a).mgmt.formed = s.mgmt.formed := rfl
@[simp] theorem setAccess_mgmt_managers (s : State) (i : Nat) (a : Access) : (s.setAccess i a).mgmt.managers = s.mgmt.managers := rfl
@[simp] theorem setAccess_mgmt_lock (s : State) (i : Nat) (a : Access) : (s.setAccess i a).mgmt.lock = s.mgmt.lock := rfl
@[simp] theorem setAccess_mgmt_pendingMap (s : State) (i : Nat) (a : Access) : (s.setAccess i a).mgmt.pendingMap = s.mgmt.pendingMap := rfl
@[simp] theorem setAccess_mgmt_counts (s : State) (i : Nat) (a : Access) : (s.setAccess i a).mgmt.counts = s.mgmt.counts := rfl

/-! ### State.setHolding -/

@[simp] theorem setHolding_tru (s : State) (p : Nat) (h : Holding) : (s.setHolding p h).tru = s.tru := rfl
@[simp] theorem setHolding_params (s : State) (p : Nat) (h : Holding) : (s.setHolding p h).params = s.params := rfl
@[simp] theorem setHolding_map (s : State) (p : Nat) (h : Holding) : (s.setHolding p h).map = s.map := rfl
@[simp] theorem setHolding_ctxs (s : State) (p : Nat) (h : Holding) : (s.setHolding p h).ctxs = s.ctxs := rfl
@[simp] theorem setHolding_intake (s : State) (p : Nat) (h : Holding) : (s.setHolding p h).intake = s.intake := rfl
@[simp] theorem setHolding_conv (s : State) (p : Nat) (h : Holding) : (s.setHolding p h).conv = s.conv := rfl
@[simp] theorem setHolding_store (s : State) (p : Nat) (h : Holding) : (s.setHolding p h).store = s.store := rfl
@[simp] theorem setHolding_window (s : State) (p : Nat) (h : Holding) : (s.setHolding p h).window = s.window := rfl
@[simp] theorem setHolding_profiles (s : State) (p : Nat) (h : Holding) : (s.setHolding p h).profiles = s.profiles := rfl
@[simp] theorem setHolding_members (s : State) (p : Nat) (h : Holding) : (s.setHolding p h).members = s.members := rfl
@[simp] theorem setHolding_egress (s : State) (p : Nat) (h : Holding) : (s.setHolding p h).egress = s.egress := rfl
@[simp] theorem setHolding_mgmt (s : State) (p : Nat) (h : Holding) : (s.setHolding p h).mgmt = s.mgmt := rfl
@[simp] theorem setHolding_free (s : State) (p : Nat) (h : Holding) : (s.setHolding p h).free = s.free := rfl
@[simp] theorem setHolding_pending (s : State) (p : Nat) (h : Holding) : (s.setHolding p h).pending = s.pending := rfl
@[simp] theorem setHolding_composer_working (s : State) (p : Nat) (h : Holding) : (s.setHolding p h).composer.working = s.composer.working := rfl
@[simp] theorem setHolding_composer_outbound (s : State) (p : Nat) (h : Holding) : (s.setHolding p h).composer.outbound = s.composer.outbound := rfl
@[simp] theorem setHolding_composer_flushBusy (s : State) (p : Nat) (h : Holding) : (s.setHolding p h).composer.flushBusy = s.composer.flushBusy := rfl
@[simp] theorem setHolding_composer_counts (s : State) (p : Nat) (h : Holding) : (s.setHolding p h).composer.counts = s.composer.counts := rfl

/-! ### State.setSlot -/

@[simp] theorem setSlot_tru (s : State) (g : Nat) (x : Slot) : (s.setSlot g x).tru = s.tru := rfl
@[simp] theorem setSlot_params (s : State) (g : Nat) (x : Slot) : (s.setSlot g x).params = s.params := rfl
@[simp] theorem setSlot_map (s : State) (g : Nat) (x : Slot) : (s.setSlot g x).map = s.map := rfl
@[simp] theorem setSlot_ctxs (s : State) (g : Nat) (x : Slot) : (s.setSlot g x).ctxs = s.ctxs := rfl
@[simp] theorem setSlot_intake (s : State) (g : Nat) (x : Slot) : (s.setSlot g x).intake = s.intake := rfl
@[simp] theorem setSlot_conv (s : State) (g : Nat) (x : Slot) : (s.setSlot g x).conv = s.conv := rfl
@[simp] theorem setSlot_window (s : State) (g : Nat) (x : Slot) : (s.setSlot g x).window = s.window := rfl
@[simp] theorem setSlot_profiles (s : State) (g : Nat) (x : Slot) : (s.setSlot g x).profiles = s.profiles := rfl
@[simp] theorem setSlot_members (s : State) (g : Nat) (x : Slot) : (s.setSlot g x).members = s.members := rfl
@[simp] theorem setSlot_composer (s : State) (g : Nat) (x : Slot) : (s.setSlot g x).composer = s.composer := rfl
@[simp] theorem setSlot_egress (s : State) (g : Nat) (x : Slot) : (s.setSlot g x).egress = s.egress := rfl
@[simp] theorem setSlot_mgmt (s : State) (g : Nat) (x : Slot) : (s.setSlot g x).mgmt = s.mgmt := rfl
@[simp] theorem setSlot_free (s : State) (g : Nat) (x : Slot) : (s.setSlot g x).free = s.free := rfl
@[simp] theorem setSlot_pending (s : State) (g : Nat) (x : Slot) : (s.setSlot g x).pending = s.pending := rfl
@[simp] theorem setSlot_store_pool (s : State) (g : Nat) (x : Slot) : (s.setSlot g x).store.pool = s.store.pool := rfl
@[simp] theorem setSlot_store_freeList (s : State) (g : Nat) (x : Slot) : (s.setSlot g x).store.freeList = s.store.freeList := rfl
@[simp] theorem setSlot_store_hLow (s : State) (g : Nat) (x : Slot) : (s.setSlot g x).store.hLow = s.store.hLow := rfl
@[simp] theorem setSlot_store_floor (s : State) (g : Nat) (x : Slot) : (s.setSlot g x).store.floor = s.store.floor := rfl
@[simp] theorem setSlot_store_closeCounts (s : State) (g : Nat) (x : Slot) : (s.setSlot g x).store.closeCounts = s.store.closeCounts := rfl
@[simp] theorem setSlot_store_composed (s : State) (g : Nat) (x : Slot) : (s.setSlot g x).store.composed = s.store.composed := rfl
@[simp] theorem setSlot_store_lowestFree (s : State) (g : Nat) (x : Slot) : (s.setSlot g x).store.lowestFree = s.store.lowestFree := rfl
@[simp] theorem setSlot_store_poolPressure (s : State) (g : Nat) (x : Slot) : (s.setSlot g x).store.poolPressure = s.store.poolPressure := rfl
@[simp] theorem setSlot_store_ringForced (s : State) (g : Nat) (x : Slot) : (s.setSlot g x).store.ringForced = s.store.ringForced := rfl
@[simp] theorem setSlot_store_scrubbing (s : State) (g : Nat) (x : Slot) : (s.setSlot g x).store.scrubbing = s.store.scrubbing := rfl
@[simp] theorem setSlot_store_saturatedCells (s : State) (g : Nat) (x : Slot) : (s.setSlot g x).store.saturatedCells = s.store.saturatedCells := rfl

/-! ### State.elapse -/

@[simp] theorem elapse_params (s : State) (dt : Nat) : (s.elapse dt).params = s.params := rfl
@[simp] theorem elapse_map (s : State) (dt : Nat) : (s.elapse dt).map = s.map := rfl
@[simp] theorem elapse_ctxs (s : State) (dt : Nat) : (s.elapse dt).ctxs = s.ctxs := rfl
@[simp] theorem elapse_intake (s : State) (dt : Nat) : (s.elapse dt).intake = s.intake := rfl
@[simp] theorem elapse_conv (s : State) (dt : Nat) : (s.elapse dt).conv = s.conv := rfl
@[simp] theorem elapse_store (s : State) (dt : Nat) : (s.elapse dt).store = s.store := rfl
@[simp] theorem elapse_window (s : State) (dt : Nat) : (s.elapse dt).window = s.window := rfl
@[simp] theorem elapse_profiles (s : State) (dt : Nat) : (s.elapse dt).profiles = s.profiles := rfl
@[simp] theorem elapse_members (s : State) (dt : Nat) : (s.elapse dt).members = s.members := rfl
@[simp] theorem elapse_composer (s : State) (dt : Nat) : (s.elapse dt).composer = s.composer := rfl
@[simp] theorem elapse_egress (s : State) (dt : Nat) : (s.elapse dt).egress = s.egress := rfl
@[simp] theorem elapse_mgmt (s : State) (dt : Nat) : (s.elapse dt).mgmt = s.mgmt := rfl
@[simp] theorem elapse_free (s : State) (dt : Nat) : (s.elapse dt).free = s.free := rfl
@[simp] theorem elapse_pending (s : State) (dt : Nat) : (s.elapse dt).pending = s.pending := rfl

/-! ### State.nextFree -/

@[simp] theorem nextFree_tru (s : State) : (s.nextFree).tru = s.tru := rfl
@[simp] theorem nextFree_params (s : State) : (s.nextFree).params = s.params := rfl
@[simp] theorem nextFree_map (s : State) : (s.nextFree).map = s.map := rfl
@[simp] theorem nextFree_ctxs (s : State) : (s.nextFree).ctxs = s.ctxs := rfl
@[simp] theorem nextFree_intake (s : State) : (s.nextFree).intake = s.intake := rfl
@[simp] theorem nextFree_conv (s : State) : (s.nextFree).conv = s.conv := rfl
@[simp] theorem nextFree_store (s : State) : (s.nextFree).store = s.store := rfl
@[simp] theorem nextFree_window (s : State) : (s.nextFree).window = s.window := rfl
@[simp] theorem nextFree_profiles (s : State) : (s.nextFree).profiles = s.profiles := rfl
@[simp] theorem nextFree_members (s : State) : (s.nextFree).members = s.members := rfl
@[simp] theorem nextFree_composer (s : State) : (s.nextFree).composer = s.composer := rfl
@[simp] theorem nextFree_egress (s : State) : (s.nextFree).egress = s.egress := rfl
@[simp] theorem nextFree_mgmt (s : State) : (s.nextFree).mgmt = s.mgmt := rfl
@[simp] theorem nextFree_pending (s : State) : (s.nextFree).pending = s.pending := rfl

/-! ### State.setParams -/

@[simp] theorem setParams_tru (s : State) (p : Params) : (s.setParams p).tru = s.tru := rfl
@[simp] theorem setParams_map (s : State) (p : Params) : (s.setParams p).map = s.map := rfl
@[simp] theorem setParams_ctxs (s : State) (p : Params) : (s.setParams p).ctxs = s.ctxs := rfl
@[simp] theorem setParams_intake (s : State) (p : Params) : (s.setParams p).intake = s.intake := rfl
@[simp] theorem setParams_conv (s : State) (p : Params) : (s.setParams p).conv = s.conv := rfl
@[simp] theorem setParams_store (s : State) (p : Params) : (s.setParams p).store = s.store := rfl
@[simp] theorem setParams_window (s : State) (p : Params) : (s.setParams p).window = s.window := rfl
@[simp] theorem setParams_profiles (s : State) (p : Params) : (s.setParams p).profiles = s.profiles := rfl
@[simp] theorem setParams_members (s : State) (p : Params) : (s.setParams p).members = s.members := rfl
@[simp] theorem setParams_composer (s : State) (p : Params) : (s.setParams p).composer = s.composer := rfl
@[simp] theorem setParams_egress (s : State) (p : Params) : (s.setParams p).egress = s.egress := rfl
@[simp] theorem setParams_mgmt (s : State) (p : Params) : (s.setParams p).mgmt = s.mgmt := rfl
@[simp] theorem setParams_free (s : State) (p : Params) : (s.setParams p).free = s.free := rfl
@[simp] theorem setParams_pending (s : State) (p : Params) : (s.setParams p).pending = s.pending := rfl

/-! ### State.reclampWq -/

@[simp] theorem reclampWq_tru (s : State) : (s.reclampWq).tru = s.tru := rfl
@[simp] theorem reclampWq_params (s : State) : (s.reclampWq).params = s.params := rfl
@[simp] theorem reclampWq_map (s : State) : (s.reclampWq).map = s.map := rfl
@[simp] theorem reclampWq_ctxs (s : State) : (s.reclampWq).ctxs = s.ctxs := rfl
@[simp] theorem reclampWq_intake (s : State) : (s.reclampWq).intake = s.intake := rfl
@[simp] theorem reclampWq_conv (s : State) : (s.reclampWq).conv = s.conv := rfl
@[simp] theorem reclampWq_store (s : State) : (s.reclampWq).store = s.store := rfl
@[simp] theorem reclampWq_profiles (s : State) : (s.reclampWq).profiles = s.profiles := rfl
@[simp] theorem reclampWq_members (s : State) : (s.reclampWq).members = s.members := rfl
@[simp] theorem reclampWq_composer (s : State) : (s.reclampWq).composer = s.composer := rfl
@[simp] theorem reclampWq_egress (s : State) : (s.reclampWq).egress = s.egress := rfl
@[simp] theorem reclampWq_mgmt (s : State) : (s.reclampWq).mgmt = s.mgmt := rfl
@[simp] theorem reclampWq_free (s : State) : (s.reclampWq).free = s.free := rfl
@[simp] theorem reclampWq_pending (s : State) : (s.reclampWq).pending = s.pending := rfl
@[simp] theorem reclampWq_window_j (s : State) : (s.reclampWq).window.j = s.window.j := rfl
@[simp] theorem reclampWq_window_closings (s : State) : (s.reclampWq).window.closings = s.window.closings := rfl
@[simp] theorem reclampWq_window_late (s : State) : (s.reclampWq).window.late = s.window.late := rfl
@[simp] theorem reclampWq_window_total (s : State) : (s.reclampWq).window.total = s.window.total := rfl
@[simp] theorem reclampWq_window_lastApplied (s : State) : (s.reclampWq).window.lastApplied = s.window.lastApplied := rfl
@[simp] theorem reclampWq_window_counts (s : State) : (s.reclampWq).window.counts = s.window.counts := rfl

/-! ### State.judgeHoldover -/

@[simp] theorem judgeHoldover_params (s : State) : (s.judgeHoldover).params = s.params := rfl
@[simp] theorem judgeHoldover_map (s : State) : (s.judgeHoldover).map = s.map := rfl
@[simp] theorem judgeHoldover_ctxs (s : State) : (s.judgeHoldover).ctxs = s.ctxs := rfl
@[simp] theorem judgeHoldover_intake (s : State) : (s.judgeHoldover).intake = s.intake := rfl
@[simp] theorem judgeHoldover_conv (s : State) : (s.judgeHoldover).conv = s.conv := rfl
@[simp] theorem judgeHoldover_store (s : State) : (s.judgeHoldover).store = s.store := rfl
@[simp] theorem judgeHoldover_window (s : State) : (s.judgeHoldover).window = s.window := rfl
@[simp] theorem judgeHoldover_profiles (s : State) : (s.judgeHoldover).profiles = s.profiles := rfl
@[simp] theorem judgeHoldover_members (s : State) : (s.judgeHoldover).members = s.members := rfl
@[simp] theorem judgeHoldover_composer (s : State) : (s.judgeHoldover).composer = s.composer := rfl
@[simp] theorem judgeHoldover_egress (s : State) : (s.judgeHoldover).egress = s.egress := rfl
@[simp] theorem judgeHoldover_mgmt (s : State) : (s.judgeHoldover).mgmt = s.mgmt := rfl
@[simp] theorem judgeHoldover_free (s : State) : (s.judgeHoldover).free = s.free := rfl
@[simp] theorem judgeHoldover_pending (s : State) : (s.judgeHoldover).pending = s.pending := rfl

/-! ### State.setEngine -/

@[simp] theorem setEngine_tru (s : State) (e : EngineState) : (s.setEngine e).tru = s.tru := rfl
@[simp] theorem setEngine_params (s : State) (e : EngineState) : (s.setEngine e).params = s.params := rfl
@[simp] theorem setEngine_map (s : State) (e : EngineState) : (s.setEngine e).map = s.map := rfl
@[simp] theorem setEngine_ctxs (s : State) (e : EngineState) : (s.setEngine e).ctxs = s.ctxs := rfl
@[simp] theorem setEngine_intake (s : State) (e : EngineState) : (s.setEngine e).intake = s.intake := rfl
@[simp] theorem setEngine_conv (s : State) (e : EngineState) : (s.setEngine e).conv = s.conv := rfl
@[simp] theorem setEngine_store (s : State) (e : EngineState) : (s.setEngine e).store = s.store := rfl
@[simp] theorem setEngine_window (s : State) (e : EngineState) : (s.setEngine e).window = s.window := rfl
@[simp] theorem setEngine_profiles (s : State) (e : EngineState) : (s.setEngine e).profiles = s.profiles := rfl
@[simp] theorem setEngine_members (s : State) (e : EngineState) : (s.setEngine e).members = s.members := rfl
@[simp] theorem setEngine_composer (s : State) (e : EngineState) : (s.setEngine e).composer = s.composer := rfl
@[simp] theorem setEngine_egress (s : State) (e : EngineState) : (s.setEngine e).egress = s.egress := rfl
@[simp] theorem setEngine_free (s : State) (e : EngineState) : (s.setEngine e).free = s.free := rfl
@[simp] theorem setEngine_pending (s : State) (e : EngineState) : (s.setEngine e).pending = s.pending := rfl
@[simp] theorem setEngine_mgmt_exec (s : State) (e : EngineState) : (s.setEngine e).mgmt.exec = s.mgmt.exec := rfl
@[simp] theorem setEngine_mgmt_queue (s : State) (e : EngineState) : (s.setEngine e).mgmt.queue = s.mgmt.queue := rfl
@[simp] theorem setEngine_mgmt_deferredReset (s : State) (e : EngineState) : (s.setEngine e).mgmt.deferredReset = s.mgmt.deferredReset := rfl
@[simp] theorem setEngine_mgmt_deferredFlush (s : State) (e : EngineState) : (s.setEngine e).mgmt.deferredFlush = s.mgmt.deferredFlush := rfl
@[simp] theorem setEngine_mgmt_formed (s : State) (e : EngineState) : (s.setEngine e).mgmt.formed = s.mgmt.formed := rfl
@[simp] theorem setEngine_mgmt_managers (s : State) (e : EngineState) : (s.setEngine e).mgmt.managers = s.mgmt.managers := rfl
@[simp] theorem setEngine_mgmt_access (s : State) (e : EngineState) : (s.setEngine e).mgmt.access = s.mgmt.access := rfl
@[simp] theorem setEngine_mgmt_lock (s : State) (e : EngineState) : (s.setEngine e).mgmt.lock = s.mgmt.lock := rfl
@[simp] theorem setEngine_mgmt_pendingMap (s : State) (e : EngineState) : (s.setEngine e).mgmt.pendingMap = s.mgmt.pendingMap := rfl
@[simp] theorem setEngine_mgmt_counts (s : State) (e : EngineState) : (s.setEngine e).mgmt.counts = s.mgmt.counts := rfl

/-! ### State.setExec -/

@[simp] theorem setExec_tru (s : State) (e : Execution) : (s.setExec e).tru = s.tru := rfl
@[simp] theorem setExec_params (s : State) (e : Execution) : (s.setExec e).params = s.params := rfl
@[simp] theorem setExec_map (s : State) (e : Execution) : (s.setExec e).map = s.map := rfl
@[simp] theorem setExec_ctxs (s : State) (e : Execution) : (s.setExec e).ctxs = s.ctxs := rfl
@[simp] theorem setExec_intake (s : State) (e : Execution) : (s.setExec e).intake = s.intake := rfl
@[simp] theorem setExec_conv (s : State) (e : Execution) : (s.setExec e).conv = s.conv := rfl
@[simp] theorem setExec_store (s : State) (e : Execution) : (s.setExec e).store = s.store := rfl
@[simp] theorem setExec_window (s : State) (e : Execution) : (s.setExec e).window = s.window := rfl
@[simp] theorem setExec_profiles (s : State) (e : Execution) : (s.setExec e).profiles = s.profiles := rfl
@[simp] theorem setExec_members (s : State) (e : Execution) : (s.setExec e).members = s.members := rfl
@[simp] theorem setExec_composer (s : State) (e : Execution) : (s.setExec e).composer = s.composer := rfl
@[simp] theorem setExec_egress (s : State) (e : Execution) : (s.setExec e).egress = s.egress := rfl
@[simp] theorem setExec_free (s : State) (e : Execution) : (s.setExec e).free = s.free := rfl
@[simp] theorem setExec_pending (s : State) (e : Execution) : (s.setExec e).pending = s.pending := rfl
@[simp] theorem setExec_mgmt_engine (s : State) (e : Execution) : (s.setExec e).mgmt.engine = s.mgmt.engine := rfl
@[simp] theorem setExec_mgmt_queue (s : State) (e : Execution) : (s.setExec e).mgmt.queue = s.mgmt.queue := rfl
@[simp] theorem setExec_mgmt_deferredReset (s : State) (e : Execution) : (s.setExec e).mgmt.deferredReset = s.mgmt.deferredReset := rfl
@[simp] theorem setExec_mgmt_deferredFlush (s : State) (e : Execution) : (s.setExec e).mgmt.deferredFlush = s.mgmt.deferredFlush := rfl
@[simp] theorem setExec_mgmt_formed (s : State) (e : Execution) : (s.setExec e).mgmt.formed = s.mgmt.formed := rfl
@[simp] theorem setExec_mgmt_managers (s : State) (e : Execution) : (s.setExec e).mgmt.managers = s.mgmt.managers := rfl
@[simp] theorem setExec_mgmt_access (s : State) (e : Execution) : (s.setExec e).mgmt.access = s.mgmt.access := rfl
@[simp] theorem setExec_mgmt_lock (s : State) (e : Execution) : (s.setExec e).mgmt.lock = s.mgmt.lock := rfl
@[simp] theorem setExec_mgmt_pendingMap (s : State) (e : Execution) : (s.setExec e).mgmt.pendingMap = s.mgmt.pendingMap := rfl
@[simp] theorem setExec_mgmt_counts (s : State) (e : Execution) : (s.setExec e).mgmt.counts = s.mgmt.counts := rfl

/-! ### State.clampConfidence -/

@[simp] theorem clampConfidence_tru (s : State) : (s.clampConfidence).tru = s.tru := rfl
@[simp] theorem clampConfidence_params (s : State) : (s.clampConfidence).params = s.params := rfl
@[simp] theorem clampConfidence_map (s : State) : (s.clampConfidence).map = s.map := rfl
@[simp] theorem clampConfidence_intake (s : State) : (s.clampConfidence).intake = s.intake := rfl
@[simp] theorem clampConfidence_conv (s : State) : (s.clampConfidence).conv = s.conv := rfl
@[simp] theorem clampConfidence_store (s : State) : (s.clampConfidence).store = s.store := rfl
@[simp] theorem clampConfidence_window (s : State) : (s.clampConfidence).window = s.window := rfl
@[simp] theorem clampConfidence_profiles (s : State) : (s.clampConfidence).profiles = s.profiles := rfl
@[simp] theorem clampConfidence_members (s : State) : (s.clampConfidence).members = s.members := rfl
@[simp] theorem clampConfidence_composer (s : State) : (s.clampConfidence).composer = s.composer := rfl
@[simp] theorem clampConfidence_egress (s : State) : (s.clampConfidence).egress = s.egress := rfl
@[simp] theorem clampConfidence_mgmt (s : State) : (s.clampConfidence).mgmt = s.mgmt := rfl
@[simp] theorem clampConfidence_free (s : State) : (s.clampConfidence).free = s.free := rfl
@[simp] theorem clampConfidence_pending (s : State) : (s.clampConfidence).pending = s.pending := rfl

/-! ### State.chargeMisses -/

@[simp] theorem chargeMisses_tru (s : State) (m : CtxSet) : (s.chargeMisses m).tru = s.tru := rfl
@[simp] theorem chargeMisses_params (s : State) (m : CtxSet) : (s.chargeMisses m).params = s.params := rfl
@[simp] theorem chargeMisses_map (s : State) (m : CtxSet) : (s.chargeMisses m).map = s.map := rfl
@[simp] theorem chargeMisses_intake (s : State) (m : CtxSet) : (s.chargeMisses m).intake = s.intake := rfl
@[simp] theorem chargeMisses_conv (s : State) (m : CtxSet) : (s.chargeMisses m).conv = s.conv := rfl
@[simp] theorem chargeMisses_store (s : State) (m : CtxSet) : (s.chargeMisses m).store = s.store := rfl
@[simp] theorem chargeMisses_window (s : State) (m : CtxSet) : (s.chargeMisses m).window = s.window := rfl
@[simp] theorem chargeMisses_profiles (s : State) (m : CtxSet) : (s.chargeMisses m).profiles = s.profiles := rfl
@[simp] theorem chargeMisses_members (s : State) (m : CtxSet) : (s.chargeMisses m).members = s.members := rfl
@[simp] theorem chargeMisses_composer (s : State) (m : CtxSet) : (s.chargeMisses m).composer = s.composer := rfl
@[simp] theorem chargeMisses_egress (s : State) (m : CtxSet) : (s.chargeMisses m).egress = s.egress := rfl
@[simp] theorem chargeMisses_mgmt (s : State) (m : CtxSet) : (s.chargeMisses m).mgmt = s.mgmt := rfl
@[simp] theorem chargeMisses_free (s : State) (m : CtxSet) : (s.chargeMisses m).free = s.free := rfl
@[simp] theorem chargeMisses_pending (s : State) (m : CtxSet) : (s.chargeMisses m).pending = s.pending := rfl

/-! ### State.bumpCtx -/

@[simp] theorem bumpCtx_tru (s : State) (k : Nat) (c : CtxCount) : (s.bumpCtx k c).tru = s.tru := rfl
@[simp] theorem bumpCtx_params (s : State) (k : Nat) (c : CtxCount) : (s.bumpCtx k c).params = s.params := rfl
@[simp] theorem bumpCtx_map (s : State) (k : Nat) (c : CtxCount) : (s.bumpCtx k c).map = s.map := rfl
@[simp] theorem bumpCtx_intake (s : State) (k : Nat) (c : CtxCount) : (s.bumpCtx k c).intake = s.intake := rfl
@[simp] theorem bumpCtx_conv (s : State) (k : Nat) (c : CtxCount) : (s.bumpCtx k c).conv = s.conv := rfl
@[simp] theorem bumpCtx_store (s : State) (k : Nat) (c : CtxCount) : (s.bumpCtx k c).store = s.store := rfl
@[simp] theorem bumpCtx_window (s : State) (k : Nat) (c : CtxCount) : (s.bumpCtx k c).window = s.window := rfl
@[simp] theorem bumpCtx_profiles (s : State) (k : Nat) (c : CtxCount) : (s.bumpCtx k c).profiles = s.profiles := rfl
@[simp] theorem bumpCtx_members (s : State) (k : Nat) (c : CtxCount) : (s.bumpCtx k c).members = s.members := rfl
@[simp] theorem bumpCtx_composer (s : State) (k : Nat) (c : CtxCount) : (s.bumpCtx k c).composer = s.composer := rfl
@[simp] theorem bumpCtx_egress (s : State) (k : Nat) (c : CtxCount) : (s.bumpCtx k c).egress = s.egress := rfl
@[simp] theorem bumpCtx_mgmt (s : State) (k : Nat) (c : CtxCount) : (s.bumpCtx k c).mgmt = s.mgmt := rfl
@[simp] theorem bumpCtx_free (s : State) (k : Nat) (c : CtxCount) : (s.bumpCtx k c).free = s.free := rfl
@[simp] theorem bumpCtx_pending (s : State) (k : Nat) (c : CtxCount) : (s.bumpCtx k c).pending = s.pending := rfl

/-! ### State.countClose -/

@[simp] theorem countClose_tru (s : State) (c : Cause) : (s.countClose c).tru = s.tru := rfl
@[simp] theorem countClose_params (s : State) (c : Cause) : (s.countClose c).params = s.params := rfl
@[simp] theorem countClose_map (s : State) (c : Cause) : (s.countClose c).map = s.map := rfl
@[simp] theorem countClose_ctxs (s : State) (c : Cause) : (s.countClose c).ctxs = s.ctxs := rfl
@[simp] theorem countClose_intake (s : State) (c : Cause) : (s.countClose c).intake = s.intake := rfl
@[simp] theorem countClose_conv (s : State) (c : Cause) : (s.countClose c).conv = s.conv := rfl
@[simp] theorem countClose_window (s : State) (c : Cause) : (s.countClose c).window = s.window := rfl
@[simp] theorem countClose_profiles (s : State) (c : Cause) : (s.countClose c).profiles = s.profiles := rfl
@[simp] theorem countClose_members (s : State) (c : Cause) : (s.countClose c).members = s.members := rfl
@[simp] theorem countClose_composer (s : State) (c : Cause) : (s.countClose c).composer = s.composer := rfl
@[simp] theorem countClose_egress (s : State) (c : Cause) : (s.countClose c).egress = s.egress := rfl
@[simp] theorem countClose_mgmt (s : State) (c : Cause) : (s.countClose c).mgmt = s.mgmt := rfl
@[simp] theorem countClose_free (s : State) (c : Cause) : (s.countClose c).free = s.free := rfl
@[simp] theorem countClose_pending (s : State) (c : Cause) : (s.countClose c).pending = s.pending := rfl
@[simp] theorem countClose_store_ring (s : State) (c : Cause) : (s.countClose c).store.ring = s.store.ring := rfl
@[simp] theorem countClose_store_pool (s : State) (c : Cause) : (s.countClose c).store.pool = s.store.pool := rfl
@[simp] theorem countClose_store_freeList (s : State) (c : Cause) : (s.countClose c).store.freeList = s.store.freeList := rfl
@[simp] theorem countClose_store_hLow (s : State) (c : Cause) : (s.countClose c).store.hLow = s.store.hLow := rfl
@[simp] theorem countClose_store_floor (s : State) (c : Cause) : (s.countClose c).store.floor = s.store.floor := rfl
@[simp] theorem countClose_store_composed (s : State) (c : Cause) : (s.countClose c).store.composed = s.store.composed := rfl
@[simp] theorem countClose_store_lowestFree (s : State) (c : Cause) : (s.countClose c).store.lowestFree = s.store.lowestFree := rfl
@[simp] theorem countClose_store_poolPressure (s : State) (c : Cause) : (s.countClose c).store.poolPressure = s.store.poolPressure := rfl
@[simp] theorem countClose_store_ringForced (s : State) (c : Cause) : (s.countClose c).store.ringForced = s.store.ringForced := rfl
@[simp] theorem countClose_store_scrubbing (s : State) (c : Cause) : (s.countClose c).store.scrubbing = s.store.scrubbing := rfl
@[simp] theorem countClose_store_saturatedCells (s : State) (c : Cause) : (s.countClose c).store.saturatedCells = s.store.saturatedCells := rfl

/-! ### State.setFloor -/

@[simp] theorem setFloor_tru (s : State) (f : Nat) : (s.setFloor f).tru = s.tru := rfl
@[simp] theorem setFloor_params (s : State) (f : Nat) : (s.setFloor f).params = s.params := rfl
@[simp] theorem setFloor_map (s : State) (f : Nat) : (s.setFloor f).map = s.map := rfl
@[simp] theorem setFloor_ctxs (s : State) (f : Nat) : (s.setFloor f).ctxs = s.ctxs := rfl
@[simp] theorem setFloor_intake (s : State) (f : Nat) : (s.setFloor f).intake = s.intake := rfl
@[simp] theorem setFloor_conv (s : State) (f : Nat) : (s.setFloor f).conv = s.conv := rfl
@[simp] theorem setFloor_window (s : State) (f : Nat) : (s.setFloor f).window = s.window := rfl
@[simp] theorem setFloor_profiles (s : State) (f : Nat) : (s.setFloor f).profiles = s.profiles := rfl
@[simp] theorem setFloor_members (s : State) (f : Nat) : (s.setFloor f).members = s.members := rfl
@[simp] theorem setFloor_composer (s : State) (f : Nat) : (s.setFloor f).composer = s.composer := rfl
@[simp] theorem setFloor_egress (s : State) (f : Nat) : (s.setFloor f).egress = s.egress := rfl
@[simp] theorem setFloor_mgmt (s : State) (f : Nat) : (s.setFloor f).mgmt = s.mgmt := rfl
@[simp] theorem setFloor_free (s : State) (f : Nat) : (s.setFloor f).free = s.free := rfl
@[simp] theorem setFloor_pending (s : State) (f : Nat) : (s.setFloor f).pending = s.pending := rfl
@[simp] theorem setFloor_store_ring (s : State) (f : Nat) : (s.setFloor f).store.ring = s.store.ring := rfl
@[simp] theorem setFloor_store_pool (s : State) (f : Nat) : (s.setFloor f).store.pool = s.store.pool := rfl
@[simp] theorem setFloor_store_freeList (s : State) (f : Nat) : (s.setFloor f).store.freeList = s.store.freeList := rfl
@[simp] theorem setFloor_store_hLow (s : State) (f : Nat) : (s.setFloor f).store.hLow = s.store.hLow := rfl
@[simp] theorem setFloor_store_closeCounts (s : State) (f : Nat) : (s.setFloor f).store.closeCounts = s.store.closeCounts := rfl
@[simp] theorem setFloor_store_composed (s : State) (f : Nat) : (s.setFloor f).store.composed = s.store.composed := rfl
@[simp] theorem setFloor_store_lowestFree (s : State) (f : Nat) : (s.setFloor f).store.lowestFree = s.store.lowestFree := rfl
@[simp] theorem setFloor_store_poolPressure (s : State) (f : Nat) : (s.setFloor f).store.poolPressure = s.store.poolPressure := rfl
@[simp] theorem setFloor_store_ringForced (s : State) (f : Nat) : (s.setFloor f).store.ringForced = s.store.ringForced := rfl
@[simp] theorem setFloor_store_scrubbing (s : State) (f : Nat) : (s.setFloor f).store.scrubbing = s.store.scrubbing := rfl
@[simp] theorem setFloor_store_saturatedCells (s : State) (f : Nat) : (s.setFloor f).store.saturatedCells = s.store.saturatedCells := rfl

/-! ### State.advanceLow -/

@[simp] theorem advanceLow_tru (s : State) : (s.advanceLow).tru = s.tru := rfl
@[simp] theorem advanceLow_params (s : State) : (s.advanceLow).params = s.params := rfl
@[simp] theorem advanceLow_map (s : State) : (s.advanceLow).map = s.map := rfl
@[simp] theorem advanceLow_ctxs (s : State) : (s.advanceLow).ctxs = s.ctxs := rfl
@[simp] theorem advanceLow_intake (s : State) : (s.advanceLow).intake = s.intake := rfl
@[simp] theorem advanceLow_conv (s : State) : (s.advanceLow).conv = s.conv := rfl
@[simp] theorem advanceLow_window (s : State) : (s.advanceLow).window = s.window := rfl
@[simp] theorem advanceLow_profiles (s : State) : (s.advanceLow).profiles = s.profiles := rfl
@[simp] theorem advanceLow_members (s : State) : (s.advanceLow).members = s.members := rfl
@[simp] theorem advanceLow_composer (s : State) : (s.advanceLow).composer = s.composer := rfl
@[simp] theorem advanceLow_egress (s : State) : (s.advanceLow).egress = s.egress := rfl
@[simp] theorem advanceLow_mgmt (s : State) : (s.advanceLow).mgmt = s.mgmt := rfl
@[simp] theorem advanceLow_free (s : State) : (s.advanceLow).free = s.free := rfl
@[simp] theorem advanceLow_pending (s : State) : (s.advanceLow).pending = s.pending := rfl
@[simp] theorem advanceLow_store_ring (s : State) : (s.advanceLow).store.ring = s.store.ring := rfl
@[simp] theorem advanceLow_store_pool (s : State) : (s.advanceLow).store.pool = s.store.pool := rfl
@[simp] theorem advanceLow_store_freeList (s : State) : (s.advanceLow).store.freeList = s.store.freeList := rfl
@[simp] theorem advanceLow_store_floor (s : State) : (s.advanceLow).store.floor = s.store.floor := rfl
@[simp] theorem advanceLow_store_closeCounts (s : State) : (s.advanceLow).store.closeCounts = s.store.closeCounts := rfl
@[simp] theorem advanceLow_store_composed (s : State) : (s.advanceLow).store.composed = s.store.composed := rfl
@[simp] theorem advanceLow_store_lowestFree (s : State) : (s.advanceLow).store.lowestFree = s.store.lowestFree := rfl
@[simp] theorem advanceLow_store_poolPressure (s : State) : (s.advanceLow).store.poolPressure = s.store.poolPressure := rfl
@[simp] theorem advanceLow_store_ringForced (s : State) : (s.advanceLow).store.ringForced = s.store.ringForced := rfl
@[simp] theorem advanceLow_store_scrubbing (s : State) : (s.advanceLow).store.scrubbing = s.store.scrubbing := rfl
@[simp] theorem advanceLow_store_saturatedCells (s : State) : (s.advanceLow).store.saturatedCells = s.store.saturatedCells := rfl

/-! ### State.intakeEnds -/

@[simp] theorem intakeEnds_tru (s : State) (c : IntakeCount) : (s.intakeEnds c).tru = s.tru := rfl
@[simp] theorem intakeEnds_params (s : State) (c : IntakeCount) : (s.intakeEnds c).params = s.params := rfl
@[simp] theorem intakeEnds_map (s : State) (c : IntakeCount) : (s.intakeEnds c).map = s.map := rfl
@[simp] theorem intakeEnds_ctxs (s : State) (c : IntakeCount) : (s.intakeEnds c).ctxs = s.ctxs := rfl
@[simp] theorem intakeEnds_conv (s : State) (c : IntakeCount) : (s.intakeEnds c).conv = s.conv := rfl
@[simp] theorem intakeEnds_store (s : State) (c : IntakeCount) : (s.intakeEnds c).store = s.store := rfl
@[simp] theorem intakeEnds_window (s : State) (c : IntakeCount) : (s.intakeEnds c).window = s.window := rfl
@[simp] theorem intakeEnds_profiles (s : State) (c : IntakeCount) : (s.intakeEnds c).profiles = s.profiles := rfl
@[simp] theorem intakeEnds_members (s : State) (c : IntakeCount) : (s.intakeEnds c).members = s.members := rfl
@[simp] theorem intakeEnds_composer (s : State) (c : IntakeCount) : (s.intakeEnds c).composer = s.composer := rfl
@[simp] theorem intakeEnds_egress (s : State) (c : IntakeCount) : (s.intakeEnds c).egress = s.egress := rfl
@[simp] theorem intakeEnds_mgmt (s : State) (c : IntakeCount) : (s.intakeEnds c).mgmt = s.mgmt := rfl
@[simp] theorem intakeEnds_free (s : State) (c : IntakeCount) : (s.intakeEnds c).free = s.free := rfl
@[simp] theorem intakeEnds_pending (s : State) (c : IntakeCount) : (s.intakeEnds c).pending = s.pending := rfl
@[simp] theorem intakeEnds_intake_linkA (s : State) (c : IntakeCount) : (s.intakeEnds c).intake.linkA = s.intake.linkA := rfl
@[simp] theorem intakeEnds_intake_linkB (s : State) (c : IntakeCount) : (s.intakeEnds c).intake.linkB = s.intake.linkB := rfl
@[simp] theorem intakeEnds_intake_preferred (s : State) (c : IntakeCount) : (s.intakeEnds c).intake.preferred = s.intake.preferred := rfl

/-! ### State.pushOutbound -/

@[simp] theorem pushOutbound_tru (s : State) (f : OutFrame) : (s.pushOutbound f).tru = s.tru := rfl
@[simp] theorem pushOutbound_params (s : State) (f : OutFrame) : (s.pushOutbound f).params = s.params := rfl
@[simp] theorem pushOutbound_map (s : State) (f : OutFrame) : (s.pushOutbound f).map = s.map := rfl
@[simp] theorem pushOutbound_ctxs (s : State) (f : OutFrame) : (s.pushOutbound f).ctxs = s.ctxs := rfl
@[simp] theorem pushOutbound_intake (s : State) (f : OutFrame) : (s.pushOutbound f).intake = s.intake := rfl
@[simp] theorem pushOutbound_conv (s : State) (f : OutFrame) : (s.pushOutbound f).conv = s.conv := rfl
@[simp] theorem pushOutbound_store (s : State) (f : OutFrame) : (s.pushOutbound f).store = s.store := rfl
@[simp] theorem pushOutbound_window (s : State) (f : OutFrame) : (s.pushOutbound f).window = s.window := rfl
@[simp] theorem pushOutbound_profiles (s : State) (f : OutFrame) : (s.pushOutbound f).profiles = s.profiles := rfl
@[simp] theorem pushOutbound_members (s : State) (f : OutFrame) : (s.pushOutbound f).members = s.members := rfl
@[simp] theorem pushOutbound_egress (s : State) (f : OutFrame) : (s.pushOutbound f).egress = s.egress := rfl
@[simp] theorem pushOutbound_mgmt (s : State) (f : OutFrame) : (s.pushOutbound f).mgmt = s.mgmt := rfl
@[simp] theorem pushOutbound_free (s : State) (f : OutFrame) : (s.pushOutbound f).free = s.free := rfl
@[simp] theorem pushOutbound_pending (s : State) (f : OutFrame) : (s.pushOutbound f).pending = s.pending := rfl
@[simp] theorem pushOutbound_composer_working (s : State) (f : OutFrame) : (s.pushOutbound f).composer.working = s.composer.working := rfl
@[simp] theorem pushOutbound_composer_holding (s : State) (f : OutFrame) : (s.pushOutbound f).composer.holding = s.composer.holding := rfl
@[simp] theorem pushOutbound_composer_flushBusy (s : State) (f : OutFrame) : (s.pushOutbound f).composer.flushBusy = s.composer.flushBusy := rfl
@[simp] theorem pushOutbound_composer_counts (s : State) (f : OutFrame) : (s.pushOutbound f).composer.counts = s.composer.counts := rfl

/-! ### State.countAnswer -/

@[simp] theorem countAnswer_tru (s : State) (r : Reply) : (s.countAnswer r).tru = s.tru := rfl
@[simp] theorem countAnswer_params (s : State) (r : Reply) : (s.countAnswer r).params = s.params := rfl
@[simp] theorem countAnswer_map (s : State) (r : Reply) : (s.countAnswer r).map = s.map := rfl
@[simp] theorem countAnswer_ctxs (s : State) (r : Reply) : (s.countAnswer r).ctxs = s.ctxs := rfl
@[simp] theorem countAnswer_intake (s : State) (r : Reply) : (s.countAnswer r).intake = s.intake := rfl
@[simp] theorem countAnswer_conv (s : State) (r : Reply) : (s.countAnswer r).conv = s.conv := rfl
@[simp] theorem countAnswer_store (s : State) (r : Reply) : (s.countAnswer r).store = s.store := rfl
@[simp] theorem countAnswer_window (s : State) (r : Reply) : (s.countAnswer r).window = s.window := rfl
@[simp] theorem countAnswer_profiles (s : State) (r : Reply) : (s.countAnswer r).profiles = s.profiles := rfl
@[simp] theorem countAnswer_members (s : State) (r : Reply) : (s.countAnswer r).members = s.members := rfl
@[simp] theorem countAnswer_composer (s : State) (r : Reply) : (s.countAnswer r).composer = s.composer := rfl
@[simp] theorem countAnswer_egress (s : State) (r : Reply) : (s.countAnswer r).egress = s.egress := rfl
@[simp] theorem countAnswer_free (s : State) (r : Reply) : (s.countAnswer r).free = s.free := rfl
@[simp] theorem countAnswer_pending (s : State) (r : Reply) : (s.countAnswer r).pending = s.pending := rfl
@[simp] theorem countAnswer_mgmt_engine (s : State) (r : Reply) : (s.countAnswer r).mgmt.engine = s.mgmt.engine := rfl
@[simp] theorem countAnswer_mgmt_exec (s : State) (r : Reply) : (s.countAnswer r).mgmt.exec = s.mgmt.exec := rfl
@[simp] theorem countAnswer_mgmt_queue (s : State) (r : Reply) : (s.countAnswer r).mgmt.queue = s.mgmt.queue := rfl
@[simp] theorem countAnswer_mgmt_deferredReset (s : State) (r : Reply) : (s.countAnswer r).mgmt.deferredReset = s.mgmt.deferredReset := rfl
@[simp] theorem countAnswer_mgmt_deferredFlush (s : State) (r : Reply) : (s.countAnswer r).mgmt.deferredFlush = s.mgmt.deferredFlush := rfl
@[simp] theorem countAnswer_mgmt_formed (s : State) (r : Reply) : (s.countAnswer r).mgmt.formed = s.mgmt.formed := rfl
@[simp] theorem countAnswer_mgmt_managers (s : State) (r : Reply) : (s.countAnswer r).mgmt.managers = s.mgmt.managers := rfl
@[simp] theorem countAnswer_mgmt_access (s : State) (r : Reply) : (s.countAnswer r).mgmt.access = s.mgmt.access := rfl
@[simp] theorem countAnswer_mgmt_lock (s : State) (r : Reply) : (s.countAnswer r).mgmt.lock = s.mgmt.lock := rfl
@[simp] theorem countAnswer_mgmt_pendingMap (s : State) (r : Reply) : (s.countAnswer r).mgmt.pendingMap = s.mgmt.pendingMap := rfl

/-! ### State.queueTakes -/

@[simp] theorem queueTakes_tru (s : State) (f : OutFrame) : (s.queueTakes f).tru = s.tru := rfl
@[simp] theorem queueTakes_params (s : State) (f : OutFrame) : (s.queueTakes f).params = s.params := rfl
@[simp] theorem queueTakes_map (s : State) (f : OutFrame) : (s.queueTakes f).map = s.map := rfl
@[simp] theorem queueTakes_ctxs (s : State) (f : OutFrame) : (s.queueTakes f).ctxs = s.ctxs := rfl
@[simp] theorem queueTakes_intake (s : State) (f : OutFrame) : (s.queueTakes f).intake = s.intake := rfl
@[simp] theorem queueTakes_conv (s : State) (f : OutFrame) : (s.queueTakes f).conv = s.conv := rfl
@[simp] theorem queueTakes_store (s : State) (f : OutFrame) : (s.queueTakes f).store = s.store := rfl
@[simp] theorem queueTakes_window (s : State) (f : OutFrame) : (s.queueTakes f).window = s.window := rfl
@[simp] theorem queueTakes_profiles (s : State) (f : OutFrame) : (s.queueTakes f).profiles = s.profiles := rfl
@[simp] theorem queueTakes_members (s : State) (f : OutFrame) : (s.queueTakes f).members = s.members := rfl
@[simp] theorem queueTakes_composer (s : State) (f : OutFrame) : (s.queueTakes f).composer = s.composer := rfl
@[simp] theorem queueTakes_mgmt (s : State) (f : OutFrame) : (s.queueTakes f).mgmt = s.mgmt := rfl
@[simp] theorem queueTakes_free (s : State) (f : OutFrame) : (s.queueTakes f).free = s.free := rfl
@[simp] theorem queueTakes_pending (s : State) (f : OutFrame) : (s.queueTakes f).pending = s.pending := rfl

/-! ### The ingress links -/

theorem setLinkIn_only (s : State) (l : Link) (x : LinkIn) :
    s.setLinkIn l x = { s with intake := (s.setLinkIn l x).intake } := by cases l <;> rfl

@[simp] theorem setLinkIn_tru (s : State) (l : Link) (x : LinkIn) : (s.setLinkIn l x).tru = s.tru := by cases l <;> rfl
@[simp] theorem setLinkIn_params (s : State) (l : Link) (x : LinkIn) : (s.setLinkIn l x).params = s.params := by cases l <;> rfl
@[simp] theorem setLinkIn_map (s : State) (l : Link) (x : LinkIn) : (s.setLinkIn l x).map = s.map := by cases l <;> rfl
@[simp] theorem setLinkIn_ctxs (s : State) (l : Link) (x : LinkIn) : (s.setLinkIn l x).ctxs = s.ctxs := by cases l <;> rfl
@[simp] theorem setLinkIn_conv (s : State) (l : Link) (x : LinkIn) : (s.setLinkIn l x).conv = s.conv := by cases l <;> rfl
@[simp] theorem setLinkIn_store (s : State) (l : Link) (x : LinkIn) : (s.setLinkIn l x).store = s.store := by cases l <;> rfl
@[simp] theorem setLinkIn_window (s : State) (l : Link) (x : LinkIn) : (s.setLinkIn l x).window = s.window := by cases l <;> rfl
@[simp] theorem setLinkIn_profiles (s : State) (l : Link) (x : LinkIn) : (s.setLinkIn l x).profiles = s.profiles := by cases l <;> rfl
@[simp] theorem setLinkIn_members (s : State) (l : Link) (x : LinkIn) : (s.setLinkIn l x).members = s.members := by cases l <;> rfl
@[simp] theorem setLinkIn_composer (s : State) (l : Link) (x : LinkIn) : (s.setLinkIn l x).composer = s.composer := by cases l <;> rfl
@[simp] theorem setLinkIn_egress (s : State) (l : Link) (x : LinkIn) : (s.setLinkIn l x).egress = s.egress := by cases l <;> rfl
@[simp] theorem setLinkIn_mgmt (s : State) (l : Link) (x : LinkIn) : (s.setLinkIn l x).mgmt = s.mgmt := by cases l <;> rfl
@[simp] theorem setLinkIn_free (s : State) (l : Link) (x : LinkIn) : (s.setLinkIn l x).free = s.free := by cases l <;> rfl
@[simp] theorem setLinkIn_pending (s : State) (l : Link) (x : LinkIn) : (s.setLinkIn l x).pending = s.pending := by cases l <;> rfl
@[simp] theorem setLinkIn_intake_preferred (s : State) (l : Link) (x : LinkIn) : (s.setLinkIn l x).intake.preferred = s.intake.preferred := by cases l <;> rfl
@[simp] theorem setLinkIn_intake_busy (s : State) (l : Link) (x : LinkIn) : (s.setLinkIn l x).intake.busy = s.intake.busy := by cases l <;> rfl
@[simp] theorem setLinkIn_intake_counts (s : State) (l : Link) (x : LinkIn) : (s.setLinkIn l x).intake.counts = s.intake.counts := by cases l <;> rfl
@[simp] theorem linkIn_setLinkIn (s : State) (l : Link) (x : LinkIn) : (s.setLinkIn l x).linkIn l = x := by cases l <;> rfl
theorem linkIn_setLinkIn_other (s : State) (l m : Link) (x : LinkIn) (h : m ≠ l) :
    (s.setLinkIn l x).linkIn m = s.linkIn m := by cases l <;> cases m <;> first | rfl | exact absurd rfl h

/-! ### The written entries -/

theorem ctx_setCtx {s : State} (h : Tbl.wf Ctx.zero s.ctxs = true) (i : Nat) (x : Ctx) (k : Nat) :
    (s.setCtx i x).ctx k = if i = k then x else s.ctx k := get_set h i x k

theorem way_setWay {s : State} (h : Tbl.wf none s.map = true) (i : Nat) (x : Option Binding) (k : Nat) :
    (s.setWay i x).way k = if i = k then x else s.way k := get_set h i x k

theorem conversion_setConversion {s : State} (h : Tbl.wf Conversion.zero s.conv = true) (i : Nat) (x : Conversion) (k : Nat) :
    (s.setConversion i x).conversion k = if i = k then x else s.conversion k := get_set h i x k

theorem profile_setProfile {s : State} (h : Tbl.wf Profile.zero s.profiles = true) (i : Nat) (x : Profile) (k : Nat) :
    (s.setProfile i x).profile k = if i = k then x else s.profile k := get_set h i x k

theorem member_setMember {s : State} (h : Tbl.wf 0 s.members = true) (i : Nat) (x : Nat) (k : Nat) :
    (s.setMember i x).member k = if i = k then x else s.member k := get_set h i x k

theorem manager_setManager {s : State} (h : Tbl.wf Manager.zero s.mgmt.managers = true) (i : Nat) (x : Manager) (k : Nat) :
    (s.setManager i x).manager k = if i = k then x else s.manager k := get_set h i x k

theorem access_setAccess {s : State} (h : Tbl.wf Access.zero s.mgmt.access = true) (i : Nat) (x : Access) (k : Nat) :
    (s.setAccess i x).access k = if i = k then x else s.access k := get_set h i x k

theorem holding_setHolding {s : State} (h : Tbl.wf Holding.empty s.composer.holding = true) (i : Nat) (x : Holding) (k : Nat) :
    (s.setHolding i x).holding k = if i = k then x else s.holding k := get_set h i x k

/-- The free list right after reset (R86); cite this, so that nothing evaluates the list. -/
theorem reset_freeList : State.reset.store.freeList = List.range 4096 := by simp only [State.reset]

end Sys2Proof.Laws
end

