-- ==== Sys2Proof/Laws/Handover.lean ====
section
/-! SUPPORT. What handing frames to the egress queue can change: nothing but the way out (State.aside), and the engine state
where a drain ends. -/

namespace Sys2Proof.Laws

open Sys2Proof.Machine

/-! ### What settling leaves alone -/

/-- Two states agree but for the way out, and in engine state and free counter. -/
def Agree (s t : State) : Prop := t.aside = s.aside ∧ t.mgmt.engine = s.mgmt.engine ∧ t.free = s.free

theorem Agree.refl (s : State) : Agree s s := ⟨rfl, rfl, rfl⟩

theorem Agree.trans {s t u : State} (h : Agree s t) (k : Agree t u) : Agree s u :=
  ⟨k.1.trans h.1, k.2.1.trans h.2.1, k.2.2.trans h.2.2⟩

theorem queueTakes_agree (s : State) (f : OutFrame) : Agree s (s.queueTakes f) := ⟨rfl, rfl, rfl⟩

theorem formDeferred_agree (s : State) (c : DirectiveCode) (d : Deferred) : Agree s (s.formDeferred c d) :=
  ⟨rfl, rfl, rfl⟩

theorem flushEnded_agree (s : State) : Agree s s.flushEnded := by
  unfold State.flushEnded
  dsimp only
  split <;> exact ⟨rfl, rfl, rfl⟩

theorem offerAnswer_agree (s : State) (a : OutFrame) : Agree s (s.offerAnswer a) := by
  unfold State.offerAnswer
  split <;> exact ⟨rfl, rfl, rfl⟩

theorem takeOutbound_agree (s : State) (f : OutFrame) (rest : List OutFrame) : Agree s (s.takeOutbound f rest) := by
  unfold State.takeOutbound
  dsimp only
  split
  · exact Agree.trans ⟨rfl, rfl, rfl⟩ (flushEnded_agree _)
  · exact ⟨rfl, rfl, rfl⟩

theorem composerOffer_agree {s t : State} (h : s.composerOffer = some t) : Agree s t := by
  unfold State.composerOffer at h
  split at h
  · cases h
  · split at h
    · cases h; exact takeOutbound_agree _ _ _
    · split at h
      · cases h
      · cases h; exact ⟨rfl, rfl, rfl⟩

/-- One thing due between the producers and the queue changes the way out alone. -/
theorem egressStep_agree {s t : State} (h : s.egressStep = some t) : Agree s t := by
  unfold State.egressStep at h
  split at h
  · cases h; exact ⟨rfl, rfl, rfl⟩
  · split at h
    · exact composerOffer_agree h
    · split at h
      · cases h; exact ⟨rfl, rfl, rfl⟩
      · exact composerOffer_agree h
    · split at h
      · exact composerOffer_agree h
      · cases h; exact Agree.trans ⟨rfl, rfl, rfl⟩ (offerAnswer_agree _ _)

theorem settleSteps_agree (n : Nat) (s : State) : Agree s (State.settleSteps n s) := by
  induction n generalizing s with
  | zero => exact Agree.refl s
  | succ n ih =>
    unfold State.settleSteps
    split
    · exact Agree.refl s
    · rename_i t h
      exact (egressStep_agree h).trans (ih t)

/-- Settling changes the way out alone. -/
theorem settle_agree (s : State) : Agree s s.settle := settleSteps_agree _ s

theorem judgeDrain_aside (s : State) : s.judgeDrain.aside = s.aside := by
  unfold State.judgeDrain; split <;> rfl

theorem judgeDrain_free (s : State) : s.judgeDrain.free = s.free := by
  unfold State.judgeDrain; split <;> rfl

/-- The judgement of the drain's end leaves the engine state, or moves DRAINING to PAUSED (R164). -/
theorem judgeDrain_engine (s : State) : s.judgeDrain.mgmt.engine = s.mgmt.engine
    ∨ (s.mgmt.engine = .draining ∧ s.judgeDrain.mgmt.engine = .paused) := by
  unfold State.judgeDrain
  split
  · rename_i h; exact .inr ⟨h.1, rfl⟩
  · exact .inl rfl

theorem settleAndJudge_aside (s : State) : s.settleAndJudge.aside = s.aside := by
  unfold State.settleAndJudge
  rw [judgeDrain_aside, (settle_agree s).1]

theorem settleAndJudge_free (s : State) : s.settleAndJudge.free = s.free := by
  unfold State.settleAndJudge
  rw [judgeDrain_free, (settle_agree s).2.2]

theorem settleAndJudge_engine (s : State) : s.settleAndJudge.mgmt.engine = s.mgmt.engine
    ∨ (s.mgmt.engine = .draining ∧ s.settleAndJudge.mgmt.engine = .paused) := by
  have h := judgeDrain_engine s.settle
  rw [(settle_agree s).2.1] at h
  exact h

/-! ### Reading a state through what is set aside -/

theorem aside_tru {s t : State} (h : t.aside = s.aside) : t.tru = s.tru := (congrArg State.tru h :)
theorem aside_params {s t : State} (h : t.aside = s.aside) : t.params = s.params := (congrArg State.params h :)
theorem aside_map {s t : State} (h : t.aside = s.aside) : t.map = s.map := (congrArg State.map h :)
theorem aside_ctxs {s t : State} (h : t.aside = s.aside) : t.ctxs = s.ctxs := (congrArg State.ctxs h :)
theorem aside_intake {s t : State} (h : t.aside = s.aside) : t.intake = s.intake := (congrArg State.intake h :)
theorem aside_conv {s t : State} (h : t.aside = s.aside) : t.conv = s.conv := (congrArg State.conv h :)
theorem aside_store {s t : State} (h : t.aside = s.aside) : t.store = s.store := (congrArg State.store h :)
theorem aside_window {s t : State} (h : t.aside = s.aside) : t.window = s.window := (congrArg State.window h :)
theorem aside_profiles {s t : State} (h : t.aside = s.aside) : t.profiles = s.profiles := (congrArg State.profiles h :)
theorem aside_members {s t : State} (h : t.aside = s.aside) : t.members = s.members := (congrArg State.members h :)
theorem aside_pending {s t : State} (h : t.aside = s.aside) : t.pending = s.pending := (congrArg State.pending h :)
theorem aside_working {s t : State} (h : t.aside = s.aside) : t.composer.working = s.composer.working :=
  (congrArg (fun x : State => x.composer.working) h :)
theorem aside_holding {s t : State} (h : t.aside = s.aside) : t.composer.holding = s.composer.holding :=
  (congrArg (fun x : State => x.composer.holding) h :)
theorem aside_queue {s t : State} (h : t.aside = s.aside) : t.mgmt.queue = s.mgmt.queue :=
  (congrArg (fun x : State => x.mgmt.queue) h :)
theorem aside_managers {s t : State} (h : t.aside = s.aside) : t.mgmt.managers = s.mgmt.managers :=
  (congrArg (fun x : State => x.mgmt.managers) h :)
theorem aside_access {s t : State} (h : t.aside = s.aside) : t.mgmt.access = s.mgmt.access :=
  (congrArg (fun x : State => x.mgmt.access) h :)
theorem aside_lock {s t : State} (h : t.aside = s.aside) : t.mgmt.lock = s.mgmt.lock :=
  (congrArg (fun x : State => x.mgmt.lock) h :)
theorem aside_pendingMap {s t : State} (h : t.aside = s.aside) : t.mgmt.pendingMap = s.mgmt.pendingMap :=
  (congrArg (fun x : State => x.mgmt.pendingMap) h :)
theorem aside_deferredReset {s t : State} (h : t.aside = s.aside) : t.mgmt.deferredReset = s.mgmt.deferredReset :=
  (congrArg (fun x : State => x.mgmt.deferredReset) h :)

/-! ### An answer stays on its way -/

theorem holds_queueTakes {s : State} {f a : OutFrame} (ha : a.cls = .high) (h : s.holdsAnswer a)
    (hw : s.mgmt.exec ≠ .waiting a) : (s.queueTakes f).holdsAnswer a := by
  rcases h with ⟨e, he, rfl⟩ | ⟨p, hp⟩ | h
  · refine .inl ⟨e, ?_, rfl⟩
    simp only [State.queueTakes, Egress.takeFrame, Egress.enter]
    refine List.mem_append_left _ ?_
    split
    · exact he
    · exact (List.mem_eraseP_of_neg (by simp [ha])).2 he
  · refine .inr (.inl ⟨p, ?_⟩)
    simp only [State.queueTakes, Egress.takeFrame, Egress.enter]
    split
    · exact hp
    · exact hp
  · exact absurd h hw

theorem holds_takes_self (s : State) (a : OutFrame) (m : Mgmt) :
    ({ s.queueTakes a with mgmt := m } : State).holdsAnswer a :=
  .inl ⟨{ frame := a, enqueued := s.tru.osc }, by
    simp [State.queueTakes, Egress.takeFrame, Egress.enter], rfl⟩

/-- An offered answer is on its way. -/
theorem holds_offerAnswer (s : State) (a : OutFrame) : (s.offerAnswer a).holdsAnswer a := by
  unfold State.offerAnswer
  split
  · exact holds_takes_self s a _
  · exact .inr (.inr rfl)

theorem holds_of_eq {s t : State} {a : OutFrame} (h : s.holdsAnswer a) (hq : t.egress.queue = s.egress.queue)
    (hl : t.egress.link = s.egress.link) (he : t.mgmt.exec = s.mgmt.exec) : t.holdsAnswer a := by
  unfold State.holdsAnswer
  rw [hq, hl, he]; exact h

theorem flushEnded_egress (s : State) : s.flushEnded.egress = s.egress := by
  unfold State.flushEnded; dsimp only; split <;> rfl

theorem flushEnded_exec (s : State) : s.flushEnded.mgmt.exec = s.mgmt.exec := by
  unfold State.flushEnded; dsimp only; split <;> rfl

theorem holds_composerOffer {s t : State} {a : OutFrame} (ha : a.cls = .high) (h : s.holdsAnswer a)
    (hs : s.composerOffer = some t) : t.holdsAnswer a := by
  have key : ∀ f, s.mgmt.exec = .waiting a ∨ (s.queueTakes f).holdsAnswer a := fun f => by
    by_cases hw : s.mgmt.exec = .waiting a
    · exact .inl hw
    · exact .inr (holds_queueTakes ha h hw)
  unfold State.composerOffer at hs
  split at hs
  · cases hs
  · rename_i f rest _
    split at hs
    · cases hs
      have h2 : (s.takeOutbound f rest).mgmt.exec = s.mgmt.exec := by
        unfold State.takeOutbound
        dsimp only
        split
        · rw [flushEnded_exec]; rfl
        · rfl
      have h3 : (s.takeOutbound f rest).egress.queue = (s.queueTakes f).egress.queue
          ∧ (s.takeOutbound f rest).egress.link = (s.queueTakes f).egress.link := by
        unfold State.takeOutbound
        dsimp only
        split
        · rw [flushEnded_egress]; exact ⟨rfl, rfl⟩
        · exact ⟨rfl, rfl⟩
      rcases key f with hw | hq
      · exact .inr (.inr (h2.trans hw))
      · exact holds_of_eq hq h3.1 h3.2 h2
    · split at hs
      · cases hs
      · cases hs; exact holds_of_eq h rfl rfl rfl

/-- A selection takes the answer into transmission or leaves it in the queue. -/
theorem holds_select {s : State} {a : OutFrame} (ha : a.cls = .high) (h : s.holdsAnswer a)
    (hl : s.egress.link = .ready) :
    ({ s with egress := Egress.select s.params s.tru.osc s.egress } : State).holdsAnswer a := by
  rcases h with ⟨e, he, rfl⟩ | ⟨p, hp⟩ | h
  · unfold Egress.select
    split
    · exact .inl ⟨e, he, rfl⟩
    · rename_i i _
      split
      · exact .inl ⟨e, he, rfl⟩
      · rename_i c hc
        obtain ⟨j, hj, rfl⟩ := List.mem_iff_getElem.1 he
        rcases Nat.lt_trichotomy j i with hji | rfl | hij
        · refine .inl ⟨s.egress.queue[j], ?_, rfl⟩
          dsimp only
          refine List.mem_append_left _ (List.mem_map.2 ⟨s.egress.queue[j], ?_, ?_⟩)
          · exact List.mem_take_iff_getElem.2 ⟨j, by omega, rfl⟩
          · simp only [Entry.passedOver, Entry.effective, ha]
            split <;> simp_all
        · rw [List.getElem?_eq_getElem hj] at hc
          cases hc
          exact .inr (.inl ⟨_, rfl⟩)
        · refine .inl ⟨s.egress.queue[j], List.mem_append_right _ ?_, rfl⟩
          exact List.mem_drop_iff_getElem.2 ⟨j - (i + 1), by omega, by congr 1; omega⟩
  · rw [hl] at hp; cases hp
  · exact .inr (.inr h)

theorem holds_egressStep {s t : State} {a : OutFrame} (ha : a.cls = .high) (h : s.holdsAnswer a)
    (hs : s.egressStep = some t) : t.holdsAnswer a := by
  unfold State.egressStep at hs
  split at hs
  · rename_i hr
    cases hs; exact holds_select ha h hr.1
  · split at hs
    · exact holds_composerOffer ha h hs
    · rename_i b hb
      split at hs
      · cases hs
        by_cases hab : b = a
        · subst hab; exact holds_takes_self s b _
        · have hw : s.mgmt.exec ≠ .waiting a := by
            rw [hb]; intro hc; cases hc; exact hab rfl
          rcases holds_queueTakes (f := b) ha h hw with hq | hq | hq
          · exact .inl hq
          · exact .inr (.inl hq)
          · exact absurd hq hw
      · exact holds_composerOffer ha h hs
    · rename_i hi
      split at hs
      · exact holds_composerOffer ha h hs
      · rename_i b rest hf
        cases hs
        have hw : s.mgmt.exec ≠ .waiting a := by rw [hi]; intro hc; cases hc
        unfold State.offerAnswer
        split
        · rcases holds_queueTakes (f := b) ha h hw with hq | hq | hq
          · exact .inl hq
          · exact .inr (.inl hq)
          · exact absurd hq hw
        · rcases h with h | h | h
          · exact .inl h
          · exact .inr (.inl h)
          · exact absurd h hw

/-- Settling leaves an answer on its way. -/
theorem holds_settle {s : State} {a : OutFrame} (ha : a.cls = .high) (h : s.holdsAnswer a) :
    s.settle.holdsAnswer a := by
  unfold State.settle
  generalize 2 * s.composer.outbound.length + s.mgmt.formed.length + 8 = n
  induction n generalizing s with
  | zero => exact h
  | succ n ih =>
    unfold State.settleSteps
    split
    · exact h
    · rename_i t ht
      exact ih (holds_egressStep ha h ht)

theorem holds_settleAndJudge {s : State} {a : OutFrame} (ha : a.cls = .high) (h : s.holdsAnswer a) :
    s.settleAndJudge.holdsAnswer a := by
  have h2 := holds_settle ha h
  unfold State.settleAndJudge State.judgeDrain
  split
  · exact holds_of_eq h2 rfl rfl rfl
  · exact h2

/-! ### A state at rest -/

/-- With no frame to offer and no selection to make, nothing is due. -/
theorem egressStep_rest {s : State} (hl : s.egress.link ≠ .ready ∨ s.egress.queue = []) (ho : s.composer.outbound = [])
    (hf : s.mgmt.formed = [] ∨ s.mgmt.exec = .executing)
    (hw : ∀ a, s.mgmt.exec = .waiting a → s.egress.hasRoom = false) : s.egressStep = none := by
  unfold State.egressStep State.composerOffer
  rw [if_neg (by tauto), ho]
  split
  · rfl
  · rename_i a ha; rw [hw a ha]; rfl
  · rename_i he
    rcases hf with hf | hf
    · rw [hf]
    · rw [he] at hf; cases hf

theorem settleSteps_rest {s : State} (n : Nat) (h : s.egressStep = none) : State.settleSteps n s = s := by
  cases n with
  | zero => rfl
  | succ n => unfold State.settleSteps; rw [h]

theorem settle_rest {s : State} (hl : s.egress.link ≠ .ready ∨ s.egress.queue = []) (ho : s.composer.outbound = [])
    (hf : s.mgmt.formed = [] ∨ s.mgmt.exec = .executing)
    (hw : ∀ a, s.mgmt.exec = .waiting a → s.egress.hasRoom = false) : s.settle = s :=
  settleSteps_rest _ (egressStep_rest hl ho hf hw)

/-- The selection from a queue of one HIGH entry chooses it, and no limit is reached (R142, R144). -/
theorem select_one {x : Egress} {e : Entry} (p : Params) (osc : Nat) (hq : x.queue = [e]) (hc : e.frame.cls = .high) :
    x.select p osc = { x with queue := [], link := .sending e.frame false } := by
  have he : e.effective p osc = .high := by unfold Entry.effective; rw [hc]
  have hl : e.limited p osc = false := by unfold Entry.limited; rw [he]
  have hp : e.promoted p osc = false := by unfold Entry.promoted; rw [hc]; rfl
  have hi : choosePosition p osc [e] = some 0 := by
    unfold choosePosition highestClass
    simp [he, hl]
  unfold Egress.select
  rw [hq, hi]
  simp [hl, hp]

/-- At a READY link the one HIGH entry of the queue is chosen, and nothing else is due (R143). -/
theorem settle_selectsOne {s : State} {e : Entry} (hl : s.egress.link = .ready) (hq : s.egress.queue = [e])
    (hc : e.frame.cls = .high) (ho : s.composer.outbound = []) (hf : s.mgmt.formed = []) (hx : s.mgmt.exec = .idle) :
    s.settle = { s with egress := { s.egress with queue := [], link := .sending e.frame false } } := by
  have h : s.egressStep = some { s with egress := { s.egress with queue := [], link := .sending e.frame false } } := by
    unfold State.egressStep
    rw [if_pos ⟨hl, by rw [hq]; exact List.cons_ne_nil _ _⟩, select_one _ _ hq hc]
  unfold State.settle
  rw [show 2 * s.composer.outbound.length + s.mgmt.formed.length + 8
      = (2 * s.composer.outbound.length + s.mgmt.formed.length + 7) + 1 from rfl]
  unfold State.settleSteps
  rw [h]
  exact settleSteps_rest _ (egressStep_rest (.inr rfl) ho (.inl hf) (fun a ha => by
    have : s.mgmt.exec = .waiting a := ha
    rw [hx] at this; cases this))

theorem judgeDrain_rest {s : State} (h : ¬(s.mgmt.engine = .draining ∧ s.ringFree = true ∧ s.composerEmpty = true)) :
    s.judgeDrain = s := by
  unfold State.judgeDrain; rw [if_neg h]

end Sys2Proof.Laws
end

