-- ==== Sys2Proof/Laws/Directive.lean ====
section
/-! SUPPORT. The execution of a directive: once its work is known, the answer is on its way and nothing else changes. -/

namespace Sys2Proof.Laws

open Sys2Proof.Machine

theorem codeOf_codeByte (c : DirectiveCode) : codeOf (codeByte c) = some c := by cases c <;> decide

theorem formAnswer_cls (s : State) (w : Word) (t : Half) (b : Byte) (x : Reply) : (s.formAnswer w t b x).cls = .high := rfl

@[simp] theorem setExec_setExec (s : State) (a b : Execution) : (s.setExec a).setExec b = s.setExec b := rfl

theorem setExec_self {s : State} {e : Execution} (h : s.mgmt.exec = e) : s.setExec e = s := by subst h; rfl

theorem setExec_aside (s : State) (e : Execution) : (s.setExec e).aside = s.aside := rfl

theorem countAnswer_aside (s : State) (x : Reply) : (s.countAnswer x).aside = s.aside := rfl

theorem nextFree_aside (s : State) : s.nextFree.aside = s.aside := rfl

/-- Without an admission in progress, taking a directive is executing it (R67). -/
theorem runDirective_idle {s : State} (d : Directive) (hb : s.intake.busy = none) :
    s.runDirective d = s.executeDirective d := by
  unfold State.runDirective State.takePlacement
  rw [hb]

/-- What executing a directive with an answer comes to (R153). -/
theorem runDirective_answer {s u : State} {d : Directive} {cls : Nat} {x : Reply}
    (hb : s.intake.busy = none) (hc : s.senderClass d.source = some cls)
    (hw : (s.setExec .executing).directiveWork cls d = (u, some x)) :
    s.runDirective d =
      (((u.settleAndJudge.countAnswer x).offerAnswer
        (u.settleAndJudge.formAnswer d.source d.tag (d.code.getD 0) x)).nextFree).settleAndJudge := by
  rw [runDirective_idle d hb]
  unfold State.executeDirective
  rw [hc]
  dsimp only
  rw [hw]
  rfl

/-- What executing a directive whose answer is deferred comes to (R153). -/
theorem runDirective_deferred {s u : State} {d : Directive} {cls : Nat}
    (hb : s.intake.busy = none) (hc : s.senderClass d.source = some cls)
    (hw : (s.setExec .executing).directiveWork cls d = (u, none)) :
    s.runDirective d = ((u.settleAndJudge.setExec .idle).nextFree).settleAndJudge := by
  rw [runDirective_idle d hb]
  unfold State.executeDirective
  rw [hc]
  dsimp only
  rw [hw]
  rfl

theorem takeDirective_idle {s : State} {d : Directive} (h : s.mgmt.exec = .idle) : s.takeDirective d = s.runDirective d := by
  unfold State.takeDirective; rw [if_pos h]

theorem quiet_settle {u : State} (h : u.quiet) : (u.setExec .executing).settleAndJudge = u.setExec .executing := by
  obtain ⟨-, -, ho, -, hl, hd⟩ := h
  unfold State.settleAndJudge
  rw [settle_rest (s := u.setExec .executing) (.inl hl) ho (.inr rfl) (fun a ha => by cases ha)]
  exact judgeDrain_rest hd

/-- An answer offered to a queue with room by a unit that was IDLE enters it (R147, R153). -/
theorem answered_of_room {u : State} (he : u.mgmt.exec = .idle) (hr : u.egress.hasRoom = true) (r : Request) (c : Byte)
    (x : Reply) :
    (((u.setExec .executing).countAnswer x).offerAnswer
      ((u.setExec .executing).formAnswer r.source r.tag c x)).nextFree = u.answered r c x := by
  unfold State.offerAnswer
  rw [if_pos (by
    change u.egress.takes = true
    unfold Egress.takes; rw [hr]; rfl)]
  unfold State.answered State.queueTakes Egress.takeFrame State.countAnswer State.setExec State.nextFree
  dsimp only
  rw [if_pos hr]
  simp only [State.mk.injEq, Mgmt.mk.injEq, and_true, true_and]
  exact ⟨rfl, he.symm⟩

theorem quiet_answered {u : State} (h : u.quiet) (r : Request) (c : Byte) (x : Reply) :
    ((((u.setExec .executing).countAnswer x).offerAnswer
      ((u.setExec .executing).formAnswer r.source r.tag c x)).nextFree).settleAndJudge = u.answered r c x := by
  obtain ⟨he, hf, ho, hq, hl, hd⟩ := h
  have hr : u.egress.hasRoom = true := by unfold Egress.hasRoom; exact decide_eq_true hq
  rw [answered_of_room he hr]
  unfold State.settleAndJudge
  rw [settle_rest (s := u.answered r c x) (.inl hl) ho (.inl hf) (fun a ha => by
    have : (u.answered r c x).mgmt.exec = .idle := he
    rw [this] at ha; cases ha)]
  exact judgeDrain_rest hd

theorem ready_settle {u : State} (h : u.readyForOne) :
    (u.setExec .executing).settleAndJudge = u.setExec .executing := by
  obtain ⟨-, -, ho, hq, -, hd⟩ := h
  unfold State.settleAndJudge
  rw [settle_rest (s := u.setExec .executing) (.inr hq) ho (.inr rfl) (fun a ha => by cases ha)]
  exact judgeDrain_rest hd

theorem ready_answered {u : State} (h : u.readyForOne) (r : Request) (c : Byte) (x : Reply) :
    ((((u.setExec .executing).countAnswer x).offerAnswer
      ((u.setExec .executing).formAnswer r.source r.tag c x)).nextFree).settleAndJudge = u.answeredAtOnce r c x := by
  obtain ⟨he, hf, ho, hq, hl, hd⟩ := h
  have hr : u.egress.hasRoom = true := by unfold Egress.hasRoom; rw [hq]; decide
  rw [answered_of_room he hr]
  unfold State.settleAndJudge
  rw [settle_selectsOne (s := u.answered r c x) (e := { frame := u.formAnswer r.source r.tag c x, enqueued := u.tru.osc })
    hl (by unfold State.answered Egress.enter; rw [hq]; rfl) (formAnswer_cls _ _ _ _ _) ho hf he]
  have h2 : ({ u.answered r c x with
      egress := { (u.answered r c x).egress with
        queue := [], link := .sending (u.formAnswer r.source r.tag c x) false } } : State) = u.answeredAtOnce r c x := by
    unfold State.answered State.answeredAtOnce Egress.enter
    simp only [hq, List.length_nil, Nat.zero_add]
  rw [h2]
  exact judgeDrain_rest hd

/-- A directive whose work and answer are known is carried out: the command of an IDLE unit takes it (R153). -/
theorem carried_of_work {s u : State} {r : Request} {c : Byte} {d : Directive} {cls : Nat} {x : Reply}
    (hs : d.source = r.source) (ht : d.tag = r.tag) (hk : d.code.getD 0 = c) (hm : s.knows r cls)
    (hw : (s.setExec .executing).directiveWork cls d = (u.setExec .executing, some x)) :
    Carried u (s.takeDirective d) r c x := by
  obtain ⟨hi, hc, hb⟩ := hm
  rw [takeDirective_idle hi, runDirective_answer hb (hs ▸ hc) hw, hs, ht, hk]
  generalize hv : (u.setExec .executing).settleAndJudge = v
  have hva : v.aside = u.aside := by rw [← hv, settleAndJudge_aside]; rfl
  have hoa := offerAnswer_agree (v.countAnswer x) (v.formAnswer r.source r.tag c x)
  constructor
  · rw [settleAndJudge_aside, nextFree_aside, hoa.1, countAnswer_aside, hva]
  · have h1 := settleAndJudge_engine (u.setExec .executing)
    have h2 := settleAndJudge_engine
      ((v.countAnswer x).offerAnswer (v.formAnswer r.source r.tag c x)).nextFree
    have h3 : ((v.countAnswer x).offerAnswer
        (v.formAnswer r.source r.tag c x)).nextFree.mgmt.engine = v.mgmt.engine := hoa.2.1
    rw [h3] at h2
    rw [hv] at h1
    have h4 : (u.setExec .executing).mgmt.engine = u.mgmt.engine := rfl
    rw [h4] at h1
    rcases h1 with h1 | ⟨h1, h1'⟩
    · rw [h1] at h2; exact h2
    · rw [h1'] at h2
      rcases h2 with h2 | ⟨h2, -⟩
      · exact .inr ⟨h1, h2⟩
      · cases h2
  · refine ⟨v, hva, holds_settleAndJudge (formAnswer_cls _ _ _ _ _) ?_⟩
    exact holds_of_eq (holds_offerAnswer (v.countAnswer x) (v.formAnswer r.source r.tag c x)) rfl rfl rfl
  · intro hq
    rw [quiet_settle hq] at hv
    rw [← hv]
    exact quiet_answered hq r c x
  · intro hq
    rw [ready_settle hq] at hv
    rw [← hv]
    exact ready_answered hq r c x

/-! ### The checks of R154 -/

/-- A directive of a known code whose checks 3 to 8 pass comes to its own work. -/
theorem directiveWork_own {s : State} {cls : Nat} {c : DirectiveCode} {d : Directive} (hk : d.code = some (codeByte c))
    (hp : s.checkKnown cls c d = none) : s.directiveWork cls d = s.ownWork cls c d := by
  unfold State.directiveWork
  rw [hk]
  simp only [Option.bind_some, codeOf_codeByte, hp]

/-- A directive of a known code that fails a check is answered with that check's outcome, its work undone. -/
theorem directiveWork_refused {s : State} {cls : Nat} {c : DirectiveCode} {d : Directive} {o : OutcomeCode}
    (hk : d.code = some (codeByte c)) (hp : s.checkKnown cls c d = some o) :
    s.directiveWork cls d = (s, some (reply o)) := by
  unfold State.directiveWork
  rw [hk]
  simp only [Option.bind_some, codeOf_codeByte, hp]

theorem beBytes_length (k v : Nat) : (beBytes k v).length = k := by
  induction k with
  | zero => rfl
  | succ k ih => simp [beBytes, ih]

end Sys2Proof.Laws
end

