-- ==== Sys2Proof/Laws/Transfers.lean ====
section
/-! SUPPORT. Directives that write a table or a parameter: what the checks leave, and what one entry comes to. -/

namespace Sys2Proof.Laws

open Sys2Proof.Machine

/-! ### Fields of bytes -/

theorem foldl_beBytes (k v x : Nat) :
    (beBytes k v).foldl (fun n (y : Byte) => n * 256 + y.toNat) x = x * 256 ^ k + v % 256 ^ k := by
  induction k generalizing x with
  | zero => simp [beBytes, Nat.mod_one]
  | succ k ih =>
    simp only [beBytes, List.foldl_cons, BitVec.toNat_ofNat]
    have h : v % 256 ^ (k + 1) = v % 256 ^ k + 256 ^ k * (v / 256 ^ k % 256) := Nat.mod_pow_succ
    rw [ih, h, Nat.pow_succ]
    ring

/-- The k bytes of a number read back as it, modulo 256^k. -/
theorem beNat_beBytes (k v : Nat) : beNat (beBytes k v) = v % 256 ^ k := by
  unfold beNat; rw [foldl_beBytes]; simp

theorem field_beBytes_word (v : Word) : field (beBytes 4 v.toNat) 0 4 = v.toNat := by
  unfold field
  rw [List.drop_zero, List.take_of_length_le (by rw [beBytes_length]), beNat_beBytes]
  exact Nat.mod_eq_of_lt v.isLt

theorem field_bind (v : Half) : field (beBytes 2 v.toNat ++ [0, 0]) 0 2 = v.toNat := by
  unfold field
  rw [List.drop_zero, List.take_append_of_le_length (by rw [beBytes_length]),
    List.take_of_length_le (by rw [beBytes_length]), beNat_beBytes]
  exact Nat.mod_eq_of_lt v.isLt

/-! ### One entry -/

theorem entriesOf_one {n : Nat} {data : List Byte} (h : data.length = n) : entriesOf n 1 data = [data] := by
  simp [entriesOf, List.range_succ, h]

/-- A transfer of one entry (R158). -/
theorem writeTransfer_one (table cls : Nat) (step i : Int) (e : List Byte) (s : State) :
    writeTransfer table cls step [e] i 0 false s =
      match s.writeEntry table i cls e with
      | .fails c => (s, refusedEntry c)
      | .written t c => (t, wrote c) := by
  unfold writeTransfer
  cases s.writeEntry table i cls e with
  | fails c => rfl
  | written t c => simp [writeTransfer, wrote]

theorem checkKnown_write {s : State} {cls : Nat} {r : Request} {table : Byte} {t : Transfer} (ht : table.toNat ≤ 7)
    (hc : 1 ≤ t.count.toNat ∧ t.count.toNat ≤ 64) (hs : (stepOf t.step).isSome = true)
    (hl : t.data.length = t.count.toNat * entrySize table.toNat) (he : s.mgmt.engine ≠ .resetting) :
    s.checkKnown cls .writeEntries (writeDirective r table t) = none := by
  unfold State.checkKnown
  rw [if_neg (by simp [writeDirective, directive, isTransfer]; omega),
    if_neg (by simp [fieldsOk, writeDirective, directive, hc, hs]),
    if_neg (by simp [directiveLength, writeDirective, directive, hl]),
    if_neg (by simp [he]), if_neg (by simp [State.permitted]), if_neg (by simp [lockRefuses])]

/-- A WRITE_ENTRIES whose fields pass the checks comes to its transfer. -/
theorem write_carried {s u : State} {r : Request} {cls : Nat} {table : Byte} {t : Transfer} {x : Reply}
    (hcan : s.canRun r cls) (ht : table.toNat ≤ 7)
    (hc : 1 ≤ t.count.toNat ∧ t.count.toNat ≤ 64) (hs : (stepOf t.step).isSome = true)
    (hl : t.data.length = t.count.toNat * entrySize table.toNat)
    (hw : (s.setExec .executing).writeWork cls (writeDirective r table t) = (u.setExec .executing, x)) :
    Carried u (s.takeDirective (writeDirective r table t)) r (codeByte .writeEntries) x := by
  obtain ⟨hm, he⟩ := hcan
  refine carried_of_work rfl rfl rfl hm ?_
  rw [directiveWork_own rfl (checkKnown_write (s := s.setExec .executing) ht hc hs hl he)]
  unfold State.ownWork
  dsimp only
  rw [hw]

/-- A WRITE_ENTRIES of one entry comes to that entry's write. -/
theorem writeOne_carried {s : State} {r : Request} {cls : Nat} {table : Byte} {t : Transfer}
    (hcan : s.canRun r cls) (ht : table.toNat ≤ 7) (hc : t.count = 1) (hs : (stepOf t.step).isSome = true)
    (hl : t.data.length = entrySize table.toNat) :
    (∀ c, (s.setExec .executing).writeEntry table.toNat t.start.toNat cls t.data = .fails c →
      Carried s (s.takeDirective (writeDirective r table t)) r (codeByte .writeEntries) (refusedEntry c))
    ∧ (∀ u b, (s.setExec .executing).writeEntry table.toNat t.start.toNat cls t.data
        = .written (u.setExec .executing) b →
      Carried u (s.takeDirective (writeDirective r table t)) r (codeByte .writeEntries) (wrote b)) := by
  have h1 : t.count.toNat = 1 := by rw [hc]; rfl
  have hw : (s.setExec .executing).writeWork cls (writeDirective r table t) =
      match (s.setExec .executing).writeEntry table.toNat t.start.toNat cls t.data with
      | .fails c => (s.setExec .executing, refusedEntry c)
      | .written t c => (t, wrote c) := by
    unfold State.writeWork writeDirective directive
    dsimp only
    rw [h1, entriesOf_one hl, writeTransfer_one]
  refine ⟨fun c h => ?_, fun u b h => ?_⟩ <;>
  · refine write_carried hcan ht (by omega) hs (by rw [hl, h1, Nat.one_mul]) ?_
    rw [hw, h]

theorem paramDirective_eq (r : Request) (i : Half) (v : Word) :
    paramDirective r i.toNat v = writeDirective r 0 { start := i, count := 1, step := 0, data := beBytes 4 v.toNat } := rfl

/-- A write of one Engine Parameters entry (R159), by what the parameter's own tests come to. -/
theorem param_carried {s : State} {r : Request} {cls : Nat} {i : Nat} (v : Word) (hcan : s.canRun r cls) (hi : i ≤ 22)
    (hp : (s.access 0).permits cls = true) :
    (∀ c, (s.setExec .executing).writeParam i v.toNat = .fails c →
      Carried s (s.takeDirective (paramDirective r i v)) r (codeByte .writeEntries) (refusedEntry c))
    ∧ (∀ u b, (s.setExec .executing).writeParam i v.toNat = .written (u.setExec .executing) b →
      Carried u (s.takeDirective (paramDirective r i v)) r (codeByte .writeEntries) (wrote b)) := by
  have hi' : (BitVec.ofNat 16 i).toNat = i := by rw [BitVec.toNat_ofNat]; omega
  have hd : paramDirective r i v
      = writeDirective r 0 { start := BitVec.ofNat 16 i, count := 1, step := 0, data := beBytes 4 v.toNat } := by
    rw [← paramDirective_eq, hi']
  have he : ∀ e, (s.setExec .executing).writeEntry (0 : Byte).toNat ((BitVec.ofNat 16 i).toNat : Nat) cls e
      = (s.setExec .executing).writeParam i (field e 0 4) := by
    intro e
    rw [hi']
    change (s.setExec .executing).writeParamEntry i cls e = _
    unfold State.writeParamEntry
    rw [if_neg (by simp [inTable, lastIndex]; omega), if_neg (by
      change ¬(s.access 0).permits cls = false
      simp [hp])]
    rfl
  rw [hd]
  have h := writeOne_carried (s := s) (r := r) (cls := cls) (table := 0)
    (t := { start := BitVec.ofNat 16 i, count := 1, step := 0, data := beBytes 4 v.toNat }) hcan (by decide) rfl rfl
    (by rw [beBytes_length]; rfl)
  dsimp only at h
  rw [he, field_beBytes_word] at h
  exact h

/-! ### Directives of 16 bytes and BIND_STREAM -/

/-- A directive that is no transfer, whose fields are its code's, comes to its own work where its sender is permitted and
the lock does not refuse it. -/
theorem own_carried {s u : State} {r : Request} {cls : Nat} {c : DirectiveCode} {d : Directive} {x : Reply}
    (hs : d.source = r.source) (ht : d.tag = r.tag) (hk : d.code = some (codeByte c))
    (hn : isTransfer c = false) (hf : fieldsOk c d = true) (hl : d.length = directiveLength c d)
    (hm : s.knows r cls) (he : s.mgmt.engine ≠ .resetting ∨ c = .readStatus)
    (hp : s.permitted c cls = true) (hlock : lockRefuses c = true → s.mgmt.lock = false)
    (hw : (s.setExec .executing).ownWork cls c d = (u.setExec .executing, some x)) :
    Carried u (s.takeDirective d) r (codeByte c) x := by
  refine carried_of_work hs ht (by rw [hk]; rfl) hm ?_
  rw [directiveWork_own hk, hw]
  unfold State.checkKnown
  rw [if_neg (by simp [hn]), if_neg (by simp [hf]), if_neg (by simp [hl]),
    if_neg (by
      change ¬(s.mgmt.engine = .resetting ∧ c ≠ .readStatus)
      tauto),
    if_neg (by
      change ¬(s.permitted c cls = false)
      simp [hp]),
    if_neg (by
      change ¬(lockRefuses c = true ∧ s.mgmt.lock = true)
      intro h; rw [hlock h.1] at h; cases h.2)]

end Sys2Proof.Laws
end

