-- ==== Sys2Proof/Laws/Params.lean ====
section
/-! SUPPORT. What each Engine Parameter's write comes to (R159), and clamping. -/

namespace Sys2Proof.Laws

open Sys2Proof.Machine

theorem clampNat_zero (hi v : Nat) : clampNat 0 hi v = min v hi := by
  unfold clampNat
  split_ifs <;> omega

theorem clampNat_ne {lo hi : Nat} (v : Nat) (h : lo ≤ hi) : (clampNat lo hi v != v) = decide (v < lo ∨ hi < v) := by
  rw [Bool.eq_iff_iff, bne_iff_ne, decide_eq_true_eq]
  unfold clampNat
  split_ifs <;> omega

theorem clampNat_zero_ne (hi v : Nat) : (clampNat 0 hi v != v) = decide (hi < v) := by
  rw [clampNat_ne v (Nat.zero_le hi)]
  simp

theorem memberOf_mem {l : List Nat} {v : Nat} (h : v ∈ l) : memberOf l v = some v := if_pos h

theorem memberOf_not_mem {l : List Nat} {v : Nat} (h : v ∉ l) : memberOf l v = none := if_neg h

theorem writeParam_rate (s : State) (v : Nat) : s.writeParam 0 v =
    enumerated (memberOf rates v) s.writeRate := rfl

theorem writeParam_mapSelect (s : State) (v : Nat) : s.writeParam 1 v =
    enumerated (mapSelectOf v) fun x =>
      s.structural (if s.mapOccupied then .fails .mapNotEmpty else .written (s.setParams { s.params with mapSelect := x }) false) := rfl

theorem writeParam_mgmtId (s : State) (v : Nat) : s.writeParam 2 v =
    s.structural (numeric 0 65535 v fun x c => .written (s.setParams { s.params with mgmtId := x }) c) := rfl

theorem writeParam_lead (s : State) (v : Nat) : s.writeParam 3 v =
    s.structural (numeric 0 32 v fun x c => .written (s.setParams { s.params with lead := x }) c) := rfl

theorem writeParam_ppsEdge (s : State) (v : Nat) : s.writeParam 4 v =
    enumerated (ppsEdgeOf v) fun x =>
      s.structural (.written (s.setParams { s.params with ppsEdge := x }) false) := rfl

theorem writeParam_cSat (s : State) (v : Nat) : s.writeParam 5 v =
    numeric 1 15 v fun x c => .written (s.setParams { s.params with cSat := x }).clampConfidence c := rfl

theorem writeParam_cAwait (s : State) (v : Nat) : s.writeParam 6 v =
    numeric 0 15 v fun x c => .written (s.setParams { s.params with cAwait := x }) c := rfl

theorem writeParam_wMin (s : State) (v : Nat) : s.writeParam 7 v =
    numeric 1 40000 v fun x c =>
      if s.params.wMax < x then .fails .invalidValue else .written (s.setParams { s.params with wMin := x }).reclampWq c := rfl

theorem writeParam_wMax (s : State) (v : Nat) : s.writeParam 8 v =
    numeric 1 40000 v fun x c =>
      if x < s.params.wMin then .fails .invalidValue else .written (s.setParams { s.params with wMax := x }).reclampWq c := rfl

theorem writeParam_w0 (s : State) (v : Nat) : s.writeParam 9 v =
    numeric 1 40000 v fun x c => .written (s.setParams { s.params with w0 := x }) c := rfl

theorem writeParam_adaptation (s : State) (v : Nat) : s.writeParam 10 v =
    enumerated (memberOf [0, 1] v) fun x => .written (s.setParams { s.params with adaptation := x == 1 }) false := rfl

theorem writeParam_theta (s : State) (v : Nat) : s.writeParam 11 v =
    enumerated (memberOf [1, 2, 4, 8] v) fun x => .written (s.setParams { s.params with theta := x }) false := rfl

theorem writeParam_upStep (s : State) (v : Nat) : s.writeParam 12 v =
    enumerated (memberOf [16, 32, 64, 128] v) fun x =>
      .written (s.setParams { s.params with upStep := x }) false := rfl

theorem writeParam_downStep (s : State) (v : Nat) : s.writeParam 13 v =
    enumerated (memberOf [1, 2, 4, 8] v) fun x => .written (s.setParams { s.params with downStep := x }) false := rfl

theorem writeParam_wq (s : State) (v : Nat) : s.writeParam 14 v =
    numeric (16 * s.params.wMin) (16 * s.params.wMax) v fun x c =>
      .written { s with window := { s.window with wq := x } } c := rfl

theorem writeParam_wm1 (s : State) (v : Nat) : s.writeParam 15 v =
    numeric 0 4095 v fun x c =>
      if x < s.params.wm2 then .fails .invalidValue else .written (s.setParams { s.params with wm1 := x }) c := rfl

theorem writeParam_wm2 (s : State) (v : Nat) : s.writeParam 16 v =
    numeric 0 4095 v fun x c =>
      if s.params.wm1 < x then .fails .invalidValue else .written (s.setParams { s.params with wm2 := x }) c := rfl

theorem writeParam_hMax (s : State) (v : Nat) : s.writeParam 17 v =
    numeric 0 86400 v fun x c => .written (s.setParams { s.params with hMax := x }).judgeHoldover c := rfl

theorem writeParam_drift (s : State) (v : Nat) : s.writeParam 18 v =
    numeric 1 100000 v fun x c => .written (s.setParams { s.params with drift := x }).judgeHoldover c := rfl

theorem writeParam_holdLimit (s : State) (v : Nat) : s.writeParam 19 v =
    numeric 10 60000 v fun x c => .written (s.setParams { s.params with holdLimit := x }).holdExpireDue c := rfl

theorem writeParam_promotion (s : State) (v : Nat) : s.writeParam 20 v =
    numeric 1 1000 v fun x c => .written (s.setParams { s.params with promotion := x }) c := rfl

theorem writeParam_highBypassMax (s : State) (v : Nat) : s.writeParam 21 v =
    numeric 1 15 v fun x c => .written (s.setParams { s.params with highBypassMax := x }) c := rfl

theorem writeParam_lowBypassMax (s : State) (v : Nat) : s.writeParam 22 v =
    numeric 1 15 v fun x c => .written (s.setParams { s.params with lowBypassMax := x }) c := rfl

end Sys2Proof.Laws
end

