-- ==== Sys2Proof/Laws/Slots.lean ====
section
/-! SUPPORT. What the store's operations on one slot can do: reading a slot after a write, leaving OPEN, completion, the
offer of slot H_low, opening (R84, R87, R97 to R101). -/

namespace Sys2Proof.Laws

open Sys2Proof.Machine

variable {s : State} {g h : Nat} {x : Slot} {c : Cause}

/-! ### Reading a slot -/

theorem slot_g (hs : (s.slot g).state ≠ .free) : (s.slot g).g = g := by
  unfold State.slot at hs ⊢
  dsimp only at hs ⊢
  split
  · next hc => exact hc.2
  · next hc => rw [if_neg hc] at hs; exact absurd rfl hs

theorem slot_record (hs : (s.slot g).state ≠ .free) : Tbl.get Slot.empty s.store.ring (g % 64) = s.slot g := by
  unfold State.slot at hs ⊢
  dsimp only at hs ⊢
  split
  · rfl
  · next hc => rw [if_neg hc] at hs; exact absurd rfl hs

theorem slot_setSlot_self (hw : Tbl.wf Slot.empty s.store.ring = true) (hf : x.state ≠ .free) (hg : x.g = g) :
    (s.setSlot g x).slot g = x := by
  unfold State.slot State.setSlot
  dsimp only
  rw [get_set hw, if_pos rfl, if_pos ⟨hf, hg⟩]

theorem slot_setSlot_empty (hw : Tbl.wf Slot.empty s.store.ring = true) : (s.setSlot g Slot.empty).slot g = Slot.empty := by
  unfold State.slot State.setSlot
  dsimp only
  rw [get_set hw, if_pos rfl, if_neg (fun hh => hh.1 rfl)]

theorem slot_setSlot_ne (hw : Tbl.wf Slot.empty s.store.ring = true) (hne : h % 64 ≠ g % 64) :
    (s.setSlot g x).slot h = s.slot h := by
  unfold State.slot State.setSlot
  dsimp only
  have hn : ¬ g % 64 = h % 64 := fun hh => hne hh.symm
  rw [get_set hw, if_neg hn]

theorem setSlot_wf (hw : Tbl.wf Slot.empty s.store.ring = true) :
    Tbl.wf Slot.empty (s.setSlot g x).store.ring = true := wf_set hw _ _

/-- A ring changed in its other fields alone reads the same slots. -/
theorem slot_congr {t : State} (hr : t.store.ring = s.store.ring) (g : Nat) : t.slot g = s.slot g := by
  unfold State.slot
  rw [hr]

/-! ### Leaving OPEN -/

/-- The window after a slot left OPEN for a cause (R117). -/
def windowAfter (s : State) (c : Cause) : Window :=
  if c = .complete ∨ c = .deadline then Window.closingNotice s.params s.store.freeList.length s.window else s.window

/-- Everything that leaving OPEN does (R99). -/
theorem leaveOpen_eq (s : State) (g : Nat) (c : Cause) :
    s.leaveOpen g c =
      { s with
        ctxs := (s.chargeMisses (s.slot g).missing).ctxs
        window := windowAfter s c
        store := { s.store with
          ring := Tbl.set Slot.empty s.store.ring (g % 64)
            ((s.slot g).leave c (s.tru.state, s.tru.quality s.params.drift))
          closeCounts := s.store.closeCounts.bump c } } := by
  unfold State.leaveOpen windowAfter
  cases c <;> simp [State.closingNotice, State.countClose, State.chargeMisses, State.setSlot, State.freeCells]

@[simp] theorem leave_state (x : Slot) (c : Cause) (p : TruState × Nat) :
    (x.leave c p).state = if c = .complete then .complete else .closed := by cases c <;> rfl
@[simp] theorem leave_g (x : Slot) (c : Cause) (p : TruState × Nat) : (x.leave c p).g = x.g := by cases c <;> rfl
@[simp] theorem leave_cells (x : Slot) (c : Cause) (p : TruState × Nat) : (x.leave c p).cells = x.cells := by
  cases c <;> rfl
@[simp] theorem leave_cause (x : Slot) (c : Cause) (p : TruState × Nat) : (x.leave c p).cause = some c := by cases c <;> rfl
@[simp] theorem leave_awaited (x : Slot) (c : Cause) (p : TruState × Nat) : (x.leave c p).awaited = x.awaited := by
  cases c <;> rfl
@[simp] theorem leave_arrived (x : Slot) (c : Cause) (p : TruState × Nat) : (x.leave c p).arrived = x.arrived := by
  cases c <;> rfl

theorem leave_ne_free (x : Slot) (c : Cause) (p : TruState × Nat) : (x.leave c p).state ≠ .free := by
  cases c <;> simp

theorem ctx_chargeMisses (hw : Tbl.wf Ctx.zero s.ctxs = true) (m : CtxSet) (k : Nat) :
    (s.chargeMisses m).ctx k =
      if CtxSet.has m k = true then { s.ctx k with confidence := (s.ctx k).confidence - 1 } else s.ctx k := by
  unfold State.ctx State.chargeMisses
  exact get_update (by intro i; split <;> rfl) hw k

theorem slot_leaveOpen_self (hw : Tbl.wf Slot.empty s.store.ring = true) (hs : (s.slot g).state ≠ .free) :
    (s.leaveOpen g c).slot g = (s.slot g).leave c (s.tru.state, s.tru.quality s.params.drift) := by
  rw [leaveOpen_eq]
  have hk := slot_setSlot_self (s := s) (g := g) (x := (s.slot g).leave c (s.tru.state, s.tru.quality s.params.drift)) hw
    (leave_ne_free _ _ _) (by rw [leave_g]; exact slot_g hs)
  exact hk

theorem slot_leaveOpen_ne (hw : Tbl.wf Slot.empty s.store.ring = true) (hne : h % 64 ≠ g % 64) :
    (s.leaveOpen g c).slot h = s.slot h := by
  rw [leaveOpen_eq]
  exact slot_setSlot_ne (s := s) (g := g) (x := (s.slot g).leave c (s.tru.state, s.tru.quality s.params.drift)) hw hne

theorem leaveOpen_wf (hw : Tbl.wf Slot.empty s.store.ring = true) :
    Tbl.wf Slot.empty (s.leaveOpen g c).store.ring = true := by
  rw [leaveOpen_eq]
  exact wf_set hw _ _

/-! ### The offer of slot H_low -/

theorem offer_none (hs : (s.slot s.store.hLow).state ≠ .complete) (hc : (s.slot s.store.hLow).state ≠ .closed) :
    s.offer = s := by
  unfold State.offer
  exact if_neg (by tauto)

theorem offer_some (hs : (s.slot s.store.hLow).state = .complete ∨ (s.slot s.store.hLow).state = .closed) :
    s.offer =
      { s with
        store := { s.store with
          ring := Tbl.set Slot.empty s.store.ring (s.store.hLow % 64) { s.slot s.store.hLow with state := .emitting } }
        composer := { s.composer with working := some { g := s.store.hLow, next := 0 } } } := by
  unfold State.offer
  exact if_pos hs

theorem offerIfLow_ne (hg : g ≠ s.store.hLow) : s.offerIfLow g = s := if_neg hg

/-! ### Completion (R97) -/

theorem evaluate_open (hs : (s.slot g).state = .opened) (hm : (s.slot g).missing = 0) (hi : s.instant g ≤ s.tru.now) :
    s.evaluate g = (s.leaveOpen g .complete).offerIfLow g := by
  unfold State.evaluate
  exact if_pos ⟨hs, hm, hi⟩

theorem evaluate_stays (hs : (s.slot g).state ≠ .opened ∨ (s.slot g).missing ≠ 0 ∨ s.tru.now < s.instant g) :
    s.evaluate g = s := by
  unfold State.evaluate
  exact if_neg (by rintro ⟨a, b, c⟩; rcases hs with h | h | h <;> first | exact h a | exact h b | omega)

/-! ### What the store's operations leave alone -/

/-- Two states that differ in the contexts, the window, the store and the slot the composer works on alone. -/
structure StoreOnly (s t : State) : Prop where
  tru : t.tru = s.tru
  params : t.params = s.params
  map : t.map = s.map
  intake : t.intake = s.intake
  conv : t.conv = s.conv
  profiles : t.profiles = s.profiles
  members : t.members = s.members
  composer : t.composer = { s.composer with working := t.composer.working }
  egress : t.egress = s.egress
  mgmt : t.mgmt = s.mgmt
  free : t.free = s.free
  pending : t.pending = s.pending

theorem StoreOnly.refl (s : State) : StoreOnly s s := ⟨rfl, rfl, rfl, rfl, rfl, rfl, rfl, rfl, rfl, rfl, rfl, rfl⟩

theorem StoreOnly.trans {s t u : State} (h : StoreOnly s t) (k : StoreOnly t u) : StoreOnly s u :=
  ⟨k.tru.trans h.tru, k.params.trans h.params, k.map.trans h.map, k.intake.trans h.intake, k.conv.trans h.conv,
    k.profiles.trans h.profiles, k.members.trans h.members, by rw [k.composer, h.composer], k.egress.trans h.egress,
    k.mgmt.trans h.mgmt, k.free.trans h.free, k.pending.trans h.pending⟩

theorem only_with (s : State) (cs : Tbl Ctx) (w : Window) (y : Store) (k : Option Composing) :
    StoreOnly s { s with ctxs := cs, window := w, store := y, composer := { s.composer with working := k } } :=
  ⟨rfl, rfl, rfl, rfl, rfl, rfl, rfl, rfl, rfl, rfl, rfl, rfl⟩

theorem only_store (s : State) (y : Store) : StoreOnly s { s with store := y } :=
  only_with s s.ctxs s.window y s.composer.working

theorem only_window (s : State) (w : Window) : StoreOnly s { s with window := w } :=
  only_with s s.ctxs w s.store s.composer.working

theorem setSlot_only (s : State) (g : Nat) (x : Slot) : StoreOnly s (s.setSlot g x) := only_store s _

theorem leaveOpen_only (s : State) (g : Nat) (c : Cause) : StoreOnly s (s.leaveOpen g c) := by
  rw [leaveOpen_eq]
  exact only_with s _ _ _ s.composer.working

theorem offer_only (s : State) : StoreOnly s s.offer := by
  unfold State.offer
  dsimp only
  split
  · exact only_with s s.ctxs s.window _ _
  · exact StoreOnly.refl s

theorem offerIfLow_only (s : State) (g : Nat) : StoreOnly s (s.offerIfLow g) := by
  unfold State.offerIfLow
  split
  · exact offer_only s
  · exact StoreOnly.refl s

theorem evaluate_only (s : State) (g : Nat) : StoreOnly s (s.evaluate g) := by
  unfold State.evaluate
  dsimp only
  split
  · exact (leaveOpen_only s g _).trans (offerIfLow_only _ _)
  · exact StoreOnly.refl s

theorem expire_only (s : State) (g : Nat) : StoreOnly s (s.expire g) := by
  unfold State.expire
  dsimp only
  split
  · exact ((evaluate_only s g).trans (leaveOpen_only _ _ _)).trans (offerIfLow_only _ _)
  · exact evaluate_only s g

theorem expireIfDue_only (s : State) (g : Nat) : StoreOnly s (s.expireIfDue g) := by
  unfold State.expireIfDue
  split
  · exact expire_only s g
  · exact StoreOnly.refl s

theorem closeFor_only (s : State) (c : Cause) (g : Nat) : StoreOnly s (s.closeFor c g) := by
  unfold State.closeFor
  dsimp only
  split
  · exact leaveOpen_only s g c
  · exact (setSlot_only s g _).trans (only_store _ _)
  all_goals exact StoreOnly.refl s

/-- A fold of operations that leave the rest alone leaves the rest alone. -/
theorem foldl_only {α : Type} {f : State → α → State} (hf : ∀ s a, StoreOnly s (f s a)) (l : List α) (s : State) :
    StoreOnly s (l.foldl f s) := by
  induction l generalizing s with
  | nil => exact StoreOnly.refl s
  | cons a l ih => exact (hf s a).trans (ih _)

theorem closeAll_only (s : State) (c : Cause) : StoreOnly s (s.closeAll c) := foldl_only (fun s g => closeFor_only s c g) _ s

theorem openSlot_only (s : State) (g : Nat) : StoreOnly s (s.openSlot g) := by
  unfold State.openSlot
  exact ((only_window s _).trans (setSlot_only _ g _)).trans (evaluate_only _ g)

theorem openSlotNow_only (s : State) (g : Nat) : StoreOnly s (s.openSlotNow g) :=
  (openSlot_only s g).trans (expireIfDue_only _ g)

theorem catchUp_only (s : State) : StoreOnly s s.catchUp := by
  unfold State.catchUp
  split
  · refine (foldl_only (fun s g => ?_) s.span s).trans (offer_only _)
    split
    · exact openSlotNow_only s g
    · exact StoreOnly.refl s
  · exact StoreOnly.refl s

theorem advanceLow_only (s : State) : StoreOnly s s.advanceLow := only_store s _

theorem setFloor_only (s : State) (f : Nat) : StoreOnly s (s.setFloor f) := only_store s _

theorem passFloor_only (s : State) : StoreOnly s s.passFloor := by
  unfold State.passFloor
  split
  · exact advanceLow_only s
  · exact StoreOnly.refl s

theorem takeTimeStep_only (s : State) : StoreOnly s s.takeTimeStep :=
  ((((closeAll_only s .timeStep).trans (setFloor_only _ _)).trans (passFloor_only _)).trans (offer_only _)).trans
    (catchUp_only _)

theorem forceRing_only (s : State) : StoreOnly s s.forceRing := by
  unfold State.forceRing
  split
  · exact ((leaveOpen_only s _ _).trans (only_store _ _)).trans (offer_only _)
  · exact StoreOnly.refl s

theorem storeInstant_only (s : State) (g : Nat) : StoreOnly s (s.storeInstant g) := by
  unfold State.storeInstant
  split
  · exact StoreOnly.refl s
  split
  · split
    · split
      · exact openSlotNow_only s g
      · exact StoreOnly.refl s
    · exact evaluate_only s g
    all_goals exact StoreOnly.refl s
  split
  · exact forceRing_only s
  · exact StoreOnly.refl s

theorem clearAwaited_only (s : State) (k : Nat) : StoreOnly s (s.clearAwaited k) := by
  unfold State.clearAwaited
  exact (only_store s _).trans (foldl_only (fun s g => evaluate_only s g) _ _)

end Sys2Proof.Laws
end

