-- ==== Sys2Proof/Laws/Time.lean ====
section
/-! SUPPORT. What the passing of time leaves alone (R18, R29). -/

namespace Sys2Proof.Laws

open Sys2Proof.Machine

/-- Everything the passing of time changes: the oscillator, local time and the slew. -/
theorem elapse_eq (t : Tru) (dt : Nat) :
    t.elapse dt =
      { t with osc := t.osc + dt, now := (t.elapse dt).now, slew := (t.elapse dt).slew
               slewPhase := (t.elapse dt).slewPhase } := by
  unfold Tru.elapse
  dsimp only
  split <;> rfl

@[simp] theorem elapse_osc (t : Tru) (dt : Nat) : (t.elapse dt).osc = t.osc + dt := by rw [elapse_eq]
@[simp] theorem elapse_state (t : Tru) (dt : Nat) : (t.elapse dt).state = t.state := by rw [elapse_eq]
@[simp] theorem elapse_held (t : Tru) (dt : Nat) : (t.elapse dt).held = t.held := by rw [elapse_eq]
@[simp] theorem elapse_clockQuality (t : Tru) (dt : Nat) : (t.elapse dt).clockQuality = t.clockQuality := by rw [elapse_eq]
@[simp] theorem elapse_qualified (t : Tru) (dt : Nat) : (t.elapse dt).qualified = t.qualified := by rw [elapse_eq]
@[simp] theorem elapse_unqualifiedRun (t : Tru) (dt : Nat) : (t.elapse dt).unqualifiedRun = t.unqualifiedRun := by rw [elapse_eq]
@[simp] theorem elapse_mismatchRun (t : Tru) (dt : Nat) : (t.elapse dt).mismatchRun = t.mismatchRun := by rw [elapse_eq]
@[simp] theorem elapse_prevEdge (t : Tru) (dt : Nat) : (t.elapse dt).prevEdge = t.prevEdge := by rw [elapse_eq]
@[simp] theorem elapse_edgeTimer (t : Tru) (dt : Nat) : (t.elapse dt).edgeTimer = t.edgeTimer := by rw [elapse_eq]
@[simp] theorem elapse_elapsedHoldover (t : Tru) (dt : Nat) : (t.elapse dt).elapsedHoldover = t.elapsedHoldover := by rw [elapse_eq]
@[simp] theorem elapse_secondMark (t : Tru) (dt : Nat) : (t.elapse dt).secondMark = t.secondMark := by rw [elapse_eq]
@[simp] theorem elapse_nextInstant (t : Tru) (dt : Nat) : (t.elapse dt).nextInstant = t.nextInstant := by rw [elapse_eq]
@[simp] theorem elapse_todBuf (t : Tru) (dt : Nat) : (t.elapse dt).todBuf = t.todBuf := by rw [elapse_eq]
@[simp] theorem elapse_todHunting (t : Tru) (dt : Nat) : (t.elapse dt).todHunting = t.todHunting := by rw [elapse_eq]
@[simp] theorem elapse_counts (t : Tru) (dt : Nat) : (t.elapse dt).counts = t.counts := by rw [elapse_eq]

end Sys2Proof.Laws
end

