-- ==== Sys2Proof/WellFormed.lean ====
section
/-! DEFINITION. Which commands can reach the part: the checks on operands that the fields' types do not make. -/

namespace Sys2Proof

/-- A directive's data reaches the part in a frame of at most 2048 bytes, 16 of them its fixed fields (R55, R171). -/
def Transfer.fits (t : Transfer) : Bool := decide (16 + t.data.length ≤ 2048)

/-- The operand checks. A frame has at least one byte (External connections, 00_scope.md) and is of any length: one over
2048 bytes does arrive and is discarded (R55); a global slot number is held to 48 bits (R2); a time-of-day
message is 8 bytes (2.2); a transfer's data fits an ingress frame. -/
def Instr.wellFormed : Instr → Bool
  | .frameArrival _ _ _ frame => decide (1 ≤ frame.length)
  | .deadlineExpiry g => decide (g < 2 ^ 48)
  | .todMessage _ bytes => decide (bytes.length = 8)
  | .writeStreamMap _ t => t.fits
  | .writeStreamContexts _ t => t.fits
  | .writeChannelConversion _ t => t.fits
  | .writeProfiles _ t => t.fits
  | .writeMemberLists _ t => t.fits
  | .writeManagers _ t => t.fits
  | .writeAccess _ t => t.fits
  | .powerOnReset _ => true
  | .frameTake => true
  | .placementRequest => true
  | .instantEvent => true
  | .compositionStep => true
  | .holdExpiry _ => true
  | .readyIndication _ => true
  | .completionIndication _ => true
  | .ppsEdge _ _ => true
  | .edgeTimerExpiry => true
  | .holdoverSecond => true
  | .directiveTake => true
  | .readEntries _ _ _ _ _ => true
  | .writeOutputRate _ _ => true
  | .writeMapSelect _ _ => true
  | .writeManagementIdentifier _ _ => true
  | .writePpsEdge _ _ => true
  | .writeCSat _ _ => true
  | .writeWindowLimits _ _ _ => true
  | .writeW0 _ _ => true
  | .writeAdaptation _ _ => true
  | .writeWq _ _ => true
  | .writeWatermark _ _ _ => true
  | .writeHoldoverParameter _ _ _ => true
  | .writeHoldLimit _ _ => true
  | .writeEngineParameter _ _ _ => true
  | .bindStream _ _ _ => true
  | .unbindStream _ _ => true
  | .streamEnable _ _ => true
  | .streamDisable _ _ => true
  | .enableProfile _ _ => true
  | .disableProfile _ _ => true
  | .resume _ => true
  | .pause _ => true
  | .pauseNow _ => true
  | .engineReset _ => true
  | .scrubCompletion => true
  | .flushBatches _ => true
  | .clearCounters _ => true
  | .lockConfig _ => true
  | .readStatus _ _ => true
  | .readStatusClear _ _ => true

end Sys2Proof
end

