-- ==== Sys2Proof/Tests/Slice0.lean ====
section
/-! SUPPORT. The row's own tests: the operand checks, one-step tests with expected results from the spec's worked sequences, and
a witness of the hypotheses of every statement. -/

namespace Sys2Proof.Tests

open Sys2Proof Sys2Proof.Machine

/-! ### Small states -/

/-- The state a command leaves. -/
def after (c : Instr) (s : State) : State :=
  match exec c s with
  | .next t => t
  | .fault _ => s
  | .refused _ => s

/-- A sender. -/
def sender : Request := { source := 0xC0A80001, tag := 0x1234 }

/-- A transfer of one entry. -/
def one (start : Half) (data : List Byte) : Transfer := { start := start, count := 1, step := 0, data := data }

/-- A context that can be enabled: RECT16, one channel, 30 reports a second, time base 1,000,000, tolerance 50 µs. -/
def ctxOn : Ctx :=
  { desc := { channels := 1, rate := 30, timeBase := 1000000, tolerance := 50 }
    binding := some 0x0410, enabled := true, confidence := 4 }

/-- A part that runs at 30 slots per second, LOCKED at second 100, with engine e: context 5 is bound to 0x0410 and enabled,
profile 0 names it, and two cells are free. -/
def up (e : EngineState) : State :=
  { State.reset with
    tru := { State.reset.tru with state := .locked, now := 100000000000, osc := 50000000000, nextInstant := 3001 }
    map := [(80, some { streamId := 0x0410, ctx := 5 })]
    ctxs := [(5, ctxOn)]
    conv := [(80, { multiplier := 3, shift := 1, rotC := 15137, rotD := 6270 })]
    profiles := [(0, { enabled := true, dest := 7, count := 1 })]
    members := [(0, 5)]
    store := { State.reset.store with freeList := [7, 9], hLow := 3000, floor := 3000 }
    mgmt := { State.reset.mgmt with engine := e } }

/-- A slot record of slot g. -/
def slotRec (g : Nat) (x : SlotState) : Slot := { g := g, state := x, deadline := 100050000000, awaited := 32 }

/-- The part with ring records. -/
def ringed (e : EngineState) (r : Tbl Slot) : State := { up e with store := { (up e).store with ring := r } }

/-! ### The operand checks refuse ill-formed commands -/

theorem test_refuses_empty_frame : (Instr.frameArrival 0 .a 1 []).wellFormed = false := by decide
/-- R55 sets no upper bound. -/
theorem test_accepts_oversize_frame : (Instr.frameArrival 0 .a 1 (List.replicate 65536 0)).wellFormed = true := by
  simp only [Instr.wellFormed, List.length_replicate]; decide
theorem test_refuses_wide_slot : (Instr.deadlineExpiry (2 ^ 48)).wellFormed = false := by decide
theorem test_refuses_short_message : (Instr.todMessage 0 [0xA5]).wellFormed = false := by decide
theorem test_refuses_long_transfers (r : Request) :
    let t := one 0 (List.replicate 2033 0)
    (Instr.writeStreamMap r t).wellFormed = false ∧ (Instr.writeStreamContexts r t).wellFormed = false
      ∧ (Instr.writeChannelConversion r t).wellFormed = false ∧ (Instr.writeProfiles r t).wellFormed = false
      ∧ (Instr.writeMemberLists r t).wellFormed = false ∧ (Instr.writeManagers r t).wellFormed = false
      ∧ (Instr.writeAccess r t).wellFormed = false := by
  simp only [Instr.wellFormed, Transfer.fits, one, List.length_replicate]; decide
theorem test_accepts_longest_transfer (r : Request) :
    (Instr.writeProfiles r (one 0 (List.replicate 2032 0))).wellFormed = true := by
  simp only [Instr.wellFormed, Transfer.fits, one, List.length_replicate]; decide
theorem test_no_word_spells_a_command : decodeTableWord 16 0x4031 = none := by decide

/-! ### One step, expected results from the worked cases -/

/-- 1.5.1, cases A and C. -/
theorem test_tag_slots : tagSlot 30 1000000 1700000000 533340 = 51000000016
    ∧ tagSlot 30 1000000 1700000000 999990 = 51000000030 := by decide
/-- 1.5.1, cases A, B, C and D. -/
theorem test_residuals : residualNs 30 1000000 533340 = 6667 ∧ residualNs 30 1000000 516667 = -16666333
    ∧ residualNs 30 1000000 999990 = -10000 ∧ residualNs 20 1000000 25000 = -25000000 := by decide
/-- 5.4.1 and 5.4.2. -/
theorem test_conversion :
    convertPair { multiplier := 3, shift := 1, rotC := 15137, rotD := 6270 } (12000, -5000) = (19500, -41)
      ∧ packPart .rect16 2 19500 = 4875 ∧ packPart .rect16 2 (-41) = -10 ∧ packPart .rect16 1 90000 = 32767 := by decide
/-- 5.4.3. -/
theorem test_conversion_saturates :
    convertPair { multiplier := 2 } (2000000000, 0) = (2147483647, 0)
      ∧ pairSaturates { multiplier := 2 } (2000000000, 0) = true := by decide
/-- 7.7.1. -/
theorem test_fractional_windows : (List.range 5).map (fractionalWindow 8020) = [501, 501, 501, 502, 501] := by decide
/-- 7.7.2. -/
theorem test_evaluation_raises :
    (Window.closingNotice {} 3100 { closings := 15, late := 7, total := 48 }).wq = 8032 := by decide
/-- 2.12.2. -/
theorem test_quality : [100, 150, 600, 5100, 30100].map qualityOf = [0, 1, 3, 6, 9] := by decide

/-! ### Witnesses: what the hypotheses share -/

theorem can_reset : State.reset.canRun sender 0 := ⟨⟨rfl, rfl, rfl⟩, by decide⟩

theorem can_up {e : EngineState} (h : e ≠ .resetting) : (up e).canRun sender 0 := ⟨⟨rfl, rfl, rfl⟩, h⟩

theorem permits_up (e : EngineState) (i : Nat) : ((up e).access i).permits 0 = true := rfl

theorem canonical_up (e : EngineState) : (up e).canonical := by unfold State.canonical; cases e <;> decide

theorem quiet_up : (up .running).quiet := by unfold State.quiet; decide

/-- A ring is lawful where its listed records are (a record not listed is FREE). -/
theorem lawful_of {s : State}
    (h : ∀ e ∈ s.store.ring, e.2.state ≠ .free ∧ e.2.g % 64 = e.1 ∧ s.store.hLow ≤ e.2.g ∧ e.2.g ≤ s.store.hLow + 63
      ∧ (e.2.state = .emitting → e.2.g = s.store.hLow ∧ s.composer.working.isSome = true))
    (he : s.mgmt.engine = .running ∨ s.mgmt.engine = .draining ∨ s.store.ring = [])
    (hw : s.composer.working = none
      ∨ ∃ n, n ≤ 8 ∧ s.composer.working = some { g := s.store.hLow, next := n } ∧ (s.slot s.store.hLow).state = .emitting)
    (hs : s.store.scrubbing = false)
    (hl : (s.slot s.store.hLow).state ≠ .complete ∧ (s.slot s.store.hLow).state ≠ .closed) : s.ringLawful := by
  have key : ∀ i, (Tbl.get Slot.empty s.store.ring i).state ≠ .free → (i, Tbl.get Slot.empty s.store.ring i) ∈ s.store.ring := by
    intro i hi
    rcases Sys2Proof.Laws.get_mem_or Slot.empty s.store.ring i with h1 | h1
    · exact h1
    · rw [h1] at hi; exact absurd rfl hi
  refine ⟨fun i hi => ?_, fun i hi => ?_, ?_, fun g hg => ?_, fun w h1 => ?_, fun h1 => ?_, hl⟩
  · have := h _ (key i hi); exact ⟨this.2.1, this.2.2.1, this.2.2.2.1⟩
  · rcases Sys2Proof.Laws.get_mem_or Slot.empty s.store.ring i with h1 | h1
    · exact absurd hi (h _ h1).1
    · exact h1
  · rcases he with h1 | h1 | h1
    · exact .inl h1
    · exact .inr (.inl h1)
    · refine .inr (.inr fun i => ?_); rw [h1]; rfl
  · unfold State.slot at hg
    dsimp only at hg
    split at hg
    · rename_i h1
      have := (h _ (key _ h1.1)).2.2.2.2 hg
      exact ⟨h1.2.symm.trans this.1, this.2⟩
    · cases hg
  · rcases hw with h2 | ⟨n, h2, h3, h4⟩
    · rw [h2] at h1; cases h1
    · rw [h3] at h1; cases h1; exact ⟨rfl, h2, h4⟩
  · rw [hs] at h1; cases h1

theorem lawful_up (e : EngineState) : (up e).ringLawful :=
  lawful_of (fun _ h => absurd h List.not_mem_nil) (.inr (.inr rfl)) (.inl rfl) rfl (by cases e <;> decide)

theorem map_up (e : EngineState) : (up e).mapLawful := by
  have hw : ∀ i b, (up e).way i = some b → i = 80 ∧ b = { streamId := 0x0410, ctx := 5 } := by
    intro i b h
    have h' : (if 80 = i then some ({ streamId := 0x0410, ctx := 5 } : Binding) else none) = some b := h
    split at h'
    · exact ⟨by omega, (Option.some.inj h').symm⟩
    · cases h'
  have hc : ∀ k sid, ((up e).ctx k).binding = some sid → k = 5 ∧ sid = 0x0410 := by
    intro k sid h
    have h' : (if 5 = k then ctxOn else Ctx.zero).binding = some sid := h
    split at h'
    · exact ⟨by omega, (Option.some.inj h').symm⟩
    · cases h'
  refine ⟨fun i b h => ?_, fun i j a b h1 h2 _ => by rw [(hw i a h1).1, (hw j b h2).1], fun k sid h => ?_⟩
  · obtain ⟨rfl, rfl⟩ := hw i b h
    exact ⟨by cases e <;> decide, by decide, by decide, rfl⟩
  · obtain ⟨rfl, rfl⟩ := hc k sid h
    exact ⟨80, rfl⟩

/-! ### Witnesses: Engine Parameters and time -/

theorem witness_structural_writes :
    State.reset.canRun sender 0 ∧ (State.reset.access 0).permits 0 = true
      ∧ ({ State.reset with mgmt := { State.reset.mgmt with lock := true } } : State).mgmt.lock = true
      ∧ (up .running).mgmt.lock = false ∧ (up .running).mgmt.engine ≠ .paused
      ∧ State.reset.mgmt.lock = false ∧ State.reset.mgmt.engine = .paused :=
  ⟨can_reset, by decide⟩

theorem witness_OutputRateWrite :
    (up .paused).canRun sender 0 ∧ ((up .paused).access 0).permits 0 = true
      ∧ (241 : Word).toNat ∉ rates ∧ (60 : Word).toNat ∈ rates ∧ (60 : Word).toNat ≠ (up .paused).params.rate
      ∧ (up .paused).store.hLow ≠ 0 ∧ (30 : Word).toNat = (up .paused).params.rate
      ∧ State.reset.store.hLow = 0 ∧ State.reset.store.floor = 0
      ∧ (((up .paused).ctx 5).enabled = true ∧ compatible 50 ((up .paused).ctx 5).desc.rate = false)
      ∧ (∀ k, k ≤ 255 → (State.reset.ctx k).enabled = true → compatible 60 (State.reset.ctx k).desc.rate = true)
      ∧ (∀ n, n ≤ 7 → (State.reset.profile n).enabled = true → 60 % (State.reset.profile n).decimation = 0)
      ∧ ((up .paused).profile 0).enabled = true :=
  ⟨can_up (by decide), permits_up _ _, by decide, by decide, by decide, by decide, by decide, rfl, rfl, by decide,
    fun _ _ h => (by cases h), fun _ _ h => (by cases h), by decide⟩

theorem witness_StructuralParameterWrites :
    State.reset.canRun sender 0 ∧ (State.reset.access 0).permits 0 = true ∧ 4 ≤ (4 : Word).toNat
      ∧ (3 : Word).toNat = mapSelectCode .foldrot ∧ (80 < 1024 ∧ ((up .paused).way 80).isSome = true)
      ∧ (∀ i, i < 1024 → State.reset.way i = none) ∧ 2 ≤ (2 : Word).toNat ∧ (1 : Word).toNat = ppsEdgeCode .falling :=
  ⟨can_reset, rfl, by decide, rfl, by decide, fun _ _ => rfl, by decide, rfl⟩

theorem witness_CSatWriteClampsConfidences :
    (up .running).canRun sender 0 ∧ ((up .running).access 0).permits 0 = true ∧ (up .running).canonical :=
  ⟨can_up (by decide), rfl, canonical_up _⟩

/-- The power-on limits are 10 and 20,000. -/
theorem witness_WindowParameterWrites :
    let p := (up .running).params
    (up .running).canRun sender 0 ∧ ((up .running).access 0).permits 0 = true
      ∧ p.wMax < clampNat 1 40000 (20001 : Word).toNat ∧ clampNat 1 40000 (20000 : Word).toNat ≤ p.wMax
      ∧ clampNat 1 40000 (9 : Word).toNat < p.wMin ∧ p.wMin ≤ clampNat 1 40000 (10 : Word).toNat ∧ p.wMin ≤ p.wMax
      ∧ 2 ≤ (2 : Word).toNat ∧ (1 : Word).toNat < 2 ∧ (3 : Word).toNat ∉ [1, 2, 4, 8] ∧ (8 : Word).toNat ∈ [1, 2, 4, 8]
      ∧ (8 : Word).toNat ∉ [16, 32, 64, 128] ∧ (128 : Word).toNat ∈ [16, 32, 64, 128] :=
  ⟨can_up (by decide), rfl, by decide⟩

/-- The power-on watermarks are 1024 and 256. -/
theorem witness_WatermarkAndHoldoverWrites :
    let p := (up .running).params
    (up .running).canRun sender 0 ∧ ((up .running).access 0).permits 0 = true
      ∧ min (255 : Word).toNat 4095 < p.wm2 ∧ p.wm2 ≤ min (256 : Word).toNat 4095
      ∧ p.wm1 < min (1025 : Word).toNat 4095 ∧ min (1024 : Word).toNat 4095 ≤ p.wm1 :=
  ⟨can_up (by decide), rfl, by decide⟩

theorem witness_EngineParameterWrites :
    (up .running).canRun sender 0 ∧ 22 < (23 : Half).toNat ∧ ((up .running).access 0).permits 0 = true :=
  ⟨can_up (by decide), by decide, rfl⟩

theorem witness_CurrentSlotIsLargest : (30 : Nat) ∈ rates ∧ State.reset.params.rate = 30 ∧ 3000 < 3001
    ∧ (up .running).gnow = 3000 := by decide

theorem witness_TagSlotAndResidualTicks :
    (240 : Nat) ∈ rates ∧ 1 ≤ 1073741823 ∧ 1073741822 < 1073741823 ∧ 4294967295 < 2 ^ 32
      ∧ slotIndexOf 240 1073741823 1073741822 = 240 ∧ slotIndexOf 240 1073741823 0 < 240
      ∧ 2 * (25000 * 20) + 1000000 = 2 * (slotIndexOf 20 1000000 25000 * 1000000) := by decide

theorem witness_RoundingAndSaturation : 0 < 2 ∧ 2 * (roundDiv (-5) 2 * 2 - -5).natAbs = 2 ∧ (30 : Nat) ∈ rates
    ∧ pairSaturates { multiplier := 2 } (2000000000, 0) = true := by decide

/-- A LOCKED TRU with a remainder, and one in HOLDOVER. -/
theorem witness_OwnQualityCode :
    State.reset.tru.state = .unset ∧ (up .running).tru.state = .locked
      ∧ ({ state := .holdover, elapsedHoldover := 600 } : Tru).state = .holdover
      ∧ ({ state := .holdover, elapsedHoldover := 600 } : Tru).quality 50 = 9
      ∧ ({ state := .freerun } : Tru).state = .freerun
      ∧ (let s : State :=
          { up .running with store := { (up .running).store with ring := [(56, { g := 3000, state := .opened })] } }
        s.canonical ∧ (s.slot 3000).state = .opened) := by unfold State.canonical; decide

/-- A slew of either sign, at the last phase before a correction, and a wait that is not over. -/
theorem witness_SlewedLocalTime :
    let t : Tru := { slew := 3, slewPhase := 9999 }
    let u : Tru := { slew := -3, slewPhase := 0 }
    t.slewPhase < 10000 ∧ 0 ≤ t.slew ∧ (t.elapse 1).slew ≠ 0 ∧ u.slew ≤ 0 ∧ u.slewPhase = 0
      ∧ 10000 * u.slew.natAbs ≤ 30000 ∧ 4 < u.timeFor 5 := by decide

/-- A valid message announcing 1,700,000,000, the same marked not valid, one whose check byte is wrong, and one without a
sync byte. -/
theorem witness_TodMessageTaken :
    let good : List Byte := [0xA5, 0x81, 0x65, 0x53, 0xF1, 0x00, 0x00, 0x31]
    let stale : List Byte := [0xA5, 0x01, 0x65, 0x53, 0xF1, 0x00, 0x00, 0xB1]
    let bad : List Byte := [0xA5, 0x80, 0x00, 0x00, 0x00, 0x00, 0x00, 0x00]
    let none_ : List Byte := [0, 0, 0, 0, 0, 0, 0, 0]
    good.length = 8 ∧ stale.length = 8 ∧ bad.length = 8 ∧ none_.length = 8 ∧ State.reset.tru.todBuf = []
      ∧ byteAt good 0 = 0xA5 ∧ (byteAt good 1 &&& 0x70) = 0 ∧ byteAt good 6 = 0
      ∧ (good.map BitVec.toNat).sum % 256 = 0 ∧ (byteAt good 1).getLsbD 7 = true ∧ field good 2 4 = 1700000000
      ∧ (up .running).tru.state ≠ .unset ∧ State.reset.tru.state = .unset
      ∧ todLayoutOk stale = true ∧ (byteAt stale 1).getLsbD 7 = false
      ∧ byteAt bad 0 = 0xA5 ∧ todLayoutOk bad = false ∧ (∀ x ∈ bad.tail, x ≠ 0xA5)
      ∧ State.reset.tru.todHunting = true ∧ (∀ x ∈ none_, x ≠ 0xA5) := by decide

/-- A TRU with bytes held of a message that is not whole. -/
def todHeld (bytes : List Byte) : State :=
  { up .running with tru := { (up .running).tru with todBuf := bytes, todHunting := true } }

/-- A failed message with a sync byte in its tail, a sync byte inside eight bytes, and five bytes held that three more make
whole. -/
theorem witness_tod_hunt :
    let failed : List Byte := [0xA5, 0x80, 0, 0xA5, 0x81, 0x65, 0x53, 0xF1]
    let inside : List Byte := [0, 0x11, 0xA5, 0x81, 0x65, 0x53, 0xF1, 0x00]
    let s := todHeld [0xA5, 0x81, 0x65, 0x53, 0xF1]
    (failed.length = 8 ∧ byteAt failed 0 = 0xA5 ∧ todLayoutOk failed = false
        ∧ failed.tail = [0x80, 0] ++ [0xA5, 0x81, 0x65, 0x53, 0xF1] ∧ (∀ x ∈ [(0x80 : Byte), 0], x ≠ 0xA5)
        ∧ byteAt [0xA5, 0x81, 0x65, 0x53, 0xF1] 0 = 0xA5)
      ∧ (State.reset.tru.todHunting = true ∧ State.reset.tru.todBuf = []
        ∧ inside = [0, 0x11] ++ [0xA5, 0x81, 0x65, 0x53, 0xF1, 0x00] ∧ (∀ x ∈ [(0 : Byte), 0x11], x ≠ 0xA5)
        ∧ (State.reset.tru.todBuf ++ [0xA5, 0x81, 0x65, 0x53, 0xF1, 0x00]).length < 8)
      ∧ (s.tru.todBuf ≠ [] ∧ (s.tru.todBuf ++ [0, 0, 0x31]).length = 8 ∧ todLayoutOk (s.tru.todBuf ++ [0, 0, 0x31]) = true
        ∧ todLayoutOk (s.tru.todBuf ++ [0, 0, 0x32]) = false ∧ (s.tru.todBuf ++ [0, 0]).length < 8) := by decide

/-- A TRU in a state, with an announcement held or none, and its counts. -/
def truIn (x : TruState) (held : Option Nat) (n : Nat) : Tru :=
  { (up .running).tru with state := x, held := held, qualified := n, unqualifiedRun := n, mismatchRun := n }

theorem witness_EdgesUntilFirstLock :
    (30 : Nat) ∈ rates ∧ (up .waitTime).params.rate = 30 ∧ (up .waitTime).mgmt.engine = .waitTime
      ∧ PpsEdge.falling ≠ (up .running).params.ppsEdge ∧ State.reset.tru.state = .unset
      ∧ (truIn .acquiring none 0).edgeQualified = false
      ∧ ((truIn .acquiring (some 100) 1).edgeQualified = true ∧ (truIn .acquiring (some 100) 1).qualified < 2)
      ∧ ((truIn .acquiring (some 100) 2).edgeQualified = true ∧ 2 ≤ (truIn .acquiring (some 100) 2).qualified
        ∧ (truIn .acquiring (some 100) 2).held = some 100) := by decide

theorem witness_EdgesInLocked :
    PpsEdge.rising = (up .running).params.ppsEdge ∧ (truIn .locked (some 100) 0).state = .locked
      ∧ (truIn .locked (some 100) 0).edgeQualified = true
      ∧ 100 = ((truIn .locked (some 100) 0).now + 500000000) / 1000000000
      ∧ 101 ≠ ((truIn .locked (some 101) 1).now + 500000000) / 1000000000 ∧ (truIn .locked (some 101) 1).mismatchRun < 2
      ∧ 2 ≤ (truIn .locked (some 101) 2).mismatchRun ∧ (truIn .locked (some 101) 2).edgeQualified = true
      ∧ (truIn .locked none 1).edgeQualified = false ∧ (truIn .locked none 1).unqualifiedRun < 2
      ∧ 2 ≤ (truIn .locked none 2).unqualifiedRun := by decide

/-- Offsets of 1,000,000 ns and of one more. -/
theorem witness_RelockBySlewOrStep :
    let near : Tru := { truIn .holdover (some 100) 2 with now := 99999000000 }
    let far : Tru := { truIn .freerun (some 100) 2 with now := 99998999999 }
    near.state = .holdover ∧ far.state = .freerun ∧ (truIn .holdover none 0).edgeQualified = false
      ∧ ((truIn .freerun (some 100) 1).edgeQualified = true ∧ (truIn .freerun (some 100) 1).qualified < 2)
      ∧ near.edgeQualified = true ∧ 2 ≤ near.qualified ∧ near.held = some 100
      ∧ (((100 : Nat) : Int) * 1000000000 - near.now).natAbs ≤ 1000000
      ∧ far.edgeQualified = true ∧ 1000000 < (((100 : Nat) : Int) * 1000000000 - far.now).natAbs
      ∧ (up .running).mgmt.engine ≠ .waitTime ∧ (up .waitTime).mgmt.engine = .waitTime := by decide

theorem witness_EdgeTimerAndHoldoverSecond :
    State.reset.tru.edgeTimer = none ∧ ({ edgeTimer := some 5 } : Tru).edgeTimer = some 5
      ∧ ({ edgeTimer := some 5 } : Tru).state = .unset ∧ (truIn .acquiring none 0).state = .acquiring
      ∧ (truIn .locked none 0).state = .locked ∧ (truIn .holdover none 0).state = .holdover := by decide

/-! ### Witnesses: intake and placement -/

theorem witness_FrameArrivalAtLink :
    2048 < (List.replicate 2049 (0 : Byte)).length ∧ (List.replicate 2048 (0 : Byte)).length ≤ 2048
      ∧ (List.replicate 15 ({ source := 1, bytes := [0] } : InFrame)).length < 16
      ∧ 16 ≤ (List.replicate 16 ({ source := 1, bytes := [0] } : InFrame)).length := by
  simp only [List.length_replicate]; decide

/-- A part with one frame at link A. -/
def framed (e : EngineState) (bs : List Byte) : State :=
  { up e with intake := { (up e).intake with linkA := { (up e).intake.linkA with fifo := [{ source := 1, bytes := bs }] } } }

theorem framed_takes (e : EngineState) (bs : List Byte) :
    (framed e bs).takesNext .a { source := 1, bytes := bs } [] := ⟨rfl, rfl, .inl rfl⟩

theorem witness_FrameTakeClassifies :
    let ok (bs : List Byte) : Prop := 8 ≤ bs.length ∧ byteAt bs 0 = 0xE3 ∧ field bs 2 2 = bs.length
    let foreign : List Byte := [0xE3, 0x12, 0, 8, 0, 0, 0, 0]
    let directive : List Byte := [0xE3, 0x31, 0, 8, 0xE0, 0, 0, 0]
    (State.reset.intake.linkA.fifo = [] ∧ State.reset.intake.linkB.fifo = [])
      ∧ (∀ bs, (framed .running bs).takesNext .a { source := 1, bytes := bs } [])
      ∧ ¬ok [0xE3, 0x11, 0, 7, 0, 0, 0] ∧ (ok foreign ∧ byteAt foreign 1 ≠ 0x11 ∧ byteAt foreign 1 ≠ 0x31)
      ∧ (ok directive ∧ byteAt directive 1 = 0x31 ∧ field directive 4 2 = (up .running).params.mgmtId)
      ∧ (up .running).mgmt.queue.length < 4
      ∧ 4 ≤ (List.replicate 4 ({ source := 1, bytes := [0] } : InFrame)).length :=
  ⟨by decide, fun bs => framed_takes _ bs, by decide, by decide, by decide, by decide, by decide⟩

/-- A report from 0x0410 with one RECT16 channel, second 100 and a fraction of 65,536 f + g ticks. -/
def report (f g : Half) : List Byte :=
  [0xE3, 0x11, 0, 22, 0x04, 0x10, 1, 0, 0, 0, 0, 100] ++ beBytes 2 f.toNat ++ beBytes 2 g.toNat ++ [0, 0, 0, 1, 0, 2]

/-- The fractions 1,000,000 (no valid tag), 50 (50 µs, on the grid), 51 and 16,666 (off the grid). -/
theorem witness_ReportAdmission :
    (∀ e bs, (framed e bs).takesNext .a { source := 1, bytes := bs } [])
      ∧ headerOk (report 0 0) = true ∧ byteAt (report 0 0) 1 = 0x11 ∧ 18 + 4 ≤ (report 0 0).length
      ∧ 2 * field (report 0 0) 18 2 < 256 ^ 2
      ∧ parseReport ((report 0 0).take 21) = none
      ∧ (parseReport (report 0 0)).map (fun r => (r.streamId, r.seconds, r.ticks)) = some (0x0410, 100, 0)
      ∧ (parseReport (report 15 16960)).map (fun r => r.ticks) = some 1000000
      ∧ (parseReport (report 0 51)).map (fun r => r.ticks) = some 51
      ∧ State.reset.lookup 0x0410 = none ∧ (up .running).lookup 0x0410 = some 5
      ∧ (State.reset.ctx 5).enabled = false ∧ ((up .running).ctx 5).enabled = true
      ∧ ((parseReport (report 0 0)).map fun r => layoutAgrees r ctxOn.desc) = some true
      ∧ ((parseReport (report 0 0)).map fun r => layoutAgrees r { ctxOn.desc with channels := 2 }) = some false
      ∧ (residualNs 30 1000000 50).natAbs ≤ 1000 * ctxOn.desc.tolerance
      ∧ ¬(residualNs 30 1000000 51).natAbs ≤ 1000 * ctxOn.desc.tolerance
      ∧ ctxOn.desc.policy = .discard ∧ ({ ctxOn.desc with policy := .snap } : Descriptor).policy = .snap
      ∧ period 30 ctxOn.desc.rate = some 1 ∧ ctxOn.highest ≠ some 3000
      ∧ ({ ctxOn with highest := some 3000 } : Ctx).highest = some 3000 :=
  ⟨fun e bs => framed_takes e bs, by decide⟩

theorem witness_LookupFindsBinding :
    (up .running).mapLawful ∧ (up .running).lookup 0x0410 = some 5
      ∧ (up .running).way 80 = some { streamId := 0x0410, ctx := 5 } := ⟨map_up _, by decide⟩

/-- A placement request of context 5 for slot g. -/
def req (g : Nat) : Placement :=
  { ctx := 5, g := g, residual := 0, offGrid := false, awaitable := true, flags := 0, quality := 0, pairs := [(1, 2)]
    freq := none }

/-- The part with a placement request and ring records. -/
def placing (e : EngineState) (r : Tbl Slot) (g : Nat) : State :=
  { ringed e r with intake := { (up e).intake with busy := some (req g) } }

/-- Slot 3000 stands at position 56 of the ring, and Gnow is 3000. -/
theorem witness_PlacementDiscards :
    let later : State := { placing .running [] 3064 with tru := { (up .running).tru with now := 103000000000 } }
    let full : State := { placing .running [(56, slotRec 3000 .opened)] 3000 with
      store := { (up .running).store with ring := [(56, slotRec 3000 .opened)], freeList := [] } }
    let held : State := placing .running [(56, { slotRec 3000 .opened with arrived := 32 })] 3000
    State.reset.intake.busy = none ∧ (placing .running [] 3000).intake.busy = some (req 3000)
      ∧ (placing .running [] 2999).lateFor 2999 ∧ (placing .running [(56, slotRec 3000 .emitting)] 3000).lateFor 3000
      ∧ (¬(placing .running [] 3003).lateFor 3003 ∧ (placing .running [] 3003).gnow + 2 < 3003)
      ∧ (¬later.lateFor 3064 ∧ 3064 ≤ later.gnow + later.params.lead ∧ later.store.hLow + 64 ≤ 3064)
      ∧ (¬(placing .draining [] 3002).lateFor 3002 ∧ 3002 ≤ (placing .draining [] 3002).gnow + 2
        ∧ ((placing .draining [] 3002).slot 3002).state = .free)
      ∧ (held.placeable 3000 ∧ (held.slot 3000).state ≠ .free ∧ CtxSet.has (held.slot 3000).arrived 5 = true)
      ∧ (full.placeable 3000 ∧ CtxSet.has (full.slot 3000).arrived 5 = false ∧ full.store.freeList = []
        ∧ (full.slot full.store.hLow).state = .opened) := by
  unfold State.placeable State.lateFor; decide

theorem witness_PlacementDiscards_engine :
    ((placing .resetting [] 3000).intake.busy = some (req 3000) ∧ (placing .resetting [] 3000).mgmt.engine = .resetting)
      ∧ ¬(placing .paused [] 3000).lateFor 3000 ∧ (placing .paused [] 3000).mgmt.engine ≠ .running
      ∧ ((placing .paused [] 3000).slot 3000).state = .free := by
  unfold State.lateFor; decide

set_option maxRecDepth 10000 in
theorem witness_PlacementAccepts :
    let early : State := placing .running [(56, slotRec 3000 .opened)] 3000
    let s : State := { early with tru := { early.tru with now := 99999999999 } }
    let more : State := placing .running [(56, { slotRec 3000 .opened with awaited := 48 })] 3000
    let done : State := placing .draining [(56, slotRec 3000 .emitting), (57, slotRec 3001 .complete)] 3001
    early.canonical ∧ early.intake.busy = some (req 3000) ∧ early.mgmt.engine = .running ∧ early.placeable 3000
      ∧ ((early.slot 3000).state = .opened ∧ CtxSet.has (early.slot 3000).arrived 5 = false
        ∧ early.store.freeList = [7, 9]
        ∧ CtxSet.minus (early.slot 3000).awaited (CtxSet.add (early.slot 3000).arrived 5) = 0
        ∧ early.instant 3000 ≤ early.tru.now)
      ∧ s.tru.now < s.instant 3000
      ∧ CtxSet.minus (more.slot 3000).awaited (CtxSet.add (more.slot 3000).arrived 5) ≠ 0
      ∧ (done.slot 3001).state = .complete ∧ done.placeable 3001
      ∧ ((placing .running [] 3000).slot 3000).state = .free
      ∧ (((placing .running [] 3000).openSlot 3000).slot 3000).state = .opened := by
  unfold State.placeable State.lateFor State.canonical; decide

/-- A request for slot H_low while no context is awaitable. -/
def placingUnawaited : State :=
  { placing .running [] 3000 with params := { (placing .running [] 3000).params with cAwait := 15 } }

set_option maxRecDepth 10000 in
theorem witness_PlacementAccepts_emitting :
    let s := placingUnawaited
    let none_ : State := { s with store := { s.store with freeList := [] } }
    s.canonical ∧ s.intake.busy = some (req 3000) ∧ s.mgmt.engine ≠ .resetting ∧ s.placeable 3000
      ∧ (s.slot 3000).state = .free ∧ 3000 = s.store.hLow ∧ s.awaitedFor 3000 = 0 ∧ s.instant 3000 ≤ s.tru.now
      ∧ s.store.freeList = [7, 9]
      ∧ none_.canonical ∧ none_.placeable 3000 ∧ none_.awaitedFor 3000 = 0 ∧ none_.store.freeList = [] := by
  unfold State.placeable State.lateFor State.canonical; decide

set_option maxRecDepth 10000 in
theorem witness_SlotOpening :
    let none_ : State := { up .running with ctxs := [] }
    (slotRec 3000 .opened).g = 3000 ∧ (slotRec 3000 .opened).state ≠ .free ∧ period 60 20 = some 3 ∧ period 30 25 = none
      ∧ (up .running).canonical ∧ (up .running).awaitedFor 3000 ≠ 0
      ∧ none_.awaitedFor 3000 = 0 ∧ none_.instant 3000 ≤ none_.tru.now ∧ none_.tru.now < none_.instant 3001 :=
  ⟨rfl, by decide, by decide, by decide, canonical_up _, by decide⟩

theorem witness_SlotLeavesOpen :
    let s := ringed .running [(56, slotRec 3000 .opened), (57, slotRec 3001 .opened)]
    s.canonical ∧ (s.slot 3000).state = .opened ∧ 3000 = s.store.hLow ∧ (s.slot 3001).state = .opened
      ∧ 3001 ≠ s.store.hLow ∧ CtxSet.has (s.slot 3000).awaited 5 = true ∧ CtxSet.has (s.slot 3000).arrived 5 = false := by
  unfold State.canonical; decide

/-- The next instant slot is 3001, at position 57. -/
theorem witness_InstantEventTaken :
    let at_ (g : Nat) (s : State) : State := { s with tru := { s.tru with nextInstant := g } }
    let wait := slotRec 3001 .opened
    2999 < (at_ 2999 (up .running)).store.hLow ∧ (up .running).tru.nextInstant = 3001
      ∧ ((up .running).store.hLow ≤ 3001 ∧ (up .running).store.floor ≤ 3001 ∧ 3001 ≤ (up .running).store.hLow + 63)
      ∧ ((ringed .draining [(57, slotRec 3001 .closed)]).slot 3001).state = .closed
      ∧ (((up .draining).slot 3001).state = .free ∧ (up .draining).mgmt.engine ≠ .running)
      ∧ (((up .running).slot 3001).state = .free ∧ (up .running).mgmt.engine = .running)
      ∧ CtxSet.minus ((ringed .running [(57, wait)]).slot 3001).awaited ((ringed .running [(57, wait)]).slot 3001).arrived ≠ 0
      ∧ (let s := ringed .running [(57, { wait with arrived := 32 })]
        (s.slot 3001).state = .opened ∧ CtxSet.minus (s.slot 3001).awaited (s.slot 3001).arrived = 0
          ∧ s.instant 3001 ≤ (s.waitLocal (s.instant 3001)).tru.now)
      ∧ (up .running).store.hLow + 64 ≤ (at_ 3064 (up .running)).tru.nextInstant
      ∧ ((up .running).slot (up .running).store.hLow).state ≠ .opened
      ∧ ((ringed .running [(56, slotRec 3000 .opened)]).slot 3000).state = .opened := by decide

theorem witness_DeadlineExpiryCloses :
    let s := ringed .running [(56, slotRec 3000 .opened)]
    let whole := ringed .running [(56, { slotRec 3000 .opened with arrived := 32 })]
    s.canonical ∧ ((up .running).slot 3000).state ≠ .opened ∧ (s.slot 3000).state = .opened
      ∧ CtxSet.minus (s.slot 3000).awaited (s.slot 3000).arrived ≠ 0
      ∧ CtxSet.minus (whole.slot 3000).awaited (whole.slot 3000).arrived = 0
      ∧ whole.instant 3000 ≤ (whole.waitLocal (whole.slot 3000).deadline).tru.now
      ∧ (let late := ringed .running [(56, { slotRec 3000 .opened with deadline := 99999999999 })]
        (late.slot 3000).state = .opened ∧ (late.slot 3000).deadline ≤ late.tru.now ∧ late.canonical
          ∧ late.tru.slewPhase < 10000 ∧ (late.tru.slew = 0 → late.tru.slewPhase = 0))
      ∧ s.tru.slewPhase < 10000
      ∧ s.tru.now < (s.slot 3000).deadline := by
  unfold State.canonical; decide

theorem witness_TimeStepClosesSlots :
    let s := { ringed .running [(56, slotRec 3000 .opened), (57, slotRec 3001 .complete), (58, slotRec 3002 .closed)] with
      tru := { (up .running).tru with now := 101000000000 } }
    let t := { up .running with tru := { (up .running).tru with now := 101000000000 } }
    s.canonical ∧ s.ringLawful ∧ (s.slot 3000).state = .opened ∧ (s.slot 3001).state = .complete
      ∧ (s.slot 3002).state = .closed ∧ (s.slot 3003).state = .free ∧ (s.slot s.store.hLow).state ≠ .free
      ∧ t.canonical ∧ t.ringLawful ∧ t.store.hLow < t.gnow + 1 ∧ (t.slot t.store.hLow).state = .free
      ∧ State.reset.store.hLow ≤ State.reset.gnow + 1 :=
  ⟨by unfold State.canonical; decide,
    lawful_of (by decide) (.inl rfl) (.inl rfl) rfl (by decide), by decide, by decide, by decide, by decide, by decide,
    by unfold State.canonical; decide,
    lawful_of (by decide) (.inl rfl) (.inl rfl) rfl (by decide), by decide, by decide, by decide⟩

/-! ### Witnesses: the window, composition and egress -/

theorem witness_WaitWindow :
    let p : Params := {}
    p.adaptation = true ∧ ({ p with adaptation := false } : Params).adaptation = false ∧ p.wMin ≤ p.wMax
      ∧ ({ closings := 14 } : Window).closings < 15 ∧ ({ closings := 15 } : Window).total = 0
      ∧ (3 * (8020 % 16) / 16 < (3 + 1) * (8020 % 16) / 16 ∧ (0 + 1) * (8020 % 16) / 16 ≤ 0 * (8020 % 16) / 16)
      ∧ (p.theta * 48 ≤ 16 * 6 ∧ p.wm1 ≤ 1024 ∧ 1023 < p.wm1) ∧ 16 * 5 < p.theta * 48 ∧ 0 < 48 := by decide

/-- The part as slot 3000 is composed, at profile n. -/
def composing (n : Nat) : State :=
  let s := ringed .running [(56, slotRec 3000 .emitting)]
  { s with composer := { s.composer with working := some { g := 3000, next := n } } }

/-- The part as slot 3000 is composed for profile 0, which batches with a depth. -/
def batching (depth : Nat) : State :=
  { composing 0 with profiles := [(0, { enabled := true, dest := 7, count := 1, cls := .low, depth := depth })] }

theorem witness_CompositionStepTurns :
    let s := composing 0
    let one_ : State := { batching 2 with composer := { (batching 2).composer with
      holding := [(0, { sets := [[1, 2]], timer := some 5 })] } }
    State.reset.composer.working = none ∧ s.composer.working = some { g := 3000, next := 0 } ∧ s.quiet ∧ s.canonical
      ∧ ((s.profile 0).enabled = true ∧ 3000 % (s.profile 0).decimation = 0 ∧ (s.profile 0).depth = 0)
      ∧ ((composing 6).profile 6).enabled = false ∧ (composing 6).quiet
      ∧ ((batching 2).quiet ∧ (batching 2).canonical ∧ ((batching 2).holding 0).sets = []
        ∧ ((batching 2).holding 0).sets.length + 1 < ((batching 2).profile 0).depth)
      ∧ (one_.quiet ∧ one_.canonical ∧ batchLength (one_.holding 0).sets [3] ≤ 65535
        ∧ (one_.profile 0).depth ≤ (one_.holding 0).sets.length + 1)
      ∧ ((composing 7).composer.working = some { g := 3000, next := 7 } ∧ (composing 7).quiet ∧ (composing 7).canonical) := by
  have q : ∀ s : State, s.quiet = _ := fun s => by unfold State.quiet; rfl
  have c : ∀ s : State, s.canonical = _ := fun s => by unfold State.canonical; rfl
  refine ⟨rfl, rfl, ?_, ?_, by decide, by decide, ?_, ⟨?_, ?_, by decide, by decide⟩, ⟨?_, ?_, by decide, by decide⟩,
    rfl, ?_, ?_⟩
  all_goals simp only [q, c]; decide

/-- The part as slot 3000 is composed for profile 0, with a set held. -/
def holdingOne (x : List Byte) : State :=
  { batching 3 with composer := { (batching 3).composer with holding := [(0, { sets := [x], timer := some 5 })] } }

/-- The size rule: a set of 65,527 bytes is held, with which no other set fits. -/
theorem witness_size_rule :
    ∃ s : State, s.composer.working = some { g := 3000, next := 0 } ∧ s.quiet ∧ s.canonical ∧ (s.profile 0).enabled = true
      ∧ (s.slot 3000).g % (s.profile 0).decimation = 0 ∧ (s.holding 0).sets ≠ []
      ∧ 65535 < batchLength (s.holding 0).sets (s.buildSet 0 (s.slot 3000)) ∧ 2 ≤ (s.profile 0).depth := by
  obtain ⟨x, hx⟩ : ∃ x : List Byte, x.length = 65527 := ⟨List.replicate 65527 0, List.length_replicate⟩
  obtain ⟨h1, h2, h3, h4, h5, h6, h7, -, h9, h10⟩ : (batching 3).canonical := by unfold State.canonical; decide
  have hb : 0 < ((batching 3).buildSet 0 ((batching 3).slot 3000)).length := by decide
  have hq : (batching 3).mgmt.engine ≠ .draining := by decide
  have hl : (batching 3).egress.link ≠ .ready := by decide
  have hd : ((batching 3).slot 3000).g % ((batching 3).profile 0).decimation = 0 := by decide
  refine ⟨holdingOne x, rfl, ⟨rfl, rfl, rfl, Nat.zero_lt_succ 31, hl, fun h => hq h.1⟩,
    ⟨h1, h2, h3, h4, h5, h6, h7, ?_, h9, h10⟩, rfl, hd, List.cons_ne_nil _ _, ?_, Nat.le_succ 2⟩
  · simp [holdingOne, Tbl.wf, Holding.empty]
  · change 65535 < 8 + (x.length + 0) + ((batching 3).buildSet 0 ((batching 3).slot 3000)).length
    omega

theorem witness_SetFrameFields :
    let s := ringed .running [(56, { slotRec 3000 .emitting with cells := [7] })]
    let t : State := { s with store := { s.store with pool := [(7, { ctx := 5 })] } }
    t.cellOf (t.slot 3000) 5 = some { ctx := 5 } ∧ t.cellOf (t.slot 3000) 6 = none ∧ (t.ctx 6).binding = none
      ∧ (composing 0).cellOf ((composing 0).slot 3000) 5 = none ∧ (composing 0).expected 5 3000 = true
      ∧ (t.buildSet 0 (t.slot 3000)).length ≤ 65535
      ∧ (let c : Cell := { pairs := [(19500, -41)], quality := 15, freq := some (60000, -2147483648) }
        c.pairs[0]? = some (19500, -41) ∧ c.quality ≤ 15 ∧ ({ inclFreq := true } : Profile).inclFreq = true) := by decide

/-- Profile 7 is not enabled; with and without a slot that waits above, and a step floor further up. -/
theorem witness_CompositionReleasesSlot :
    let s := composing 7
    let t : State := { s with store := { s.store with
      ring := [(56, slotRec 3000 .emitting), (58, slotRec 3002 .closed)], floor := 3005 } }
    s.composer.working = some { g := 3000, next := 7 } ∧ s.quiet ∧ s.canonical ∧ s.ringLawful ∧ s.mgmt.engine = .running
      ∧ (s.profile 7).enabled = false
      ∧ t.quiet ∧ t.canonical ∧ t.ringLawful ∧ (t.slot 3002).state ≠ .free :=
  ⟨rfl, by unfold State.quiet; decide, by unfold State.canonical; decide,
    lawful_of (by decide) (.inl rfl) (.inr ⟨7, by decide, rfl, by decide⟩) rfl (by decide), rfl, by decide,
    by unfold State.quiet; decide, by unfold State.canonical; decide,
    lawful_of (by decide) (.inl rfl) (.inr ⟨7, by decide, rfl, by decide⟩) rfl (by decide), by decide⟩

/-- The last slot composed in RUNNING at a local time in nanoseconds. -/
def lateComposing (now : Nat) : State :=
  { composing 8 with tru := { (composing 8).tru with now := now } }

/-- Slot 3001, FREE, has its instant behind it when slot 3000 is released. -/
theorem witness_CompositionReleasesSlot_catchUp :
    let s := lateComposing 100034000000
    s.composer.working = some { g := 3000, next := 8 } ∧ s.mgmt.exec = .idle ∧ s.mgmt.formed = []
      ∧ s.composer.outbound = [] ∧ s.egress.link ≠ .ready ∧ s.mgmt.engine = .running ∧ s.gnow = 3001
      ∧ (s.slot 3001).state = .free ∧ s.catchUpSlots 3001 = [3001] ∧ s.canonical ∧ s.ringLawful :=
  ⟨rfl, rfl, rfl, rfl, by decide, rfl, by decide, by decide, by decide, by unfold State.canonical; decide,
    lawful_of (by decide) (.inl rfl) (.inr ⟨8, by decide, rfl, by decide⟩) rfl (by decide)⟩

/-- In DRAINING, at the last slot, with a set held. -/
theorem witness_CompositionReleasesSlot_draining :
    let s : State := { composing 8 with
      composer := { (composing 8).composer with holding := [(0, { sets := [[1, 2]], timer := some 5 })] }
      mgmt := { (composing 8).mgmt with engine := .draining } }
    s.composer.working = some { g := 3000, next := 8 } ∧ s.mgmt.exec = .idle ∧ s.mgmt.formed = []
      ∧ s.composer.outbound = [] ∧ s.egress.link ≠ .ready ∧ s.mgmt.engine = .draining
      ∧ s.egress.queue.length + s.heldBatches.length ≤ 32 ∧ s.heldBatches ≠ [] ∧ s.canonical ∧ s.ringLawful :=
  ⟨rfl, rfl, rfl, rfl, by decide, rfl, by decide, by decide, by unfold State.canonical; decide,
    lawful_of (by decide) (.inr (.inl rfl)) (.inr ⟨8, by decide, rfl, by decide⟩) rfl (by decide)⟩

/-- Held sets of profile 0 whose timer runs from the oscillator's 49.5 s; it now reads 50 s, and the limit is 1000 ms. -/
def holding_ : State :=
  { up .running with composer := { (up .running).composer with
      holding := [(0, { sets := [[1, 2]], timer := some 49500000000 })] } }

theorem witness_HoldLimitAndExpiry :
    let s := holding_
    (s.holding 1).timer = none ∧ (s.holding 0).timer = some 49500000000 ∧ (s.holding 0).sets ≠ [] ∧ s.quiet
      ∧ s.mgmt.engine ≠ .draining ∧ s.canRun sender 0 ∧ (s.access 0).permits 0 = true ∧ s.canonical
      ∧ (∀ n, n < 8 → ∀ t, (s.holding n).timer = some t → s.tru.osc < t + 501 * 1000000)
      ∧ 49500000000 + 500 * 1000000 ≤ s.tru.osc ∧ s.egress.queue.length < 31
      ∧ (∀ m, m < 8 → m ≠ 0 → (s.holding m).timer = none) :=
  ⟨by decide, by decide, by decide, by unfold State.quiet; decide, by decide, ⟨⟨rfl, rfl, rfl⟩, by decide⟩, rfl,
    by unfold State.canonical; decide,
    fun (n : Nat) _ t h => by
      have h' : (if 0 = n then ({ sets := [[1, 2]], timer := some 49500000000 } : Holding) else Holding.empty).timer = some t := h
      split at h'
      · have := Option.some.inj h'; subst this; decide
      · (cases h'),
    by decide, by decide, by decide⟩

/-- A queue entry of a class and kind, with a bypass count and an enqueue time. -/
def entry (c : PriorityClass) (k : FrameKind) (bypass at_ : Nat) : Entry :=
  { frame := { bytes := [0xE3], dest := 1, kind := k, cls := c }, enqueued := at_, bypass := bypass }

/-- The queue of 9.9.1, with the oscillator at 1 s. -/
def queue991 : List Entry :=
  [entry .low .batch 7 860000000, entry .medium .set 3 940000000, entry .high .answer 0 969000000,
    entry .variableClass .set 0 975000000]

theorem witness_LinkIndications :
    let s := up .running
    let t : State := { s with egress := { s.egress with queue := queue991 } }
    let sending : State := { s with egress := { s.egress with link := .sending (entry .low .batch 0 0).frame false } }
    s.mgmt.exec = .idle ∧ s.mgmt.formed = [] ∧ s.composer.outbound = [] ∧ s.mgmt.engine ≠ .draining
      ∧ s.egress.link = .waiting ∧ s.egress.queue = []
      ∧ choosePosition s.params 1000000000 t.egress.queue = some 2
      ∧ queue991[2]? = some (entry .high .answer 0 969000000)
      ∧ sending.egress.link = .sending (entry .low .batch 0 0).frame false := by decide

/-- A full queue of HIGH entries; an answer waits, or the composer with two frames. -/
theorem witness_LinkIndications_full :
    let full : Egress := { queue := List.replicate 32 (entry .high .answer 0 0), composerWaits := true }
    let f := (entry .medium .set 0 0).frame
    let s : State := { up .running with
      egress := full, mgmt := { (up .running).mgmt with exec := .waiting (entry .high .answer 0 0).frame } }
    let t : State := { up .running with egress := full, composer := { (up .running).composer with outbound := [f, f] } }
    let ready : State := { up .running with egress := { link := .ready } }
    (s.mgmt.exec = .waiting (entry .high .answer 0 0).frame ∧ s.composer.outbound = [] ∧ s.mgmt.engine ≠ .draining
        ∧ s.egress.link = .waiting)
      ∧ (t.mgmt.exec = .idle ∧ t.mgmt.formed = [] ∧ t.composer.outbound = f :: [f] ∧ t.egress.composerWaits = true
        ∧ f.endsFlush = false ∧ t.egress.link = .waiting ∧ f.cls ≠ .low ∧ (∀ o ∈ t.egress.queue, o.frame.cls ≠ .low))
      ∧ full.queue.length = 32 ∧ choosePosition {} 50000000000 full.queue = some 0
      ∧ full.queue[0]? = some (entry .high .answer 0 0) ∧ ready.egress.link = .ready ∧ ready.egress.queue = [] := by decide

theorem witness_SelectionChooses :
    queue991 ≠ [] ∧ (entry .variableClass .set 0 975000000).effective {} 1000000000 = .high
      ∧ (entry .variableClass .set 0 980000000).effective {} 1000000000 = .medium
      ∧ (entry .low .batch 8 0).limited {} 1000000000 = true ∧ (entry .medium .set 4 0).limited {} 1000000000 = true := by
  decide

/-- The last batch frame of a flush waits to enter a queue, with the flush's answer deferred. -/
def flushing (q : List Entry) (c : PriorityClass) : State :=
  { up .running with
    composer := { (up .running).composer with
      outbound := [{ (entry c .batch 0 0).frame with endsFlush := true }], flushBusy := true }
    egress := { queue := q, composerWaits := true }
    mgmt := { (up .running).mgmt with deferredFlush := some { source := sender.source, tag := 0x77 } } }

/-- A full queue of HIGH entries takes the frame that ends a flush: with it the queue holds a LOW entry, or none. -/
theorem witness_LinkIndications_flush :
    let q := List.replicate 32 (entry .high .answer 0 0)
    let s := flushing q .low
    let f := { (entry .low .batch 0 0).frame with endsFlush := true }
    s.mgmt.exec = .idle ∧ s.mgmt.formed = [] ∧ s.composer.outbound = [f] ∧ s.egress.composerWaits = true
      ∧ s.mgmt.deferredFlush = some { source := sender.source, tag := 0x77 } ∧ s.egress.link = .waiting ∧ q.length = 32
      ∧ choosePosition s.params s.tru.osc q = some 0 ∧ q[0]? = some (entry .high .answer 0 0)
      ∧ f.cls = .low ∧ (flushing q .medium).composer.outbound.map (·.cls) = [.medium]
      ∧ (∀ o ∈ q.drop 1, o.frame.cls ≠ .low) := by decide

/-- The part with a READY link and an empty queue. -/
def ready (s : State) : State := { s with egress := { link := .ready } }

theorem readyForOne_up : (ready (up .running)).readyForOne := by unfold State.readyForOne; decide

/-- A set meets a READY link, at the turn of a profile before the last. -/
theorem witness_composition_at_ready_link :
    let s := ready (composing 0)
    s.composer.working = some { g := 3000, next := 0 } ∧ s.composer.outbound = [] ∧ s.mgmt.exec = .idle ∧ s.mgmt.formed = []
      ∧ s.egress.link = .ready ∧ s.egress.queue = [] ∧ 1 ≤ s.params.highBypassMax ∧ 1 ≤ s.params.lowBypassMax
      ∧ (s.profile 0).enabled = true ∧ (s.slot 3000).g % (s.profile 0).decimation = 0 ∧ (s.profile 0).depth = 0 := by decide

theorem witness_OffersToTheQueue :
    let low := entry .low .batch 0 0
    let high := entry .high .answer 0 0
    (List.replicate 31 high).length < 32
      ∧ ([high] ++ low :: List.replicate 30 high).length = 32 ∧ low.frame.cls = .low ∧ (∀ o ∈ [high], o.frame.cls ≠ .low)
      ∧ 32 ≤ (List.replicate 32 high).length ∧ (∀ o ∈ List.replicate 32 high, o.frame.cls ≠ .low) := by decide

/-- A composer's offer, and a composition step whose set meets a full queue of HIGH entries. -/
theorem witness_OffersToTheQueue_composer :
    let f := (entry .medium .set 0 0).frame
    let s : State := { up .running with composer := { (up .running).composer with outbound := [f] } }
    let t : State := { composing 0 with egress := { queue := List.replicate 32 (entry .high .answer 0 0) } }
    (s.composer.outbound = f :: [] ∧ f.endsFlush = false ∧ s.egress.composerWaits = false)
      ∧ ((flushing [] .low).composer.outbound.map (·.endsFlush) = [true] ∧ (flushing [] .low).mgmt.deferredFlush.isSome = true)
      ∧ t.composer.working = some { g := 3000, next := 0 } ∧ t.composer.outbound = [] ∧ t.mgmt.exec = .idle
      ∧ t.mgmt.formed = [] ∧ t.egress.link ≠ .ready ∧ t.egress.queue.length = 32
      ∧ (∀ o ∈ t.egress.queue, o.frame.cls ≠ .low) ∧ t.egress.composerWaits = false ∧ (t.profile 0).enabled = true
      ∧ (t.slot 3000).g % (t.profile 0).decimation = 0 ∧ (t.profile 0).depth = 0 := by decide

/-! ### Witnesses: directives -/

/-- A state with one directive frame of the sender in the directive queue. -/
def headed (s : State) (k : DirectiveCode) (o : Byte) (i : Half) (c st : Byte) (data : List Byte) : State :=
  { s with mgmt := { s.mgmt with
      queue := [{ source := sender.source
                  bytes := ([0xE3, 0x31] ++ beBytes 2 (16 + data.length) ++ [0xE0, 0]) ++ beBytes 2 sender.tag.toNat
                    ++ [codeByte k, o] ++ beBytes 2 i.toNat ++ [c, st] ++ [0, 0] ++ data }] } }

theorem headed_is (s : State) (k : DirectiveCode) (o : Byte) (i : Half) (c st : Byte) (data : List Byte) :
    (headed s k o i c st data).headIs sender k o i c st data [] := ⟨_, [0, 0], rfl, rfl, rfl⟩

/-- DIRECTIVE_TAKE delivers the frame at the head. -/
theorem headed_delivers (s : State) (k : DirectiveCode) (o : Byte) (i : Half) (c st : Byte) (data : List Byte) :
    Delivers (headed s k o i c st data) .directiveTake sender k (directive sender k o i.toNat c st data)
      { s with mgmt := { s.mgmt with queue := [] } } :=
  .inr ⟨rfl, o, i, c, st, data, [], headed_is s k o i c st data, rfl, rfl⟩

/-- LOCK_CONFIG from the sender at the head of the directive queue. -/
def queued : State := headed (up .running) .lockConfig 0 0 0 0 []

theorem witness_DirectiveTakeRunsTheHead :
    State.reset.mgmt.queue = [] ∧ queued.mgmt.exec = .idle ∧ queued.headIs sender .lockConfig 0 0 0 0 [] []
      ∧ directiveOf (.lockConfig sender)
        = some (sender, .lockConfig, directive sender .lockConfig 0 (0 : Half).toNat 0 0 []) :=
  ⟨rfl, rfl, headed_is _ _ _ _ _ _ _, rfl⟩

/-- An answer with a cause and one without. -/
theorem witness_answer_frames :
    (refusedEntry .locked).cause = some .locked ∧ (reply .done).cause = none
      ∧ CtxSet.has (CtxSet.add (0 : CtxSet) 255) 255 = true := by decide

/-- A directive frame of 8 bytes, and one of code 0x31. -/
theorem witness_malformed_directives :
    let none_ : List Byte := [0xE3, 0x31, 0, 8, 0xE0, 0, 0x12, 0x34]
    let odd : List Byte := [0xE3, 0x31, 0, 9, 0xE0, 0, 0x12, 0x34, 0x31]
    none_.length = 8 ∧ 8 ≤ odd.length ∧ (∀ k, byteAt odd 8 ≠ codeByte k) ∧ (up .running).knows sender 0 :=
  ⟨rfl, by decide, fun k => by cases k <;> decide, rfl, rfl, rfl⟩

theorem witness_DirectiveChecksInOrder :
    let managed : State := up .running |>.setManager 2 { source := 9, cls := 2, enabled := true }
    let denied : State := up .running |>.setAccess 1 { level := 0, deny := 15 }
    let badStep : Instr := .readEntries sender 0 0 1 2
    let badTable : Instr := .readEntries sender 8 0 1 0
    let short : Instr := .writeProfiles sender (one 0 [])
    (∃ i, i < 4 ∧ (managed.manager i).enabled = true ∧ (managed.manager i).source = 9) ∧ managed.senderClass 9 = some 2
      ∧ managed.senderClass 8 = none ∧ (∀ i, i < 4 → ((up .running).manager i).enabled = false)
      ∧ ({ level := 1, deny := 4 } : Access).permits 1 = true ∧ ({ level := 1, deny := 4 } : Access).permits 2 = false
      ∧ (∃ d, directiveOf badTable = some (sender, .readEntries, d) ∧ 7 < d.option.toNat)
      ∧ (∃ d, directiveOf badStep = some (sender, .readEntries, d) ∧ d.option.toNat ≤ 7 ∧ fieldsOk .readEntries d = false)
      ∧ (∃ d, directiveOf short = some (sender, .writeEntries, d) ∧ d.option.toNat ≤ 7
        ∧ fieldsOk .writeEntries d = true ∧ d.length ≠ directiveLength .writeEntries d)
      ∧ (∃ d, directiveOf (.bindStream sender 1 2) = some (sender, .bindStream, d) ∧ wellFramed .bindStream d)
      ∧ denied.permitted .bindStream 2 = false ∧ (up .resetting).mgmt.engine = .resetting
      ∧ (up .resetting).knows sender 0
      ∧ ((placing .running [] 3000).mgmt.exec = .idle ∧ (placing .running [] 3000).intake.busy ≠ none)
      ∧ ({ up .running with mgmt := { (up .running).mgmt with
          exec := .waiting (entry .high .answer 0 0).frame } } : State).mgmt.exec ≠ .idle :=
  ⟨⟨2, by decide⟩, by decide, by decide, by decide, by decide, by decide, ⟨_, rfl, by decide⟩, ⟨_, rfl, by decide⟩,
    ⟨_, rfl, by decide⟩, ⟨_, rfl, by unfold wellFramed; decide⟩, by decide, rfl, ⟨rfl, rfl, rfl⟩, by decide, by decide⟩

/-- Taken from the directive queue: a RESUME with a byte too many, a SET_STREAM_STATE of option 2, a selector 6, a transfer of no
entry and one of 65; and a PAUSE that passes these checks. -/
theorem witness_directive_checks_of_the_queue :
    let v : State := { up .running with mgmt := { (up .running).mgmt with queue := [] } }
    v.knows sender 0 ∧ v.senderClass sender.source = some 0 ∧ v.intake.busy = none
      ∧ Delivers (headed (up .running) .resume 0 0 0 0 [1]) .directiveTake sender .resume (directive sender .resume 0 0 0 0 [1]) v
      ∧ (fieldsOk .resume (directive sender .resume 0 0 0 0 [1]) = true
        ∧ (directive sender .resume 0 0 0 0 [1]).length ≠ directiveLength .resume (directive sender .resume 0 0 0 0 [1]))
      ∧ fieldsOk .setStreamState (directive sender .setStreamState 2 5 0 0 []) = false
      ∧ fieldsOk .readStatus (directive sender .readStatus 6 0 0 0 []) = false
      ∧ fieldsOk .readEntries (directive sender .readEntries 0 0 0 1 []) = false
      ∧ fieldsOk .readEntries (directive sender .readEntries 0 0 65 1 []) = false
      ∧ fieldsOk .readEntries (directive sender .readEntries 0 0 64 0xFF []) = true
      ∧ wellFramed .pause (directive sender .pause 0 0 0 0 []) :=
  ⟨⟨rfl, rfl, rfl⟩, rfl, rfl, headed_delivers _ _ _ _ _ _ _, by decide, by decide, by decide, by decide, by decide, by decide,
    by unfold wellFramed; decide⟩

/-- Tables 0 (23 entries) and 7, walks that stay inside and walks that leave at either end. -/
theorem witness_ReadEntriesReturnsEntries :
    (up .running).canRun sender 0 ∧ (7 : Byte).toNat ≤ 7 ∧ 1 ≤ (64 : Byte).toNat ∧ (64 : Byte).toNat ≤ 64
      ∧ stepOf 0xFF = some (-1) ∧ lastIndex 0 = 22
      ∧ (∀ i : Nat, i < 2 → (0 : Int) ≤ ((1 : Half).toNat : Int) + i * (-1))
      ∧ ((1 : Half).toNat : Int) + (2 : Nat) * (-1) < 0
      ∧ (∀ i : Nat, i < 1 → ((22 : Half).toNat : Int) + i * 1 ≤ lastIndex 0)
      ∧ (lastIndex 0 : Int) < ((22 : Half).toNat : Int) + (1 : Nat) * 1 :=
  ⟨can_up (by decide), by decide⟩

theorem witness_WriteTransferStopsAtFailure :
    Delivers (up .running) (.writeMemberLists sender { start := 1022, count := 3, step := 1, data := [0, 5, 0, 6, 0, 7] }) sender
        .writeEntries (writeDirective sender 5 { start := 1022, count := 3, step := 1, data := [0, 5, 0, 6, 0, 7] }) (up .running)
      ∧ (up .running).canRun sender 0 ∧ stepOf 1 = some 1 ∧ [0, 5, 0, 6, 0, (7 : Byte)].length = 3 * entrySize 5 :=
  ⟨.inl ⟨rfl, rfl⟩, can_up (by decide), rfl, rfl⟩

/-- The values of the first transfer of 10.7.2. -/
def values1072 : List Byte := beBytes 4 5000 ++ beBytes 4 4000 ++ beBytes 4 7200 ++ beBytes 4 0

/-- The first transfer of 10.7.2: four Engine Parameters, by DIRECTIVE_TAKE. -/
theorem witness_parameter_transfer :
    let v : State := { up .running with mgmt := { (up .running).mgmt with queue := [] } }
    Delivers (headed (up .running) .writeEntries 0 15 4 1 values1072) .directiveTake sender .writeEntries
        (writeDirective sender 0 { start := 15, count := 4, step := 1, data := values1072 }) v
      ∧ v.canRun sender 0 ∧ stepOf 1 = some 1 ∧ values1072.length = 4 * entrySize 0 :=
  ⟨headed_delivers _ _ _ _ _ _ _, ⟨⟨rfl, rfl, rfl⟩, by decide⟩, rfl, rfl⟩

theorem witness_TableWriteGuards :
    let s := up .running
    let closed (n : Nat) : State := s |>.setAccess n { level := 0, deny := 15 } |>.setManager 0
      { source := sender.source, cls := 1, enabled := true }
    let noQueue (u : State) : State := { u with mgmt := { u.mgmt with queue := [] } }
    Delivers s (.writeMemberLists sender (one 1023 [0, 5])) sender .writeEntries (writeDirective sender 5 (one 1023 [0, 5])) s
      ∧ Delivers s (.writeStreamMap sender (one 0 (beBytes 8 0))) sender .writeEntries
        (writeDirective sender 1 (one 0 (beBytes 8 0))) s
      ∧ Delivers s (.writeWatermark sender .wm1 5000) sender .writeEntries (writeDirective sender 0 (one 15 (beBytes 4 5000))) s
      ∧ Delivers (headed (closed 0) .writeEntries 0 22 1 0 (beBytes 4 5)) .directiveTake sender .writeEntries
        (writeDirective sender 0 (one 22 (beBytes 4 5))) (noQueue (closed 0))
      ∧ s.canRun sender 0 ∧ (one 1023 [0, 5]).count = 1 ∧ (stepOf 0).isSome = true
      ∧ (one 1023 [0, 5]).data.length = entrySize 5 ∧ (beBytes 8 0).length = entrySize 1 ∧ (beBytes 4 5).length = entrySize 0
      ∧ lastIndex 5 < (1024 : Half).toNat ∧ (1023 : Half).toNat ≤ lastIndex 5 ∧ lastIndex 0 < (23 : Half).toNat
      ∧ (closed 5).canRun sender 1 ∧ ((closed 5).access 5).permits 1 = false ∧ (s.access 5).permits 0 = true
      ∧ (noQueue (closed 0)).canRun sender 1 ∧ ((noQueue (closed 0)).access 0).permits 1 = false :=
  ⟨.inl ⟨rfl, rfl⟩, .inl ⟨rfl, rfl⟩, .inl ⟨rfl, rfl⟩, headed_delivers _ _ _ _ _ _ _, can_up (by decide), rfl, rfl, rfl, rfl, rfl,
    by decide, by decide, by decide, ⟨⟨rfl, by decide, rfl⟩, by decide⟩, by decide, rfl,
    ⟨⟨rfl, by decide, rfl⟩, by decide⟩, by decide⟩

theorem mayWrite_up {table : Nat} {i : Half} {data : List Byte} (hd : data.length = entrySize table)
    (hi : i.toNat ≤ lastIndex table) (e : EngineState) (he : e ≠ .resetting) :
    (up e).mayWrite sender table (one i data) := by
  refine ⟨0, can_up he, ?_, rfl, rfl, rfl, hd, hi⟩
  unfold State.permits; split <;> rfl

/-- The entry of the descriptor in use, the same with 17 channels; a calibration with shift 31 and one with 32. -/
theorem witness_ContextAndCalibrationWrites :
    let e : List Byte := [0, 1, 0, 0, 30, 0, 0, 50] ++ beBytes 4 1000000 ++ beBytes 36 0
    (up .running).mayWrite sender 2 (one 5 e) ∧ (up .running).mayWrite sender 2 (one 255 (e.set 1 17))
      ∧ ((up .running).ctx 5).enabled = true ∧ ((up .running).ctx 255).enabled = false
      ∧ descriptorOf e = some ctxOn.desc ∧ descriptorOf (e.set 1 17) = none
      ∧ (up .running).mayWrite sender 3 (one 4095 [0, 3, 31, 0, 0x40, 0, 0xC0, 0])
      ∧ (up .running).mayWrite sender 3 (one 0 [0, 3, 32, 0, 0x40, 0, 0xC0, 0])
      ∧ signedField [0, 3, 31, 0, 0x40, 0, 0xC0, 0] 4 2 = 16384
      ∧ signedField [0, 3, 31, 0, 0x40, 0, 0xC0, 0] 6 2 = -16384 :=
  ⟨mayWrite_up rfl (by decide) _ (by decide), mayWrite_up rfl (by decide) _ (by decide), by decide, by decide, by decide,
    by decide, mayWrite_up rfl (by decide) _ (by decide), mayWrite_up rfl (by decide) _ (by decide), by decide, by decide⟩

theorem witness_ProfileMemberAndManagerWrites :
    let e : List Byte := [0, 1, 15, 1, 0, 0, 0, 7, 3, 0xFF, 1, 0, 240, 3, 16, 0]
    let managed : State := up .running |>.setManager 2 { source := 9, cls := 2, enabled := true }
    (up .running).mayWrite sender 4 (one 7 e) ∧ (profileOf e).isSome = true ∧ profileOf (e.set 14 1) = none
      ∧ ((up .running).profile 0).enabled = true ∧ ((up .running).profile 7).enabled = false
      ∧ (up .running).mayWrite sender 5 (one 0 [0, 255])
      ∧ (0 < 8 ∧ ((up .running).profile 0).base ≤ 0 ∧ 0 < ((up .running).profile 0).base + ((up .running).profile 0).count)
      ∧ (up .running).memberInUse 1 = false ∧ 255 < field [1, 0] 0 2 ∧ field [0, 255] 0 2 ≤ 255
      ∧ (up .running).mayWrite sender 6 (one 3 [0, 0, 0, 9, 3, 1, 0, 0])
      ∧ 3 < (byteAt [0, 0, 0, 9, 4, 1, 0, 0] 4).toNat ∧ (2 ≠ 3 ∧ (managed.manager 2).enabled = true ∧ (managed.manager 2).source = 9)
      ∧ (up .running).mayWrite sender 7 (one 7 [3, 15]) ∧ 3 < (byteAt [4, 15] 0).toNat ∧ 15 < (byteAt [3, 16] 1).toNat :=
  ⟨mayWrite_up rfl (by decide) _ (by decide), by decide, by decide, by decide, by decide,
    mayWrite_up rfl (by decide) _ (by decide), by decide, by decide, by decide, by decide,
    mayWrite_up rfl (by decide) _ (by decide), by decide, by decide, mayWrite_up rfl (by decide) _ (by decide), by decide,
    by decide⟩

theorem witness_EntriesReadBack :
    ctxOn.desc.channels ≤ 16 ∧ ctxOn.desc.rate ∈ rates ∧ 1 ≤ ctxOn.desc.timeBase ∧ ctxOn.desc.timeBase ≤ 1073741823
      ∧ ctxOn.desc.tolerance ≤ 65535 ∧ Conversion.zero.shift ≤ 31 ∧ Conversion.zero.rotC ≤ 16384
      ∧ Profile.zero.base ≤ 1023 ∧ Profile.zero.count ≤ 256 ∧ 1 ≤ Profile.zero.decimation ∧ Profile.zero.depth ≠ 1
      ∧ Manager.zero.cls ≤ 3 ∧ Access.zero.level ≤ 3
      ∧ (let s := up .running |>.setCtx 5 { ctxOn with expected := some 3001, highest := some 3000 }
        s.way 79 = none ∧ s.way 80 = some { streamId := 0x0410, ctx := 5 } ∧ (s.ctx 5).binding = some 0x0410
        ∧ (s.ctx 5).expected = some 3001 ∧ (s.ctx 5).highest = some 3000 ∧ (s.conversion 80).rotC ≤ 32767
        ∧ -32768 ≤ (s.conversion 80).rotD) := by decide

/-- 0x0411 falls in another bucket than 0x0410 (its low byte differs), and 0x1004 in the same (0x10 xor 0x04). -/
theorem witness_BindAndUnbind :
    let off : State := (up .running).setCtx 5 { ctxOn with enabled := false }
    let full : State := { up .running with map := (List.range 4).map fun i =>
      (80 + i, some { streamId := BitVec.ofNat 16 (0x2000 + i), ctx := 100 + i }) }
    (up .running).canRun sender 0 ∧ ((up .running).access 1).permits 0 = true ∧ (up .running).mgmt.lock = false
      ∧ 255 < (256 : Half).toNat ∧ (255 : Half).toNat ≤ 255 ∧ ((up .running).ctx 5).enabled = true
      ∧ (off.ctx 5).enabled = false ∧ (off.ctx 5).binding = some 0x0410
      ∧ bucketOf .fold 0x1004 = 20 ∧ ((up .running).ctx 6).binding = none
      ∧ ((up .running).way 80 ≠ none ∧ (up .running).way 81 = none) ∧ (∀ w, w < 4 → full.way (20 * 4 + w) ≠ none)
      ∧ off.mapLawful ∧ off.way 80 = some { streamId := 0x0410, ctx := 5 } := by
  refine ⟨can_up (by decide), rfl, rfl, by decide, by decide, by decide, by decide, by decide, by decide, by decide,
    by decide, by decide, ?_, by decide⟩
  have h := map_up .running
  have hc : ∀ k, (((up .running).setCtx 5 { ctxOn with enabled := false }).ctx k).binding = ((up .running).ctx k).binding := by
    intro k
    change (Tbl.get Ctx.zero (Tbl.set Ctx.zero [(5, ctxOn)] 5 { ctxOn with enabled := false }) k).binding =
      (Tbl.get Ctx.zero [(5, ctxOn)] k).binding
    rw [Sys2Proof.Laws.get_set (by decide)]
    by_cases hk : k = 5
    · subst hk; rfl
    · rw [if_neg (Ne.symm hk)]
  refine ⟨fun i b hb => ?_, h.2.1, fun k sid hk => ?_⟩
  · rw [hc]; exact h.1 i b hb
  · rw [hc] at hk; exact h.2.2 k sid hk

theorem witness_StreamEnableAndDisable :
    let unbound : State := State.reset
    let off : State := (up .running).setCtx 5 { ctxOn with enabled := false }
    let other : State := (up .running).setCtx 5 { ctxOn with enabled := false, desc := { ctxOn.desc with rate := 50 } }
    (up .running).canRun sender 0 ∧ ((up .running).access 2).permits 0 = true ∧ 255 < (256 : Half).toNat
      ∧ (unbound.ctx 255).binding = none ∧ compatible 30 (other.ctx 5).desc.rate = false
      ∧ (compatible 30 (off.ctx 5).desc.rate = true ∧ (off.ctx 5).enabled = false ∧ (off.ctx 5).binding ≠ none)
      ∧ ((up .running).ctx 5).enabled = true ∧ (up .running).canonical ∧ (up .running).ringLawful :=
  ⟨can_up (by decide), rfl, by decide, by decide, by decide, by decide, by decide, canonical_up _, lawful_up _⟩

/-- Slot 3000 awaits context 5 alone; slot 3001 awaits 4 and 5, and its instant has not passed. -/
theorem witness_disable_reevaluates :
    let s := ringed .running [(56, slotRec 3000 .opened), (57, { slotRec 3001 .opened with awaited := 48 })]
    s.canRun sender 0 ∧ (s.access 2).permits 0 = true ∧ (s.ctx 5).enabled = true ∧ s.canonical ∧ s.ringLawful
      ∧ (s.slot 3000).state = .opened
      ∧ CtxSet.minus (CtxSet.remove (s.slot 3000).awaited 5) (s.slot 3000).arrived = 0 ∧ s.instant 3000 ≤ s.tru.now
      ∧ CtxSet.minus (CtxSet.remove (s.slot 3001).awaited 5) (s.slot 3001).arrived ≠ 0 :=
  ⟨⟨⟨rfl, rfl, rfl⟩, by decide⟩, rfl, by decide, by unfold State.canonical; decide,
    lawful_of (by decide) (.inl rfl) (.inl rfl) rfl (by decide), by decide⟩

theorem witness_ProfileEnableAndDisable :
    let with_ (p : Profile) : State := { State.reset with profiles := [(7, p)] }
    State.reset.canRun sender 0 ∧ (State.reset.access 4).permits 0 = true ∧ 7 < (8 : Half).toNat
      ∧ ((up .running).profile 0).enabled = true ∧ ((up .running).holding 0).sets = []
      ∧ 1024 < ((with_ { base := 1023, count := 2 }).profile 7).base + ((with_ { base := 1023, count := 2 }).profile 7).count
      ∧ 30 % ((with_ { decimation := 4 }).profile 7).decimation ≠ 0
      ∧ ((with_ { depth := 2 }).profile 7).depth ≠ 0 ∧ ((with_ { depth := 2 }).profile 7).cls ≠ .low
      ∧ ((with_ { count := 2 }).member 0 = (with_ { count := 2 }).member 1)
      ∧ ((with_ { count := 1 }).profile 7).count = 1
      ∧ ((holding_.profile 0).enabled = true ∧ (holding_.holding 0).sets ≠ [] ∧ holding_.quiet ∧ holding_.canonical
        ∧ holding_.egress.queue.length < 31 ∧ holding_.mgmt.engine ≠ .draining) :=
  ⟨can_reset, rfl, by decide, by decide, by decide, by decide, by decide, by decide, by decide, by decide, by decide,
    by decide, by decide, by unfold State.quiet; decide, by unfold State.canonical; decide, by decide, by decide⟩

theorem witness_EngineStateDirectives :
    let s := ringed .running [(56, slotRec 3000 .opened), (57, slotRec 3001 .complete)]
    (up .waitTime).canRun sender 0 ∧ ((up .waitTime).access 0).permits 0 = true ∧ (up .waitTime).mgmt.engine ≠ .paused
      ∧ State.reset.tru.state = .unset ∧ State.reset.mgmt.engine = .paused
      ∧ ((up .paused).tru.state = .locked ∧ (up .paused).canonical ∧ (up .paused).ringLawful)
      ∧ ((up .running).ringFree = true ∧ (up .running).composerEmpty = true)
      ∧ (s.ringFree = false ∧ s.holdingEmpty = true ∧ (s.slot s.store.hLow).state ≠ .complete
        ∧ (s.slot s.store.hLow).state ≠ .closed) ∧ s.canonical ∧ s.ringLawful :=
  ⟨can_up (by decide), rfl, by decide, rfl, rfl, ⟨rfl, canonical_up _, lawful_up _⟩, by decide, by decide,
    by unfold State.canonical; decide, lawful_of (by decide) (.inl rfl) (.inl rfl) rfl (by decide)⟩

/-- A set held, with and without a slot in the ring. -/
theorem witness_drain_with_sets_held :
    let s : State := { holding_ with store := { holding_.store with ring := [(56, slotRec 3000 .opened)] } }
    (holding_.canRun sender 0 ∧ holding_.mgmt.engine = .running ∧ holding_.quiet ∧ holding_.canonical ∧ holding_.ringLawful
        ∧ holding_.egress.queue.length + holding_.heldBatches.length + 1 ≤ 32 ∧ holding_.ringFree = true)
      ∧ (s.canRun sender 0 ∧ s.mgmt.engine = .running ∧ s.quiet ∧ s.canonical ∧ s.ringLawful
        ∧ s.egress.queue.length + s.heldBatches.length + 1 ≤ 32 ∧ s.ringFree = false) :=
  ⟨⟨⟨⟨rfl, rfl, rfl⟩, by decide⟩, rfl, by unfold State.quiet; decide, by unfold State.canonical; decide,
      lawful_of (fun _ h => absurd h List.not_mem_nil) (.inl rfl) (.inl rfl) rfl (by decide), by decide⟩,
    ⟨⟨rfl, rfl, rfl⟩, by decide⟩, rfl, by unfold State.quiet; decide, by unfold State.canonical; decide,
      lawful_of (by decide) (.inl rfl) (.inl rfl) rfl (by decide), by decide⟩

theorem witness_EngineResetAndScrub :
    let s : State := { up .resetting with
      store := { (up .resetting).store with scrubbing := true }
      mgmt := { (up .resetting).mgmt with deferredReset := some { source := 1, tag := 2 } } }
    (up .running).canRun sender 0 ∧ (up .running).mgmt.formed = [] ∧ (up .running).mgmt.deferredFlush = none
      ∧ (up .running).egress.link ≠ .ready ∧ (up .running).canonical
      ∧ (up .running).store.scrubbing = false ∧ s.store.scrubbing = true
      ∧ s.mgmt.deferredReset = some { source := 1, tag := 2 } ∧ s.mgmt.exec = .idle ∧ s.composer.outbound = []
      ∧ s.egress.queue.length < 32 ∧ s.egress.link ≠ .ready :=
  ⟨can_up (by decide), rfl, rfl, by decide, canonical_up _, by decide⟩

/-- The state of 9.9.4: 30 set entries and two answers in the queue, with kind k in place of the set entries. -/
def state994 (k : FrameKind) : State :=
  let s := flushing (List.replicate 30 (entry .medium k 0 0) ++ List.replicate 2 (entry .high .answer 0 0)) .low
  { s with egress := { s.egress with link := .sending (entry .medium .set 0 0).frame false } }

/-- With 30 set entries two entries are kept; with 32 answers all of them are. -/
theorem witness_EngineReset_with_a_flush :
    (∀ k, (state994 k).canRun sender 0 ∧ (state994 k).mgmt.formed = [] ∧ (state994 k).egress.link ≠ .ready
        ∧ (state994 k).mgmt.deferredFlush = some { source := sender.source, tag := 0x77 } ∧ (state994 k).canonical)
      ∧ ((state994 .set).egress.queue.filter fun e => e.frame.kind == .answer).length < 32
      ∧ 32 ≤ ((state994 .answer).egress.queue.filter fun e => e.frame.kind == .answer).length
      ∧ (∀ e ∈ (state994 .answer).egress.queue, e.frame.cls ≠ .low) := by
  refine ⟨fun k => ⟨⟨⟨rfl, rfl, rfl⟩, by cases k <;> decide⟩, rfl, by simp [state994], rfl, ?_⟩, by decide, by decide, by decide⟩
  exact (show (state994 k).canonical = (up .running).canonical from rfl) ▸ canonical_up .running

/-- Sets held of profiles 0 and 3. -/
def heldTwo : State :=
  { holding_ with composer := { holding_.composer with
      holding := [(0, { sets := [[1, 2]], timer := some 49500000000 }), (3, { sets := [[3], [4, 5]], timer := some 49600000000 })] } }

/-- Two lists held, with room in the queue, and with a full queue of HIGH entries. -/
theorem witness_flush_of_two_lists :
    let full : State := { heldTwo with egress := { queue := List.replicate 32 (entry .high .answer 0 0) } }
    (heldTwo.canRun sender 0 ∧ (heldTwo.access 0).permits 0 = true ∧ heldTwo.composer.flushBusy = false
        ∧ heldTwo.heldBatches.length = 2 ∧ heldTwo.quiet
        ∧ heldTwo.egress.queue.length + heldTwo.heldBatches.length + 1 ≤ 32 ∧ heldTwo.mgmt.engine ≠ .draining
        ∧ heldTwo.canonical)
      ∧ (full.canRun sender 0 ∧ (full.access 0).permits 0 = true ∧ full.composer.flushBusy = false ∧ full.heldBatches ≠ []
        ∧ full.mgmt.formed = [] ∧ full.egress.link ≠ .ready ∧ 32 ≤ full.egress.queue.length
        ∧ (∀ o ∈ full.egress.queue, o.frame.cls ≠ .low) ∧ full.canonical) :=
  ⟨⟨⟨⟨rfl, rfl, rfl⟩, by decide⟩, rfl, rfl, by decide, by unfold State.quiet; decide, by decide, by decide,
      by unfold State.canonical; decide⟩,
    ⟨⟨rfl, rfl, rfl⟩, by decide⟩, rfl, rfl, by decide, rfl, by decide, by decide, by decide,
    by unfold State.canonical; decide⟩

theorem witness_FlushClearAndLock :
    let busy : State := { up .running with composer := { (up .running).composer with flushBusy := true } }
    busy.canRun sender 0 ∧ (busy.access 0).permits 0 = true ∧ busy.composer.flushBusy = true
      ∧ (∀ n, n < 8 → ((up .running).holding n).sets = []) ∧ (up .running).canRun sender 0 ∧ (up .running).canonical
      ∧ (holding_.canRun sender 0 ∧ (holding_.holding 0).sets ≠ [] ∧ (∀ m, m < 8 → m ≠ 0 → (holding_.holding m).sets = [])
        ∧ holding_.quiet ∧ holding_.egress.queue.length < 31 ∧ holding_.canonical) :=
  ⟨⟨⟨rfl, rfl, rfl⟩, by decide⟩, rfl, rfl, by decide, can_up (by decide), canonical_up _, ⟨⟨rfl, rfl, rfl⟩, by decide⟩, by decide,
    by decide, by unfold State.quiet; decide, by decide, by unfold State.canonical; decide⟩

theorem witness_ReadStatusRecords :
    (up .resetting).mgmt.exec = .idle ∧ (up .resetting).senderClass sender.source = some 0 ∧ 5 < (6 : Byte).toNat
      ∧ (5 : Byte).toNat ≤ 5 ∧ (0 : Byte).toNat ≤ 5 ∧ (up .resetting).intake.busy = none
      ∧ (-2147483648 ≤ (up .resetting).tru.slew ∧ (up .resetting).tru.slew ≤ 2147483647)
      ∧ (up .resetting).egress.queue = [] ∧ (up .resetting).composer.working = none
      ∧ queue991 = entry .low .batch 7 860000000 :: queue991.tail ∧ 1000000000 - 860000000 = 1000 * 140000
      ∧ 140000 < 2 ^ 32 ∧ (composing 8).composer.working = some { g := 3000, next := 8 } := by decide

/-! ### Witnesses: the machine as a whole -/

theorem witness_StepRunsFrontCommand :
    let u := (up .running).elapse 1
    (up .running).pending = [] ∧ u.tru.now < (up .running).instant 3001 ∧ (up .running).tru.edgeTimer = none
      ∧ (up .running).tru.state ≠ .holdover ∧ (∀ n, n < 8 → ((up .running).holding n).timer = none) := by decide

/-- The invariants hold of the part as it runs, with a step to take. -/
theorem witness_invariants :
    let s := up .running
    s.canonical ∧ s.bounded ∧ s.params.inRange ∧ s.windowInLimits ∧ s.truInRange ∧ s.mapLawful ∧ s.ringLawful
      ∧ s.tru.slewPhase < 10000 ∧ ({ s with mgmt := { s.mgmt with lock := true } } : State).mgmt.lock = true
      ∧ s.pending.head? = none ∧ step s = .next s.tick
      ∧ (let p : State := { s with pending := [.instantEvent] }
        (∀ pins, p.pending.head? ≠ some (.powerOnReset pins)) ∧ p.tru.slewPhase < 10000
          ∧ step p = exec .instantEvent s) := by
  refine ⟨canonical_up _, ?_, ?_, ?_, ?_, map_up _, lawful_up _, by decide, rfl, rfl, rfl,
    ⟨fun _ h => by simp at h, by decide, rfl⟩⟩
  · unfold State.bounded LinkIn.bounded; decide
  · unfold Params.inRange; decide
  · unfold State.windowInLimits; decide
  · unfold State.truInRange; decide

theorem witness_confidence_and_fit :
    let s := up .running
    s.confidenceInRange ∧ s.contextsFit ∧ s.profilesFit ∧ s.awaitedEnabled := by
  refine ⟨fun k => ?_, fun k h => ?_, fun n h => ?_, fun i k h => ?_⟩
  · change (if 5 = k then ctxOn else Ctx.zero).confidence ≤ 8
    split <;> decide
  · have h' : (if 5 = k then ctxOn else Ctx.zero).enabled = true := h
    split at h'
    · rename_i hk; subst hk; decide
    · cases h'
  · have h' : (if 0 = n then ({ enabled := true, dest := 7, count := 1 } : Profile) else Profile.zero).enabled = true := h
    split at h'
    · rename_i hn; subst hn; decide
    · cases h'
  · have h' : CtxSet.has 0 k = true := h
    simp [CtxSet.has] at h'

theorem conserved_of {s : State} (hf : s.store.freeList = List.range 4096) (hr : s.store.ring = []) : s.cellsConserved := by
  unfold State.cellsConserved
  rw [hf, hr, List.flatMap_nil, List.append_nil]

/-- A ring without records, and every cell free. -/
theorem witness_cells :
    State.reset.cellsConserved ∧ State.reset.ringLawful ∧ State.reset.canonical ∧ State.reset.awaitedEnabled := by
  refine ⟨conserved_of Sys2Proof.Laws.reset_freeList rfl, lawful_of (fun _ h => absurd h List.not_mem_nil) (.inr (.inr rfl)) (.inl rfl)
    rfl (by decide), by unfold State.canonical; decide, fun _ k h => ?_⟩
  have h' : CtxSet.has 0 k = true := h
  simp [CtxSet.has] at h'

/-! ### One step of each command, expected results from the rules and the worked sequences -/

set_option maxRecDepth 8000

/-- A valid message that announces 1,700,000,000. -/
def todGood : List Byte := [0xA5, 0x81, 0x65, 0x53, 0xF1, 0x00, 0x00, 0x31]

/-- R161. -/
theorem test_power_on_reads_pins : (after (.powerOnReset 5) (up .running)).params.mgmtId = 0xE005 := by decide
/-- 2.12.1, its first row. -/
theorem test_tod_message_acquires :
    let t := (after (.todMessage 300000000 todGood) State.reset).tru
    t.state = .acquiring ∧ t.held = some 1700000000 ∧ t.now = 300000000 ∧ t.clockQuality = 1 := by decide
/-- R172: a sync byte found inside eight bytes, and the message made whole by the next two. -/
theorem test_tod_sync_inside :
    let t := after (.todMessage 0 [0, 0x11, 0xA5, 0x81, 0x65, 0x53, 0xF1, 0x00]) State.reset
    t.tru.todBuf = [0xA5, 0x81, 0x65, 0x53, 0xF1, 0x00] ∧ t.tru.counts.rejectedTod = 0
      ∧ (after (.todMessage 0 [0x00, 0x31]) t).tru.held = some 1700000000 := by decide
/-- 2.12.1, its last row: the third qualified edge. -/
theorem test_edge_first_lock :
    let s : State := { State.reset with tru := { State.reset.tru with
      state := .acquiring, qualified := 2, held := some 1700000002, osc := 1800004000, now := 1800004000
      prevEdge := some 1800004000 } }
    let t := (after (.ppsEdge 1000006000 .rising) s).tru
    t.state = .locked ∧ t.now = 1700000002000000000 ∧ t.nextInstant = 51000000061 ∧ t.quality 50 = 0 := by decide
/-- 2.12.1, the next edge: offset +10,000 ns, code 7. -/
theorem test_edge_matching :
    let s : State := { State.reset with tru := { State.reset.tru with
      state := .locked, held := some 1700000003, osc := 2800010000, now := 1700000002000000000
      prevEdge := some 2800010000 } }
    let t := (after (.ppsEdge 999990000 .rising) s).tru
    t.slew = 10000 ∧ t.quality 50 = 7 ∧ t.now = 1700000002999990000 := by decide
/-- 2.12.2: the edge timer's expiry, and the first second of HOLDOVER. -/
theorem test_edge_timer_enters_holdover :
    let s : State := { up .running with tru := { (up .running).tru with edgeTimer := some 50000000000 } }
    let t := after .edgeTimerExpiry s
    t.tru.state = .holdover ∧ t.tru.now = 101500000000
      ∧ ((after .holdoverSecond t).tru.elapsedHoldover, (after .holdoverSecond t).tru.quality 50) = (1, 1) := by decide
/-- R56. -/
theorem test_arrival_overflows :
    let l : LinkIn := { fifo := List.replicate 16 { source := 1, bytes := [0] } }
    let s : State := { up .running with intake := { (up .running).intake with linkB := l } }
    let t := (after (.frameArrival 0 .b 1 [0]) s).intake.linkB
    t.fifo.length = 16 ∧ t.overflow = 1 ∧ t.overflowFlag = true := by decide
/-- R46, R66: an on-grid report of slot 3000. -/
theorem test_take_admits_report :
    let t := after .frameTake (framed .running (report 0 0))
    t.intake.busy = some { ctx := 5, g := 3000, residual := 0, offGrid := false, awaitable := true, flags := 0
                           quality := 0, pairs := [(1, 2)], freq := none }
      ∧ (t.ctx 5).expected = some 3001 ∧ (t.ctx 5).confidence = 5 := by decide
/-- 5.4.1: the cell holds (19,500, -41); R96. -/
theorem test_placement_fills_cell :
    let s : State := { ringed .running [(56, { slotRec 3000 .opened with awaited := 48 })] with
      intake := { (up .running).intake with busy := some { req 3000 with pairs := [(12000, -5000)] } } }
    let t := after .placementRequest s
    (t.cell 7).pairs = [(19500, -41)] ∧ (t.slot 3000).cells = [7] ∧ t.store.freeList = [9] ∧ (t.ctx 5).highest = some 3000
      ∧ t.window.total = 1 := by decide
/-- R93, log entry 11: no slot opens for a request that meets the end of a drain. -/
theorem test_placement_after_drain :
    let t := after .placementRequest (placing .paused [] 3000)
    t.mgmt.pendingMap = 0 ∧ t.intake.counts.drainingClosed = 1 ∧ (t.ctx 5).counts.other = 1 := by decide
/-- R57, R67, log entry 11: PAUSE falls after the admission in progress, whose report is accepted first. -/
theorem test_directive_falls_after_admission :
    let s := placing .running [(56, { slotRec 3000 .opened with awaited := 48 })] 3000
    let t := after (.pause sender) s
    t.intake.busy = none ∧ t.intake.counts.accepted = 1 ∧ (t.slot 3000).cells = [7] ∧ t.mgmt.engine = .draining
      ∧ (after (.engineReset sender) s).intake.busy = none := by decide
/-- R87, R115: two free cells are fewer than WM2, so the deadline lies Wmin = 10 units of 100 µs after the instant. -/
theorem test_instant_opens_slot :
    let t := after .instantEvent (up .running)
    (t.slot 3001).state = .opened ∧ (t.slot 3001).deadline = 100034333333 ∧ (t.slot 3001).awaited = 32
      ∧ t.tru.nextInstant = 3002 := by decide
/-- R98, R99, R101. -/
theorem test_deadline_closes_lowest :
    let t := after (.deadlineExpiry 3000) (ringed .running [(56, slotRec 3000 .opened)])
    (t.slot 3000).state = .emitting ∧ (t.slot 3000).cause = some .deadline ∧ (t.ctx 5).confidence = 3
      ∧ t.tru.now = 100050000000 ∧ t.composer.working = some { g := 3000, next := 0 } := by decide
/-- R128, R130: a set whose one member is MISSING. -/
theorem test_composition_sends_set :
    let t := after .compositionStep (composing 0)
    t.egress.queue.map (fun e => e.frame.bytes) =
        [[0xE3, 0x21, 0, 26, 0, 0, 0, 1, 0, 0, 0, 100, 0, 0, 30, 0, 0, 0x40, 0, 0, 0, 0, 0x04, 0x10, 0x12, 0]]
      ∧ t.composer.counts.incomplete = 1 := by decide
/-- R102: slot 3000 is composed at profile 7's turn, and H_low advances. -/
theorem test_composition_releases :
    let t := after .compositionStep (composing 7)
    t.store.hLow = 3001 ∧ (t.slot 3000).state = .free ∧ t.composer.working = none ∧ t.store.composed = 1 := by decide
/-- R94 to R96 after R87 (log entry 15): the report joins the slot that its opening made EMITTING. -/
theorem test_placement_into_emitting :
    let t := after .placementRequest placingUnawaited
    (t.slot 3000).state = .emitting ∧ (t.slot 3000).cells = [7] ∧ t.composer.working = some { g := 3000, next := 0 }
      ∧ t.intake.counts.accepted = 1 := by decide
/-- R133, R159: a limit of 500 ms, which the timer has reached, sends the batch ahead of the answer (log entry 12). -/
theorem test_hold_limit_sends_batch_first :
    let t := after (.writeHoldLimit sender 500) holding_
    t.egress.queue.map (fun e => e.frame.kind) = [.batch, .answer] ∧ t.params.holdLimit = 500 ∧ (t.holding 0).sets = []
      ∧ t.composer.counts.holdExpiries = 1 := by decide
/-- R133. -/
theorem test_hold_expiry :
    let t := after (.holdExpiry 0) holding_
    t.tru.osc = 50500000000 ∧ (t.holding 0).sets = []
      ∧ t.egress.queue.map (fun e => e.frame.bytes) = [[0xE3, 0x22, 0, 10, 0, 0, 0, 1, 1, 2]] := by decide
/-- 9.9.1, selection 1, and the completion of its frame. -/
theorem test_selection_991 :
    let s : State := { up .running with
      egress := { (up .running).egress with queue := queue991 }
      tru := { (up .running).tru with osc := 1000000000 } }
    let t := after (.readyIndication 0) s
    t.egress.queue.map (fun e => (e.frame.cls, e.bypass)) = [(.low, 8), (.medium, 4), (.variableClass, 0)]
      ∧ (after (.completionIndication 0) t).egress.counts.answers = 1 := by decide
/-- R153, R157. -/
theorem test_directive_take_locks :
    let t := after .directiveTake queued
    t.mgmt.lock = true ∧ t.mgmt.queue = [] ∧ t.egress.queue.map (fun e => e.frame.bytes) =
      [[0xE3, 0x32, 0, 16, 0xE0, 0, 0x12, 0x34, 0x26, 0, 0, 0x42, 0, 0, 0, 0]] := by decide
/-- 10.7.2, the first transfer. -/
theorem test_parameter_transfer :
    let t := after .directiveTake (headed (up .running) .writeEntries 0 15 4 1 values1072)
    (t.params.wm1, t.params.wm2, t.params.hMax, t.params.drift) = (4095, 4000, 7200, 1)
      ∧ t.egress.queue.map (fun e => e.frame.bytes.drop 8) = [[0x02, 0x01, 4, 2, 0, 0, 0, 0]] := by decide
/-- 9.9.4: Q1, Q2 and then F, and the high-water count 3. -/
theorem test_engine_reset_994 :
    let t := after (.engineReset sender) (state994 .set)
    t.egress.queue.map (fun e => e.frame.kind) = [.answer, .answer, .answer] ∧ t.egress.counts.highWater = 3
      ∧ t.composer.outbound = [] ∧ t.composer.flushBusy = false
      ∧ (t.egress.queue.drop 2).map (fun e => e.frame.bytes.drop 6) = [[0, 0x77, 0x24, 0, 0, 4, 0, 0, 0, 0]] := by decide
/-- R134: two batch frames, in ascending profile number, then the answer; and a full queue defers it. -/
theorem test_flush_of_two_lists :
    (after (.flushBatches sender) heldTwo).egress.queue.map (fun e => (e.frame.kind, e.frame.bytes.drop 8)) =
        [(.batch, [1, 2]), (.batch, [3, 4, 5]), (.answer, [0x24, 0, 0, 2, 0, 0, 0, 0])]
      ∧ (let t := after (.flushBatches sender)
          { heldTwo with egress := { queue := List.replicate 32 (entry .high .answer 0 0) } }
        t.composer.outbound.map (fun f => f.endsFlush) = [false, true] ∧ t.composer.flushBusy = true
          ∧ t.mgmt.deferredFlush = some { source := sender.source, tag := sender.tag }) := by decide
/-- R143: the answer is chosen as it enters. -/
theorem test_answer_at_ready_link :
    (after (.lockConfig sender) (ready (up .running))).egress.queue = []
      ∧ ((match (after (.lockConfig sender) (ready (up .running))).egress.link with
        | .sending f _ => f.bytes.drop 8
        | _ => []) = [0x26, 0, 0, 0x42, 0, 0, 0, 0]) := by decide
/-- R89, R102: a slot whose deadline is ahead is opened; one whose deadline has passed is closed at once and offered. -/
theorem test_catch_up_at_release :
    ((after .compositionStep (lateComposing 100034000000)).slot 3001).state = .opened
      ∧ ((after .compositionStep (lateComposing 100040000000)).slot 3001).state = .emitting
      ∧ ((after .compositionStep (lateComposing 100040000000)).slot 3001).cause = some .deadline := by decide
/-- 10.7.2, the read: index 1 (FOLD) and index 0 (30), then BAD_INDEX. -/
theorem test_read_entries :
    (after (.readEntries sender 0 1 3 0xFF) (up .running)).egress.queue.map (fun e => e.frame.bytes) =
      [[0xE3, 0x32, 0, 24, 0xE0, 0, 0x12, 0x34, 0x01, 0x02, 2, 2, 0x21, 0, 0, 0, 0, 0, 0, 2, 0, 0, 0, 30]] := by decide
/-- R158: with step 0 the same entry is returned at every visit, whatever the fields that an unbound context leaves free. -/
theorem test_read_step_zero (s : State) :
    (s.readTransfer 2 0 2 9 0 []).data = s.readEntry 2 9 ++ s.readEntry 2 9 := rfl
/-- 10.7.2, the first transfer's first entry. -/
theorem test_write_watermark : (after (.writeWatermark sender .wm1 5000) (up .running)).params.wm1 = 4095 := by decide
/-- R159: class 1 is denied by Access Table entry 0. -/
theorem test_write_parameter_denied :
    let s := up .running |>.setAccess 0 { level := 0, deny := 2 } |>.setManager 0
      { source := sender.source, cls := 1, enabled := true }
    let t := after (.writeEngineParameter sender 20 5) s
    t.params.promotion = 20 ∧ t.egress.queue.map (fun e => e.frame.bytes.drop 8) = [[0x02, 0x02, 0, 2, 0x10, 0, 0, 0]] := by decide
/-- 10.7.2, the third transfer's last value. -/
theorem test_write_wq : (after (.writeWq sender 9000000) (up .running)).window.wq = 320000 := by decide
/-- 10.7.3. -/
theorem test_write_rate_after_running :
    (after (.writeOutputRate sender 60) (up .paused)).params.rate = 30
      ∧ (after (.writeOutputRate sender 60) State.reset).params.rate = 60 := by decide
/-- R112. -/
theorem test_write_window_limit :
    let t := after (.writeWindowLimits sender .wMin 600) (up .running)
    t.params.wMin = 600 ∧ t.window.wq = 9600 := by decide
/-- R49. -/
theorem test_write_c_sat : ((after (.writeCSat sender 3) (up .running)).ctx 5).confidence = 3 := by decide
/-- R38: way 80 is taken, and 0x1004 falls in the same bucket. -/
theorem test_bind_stream :
    let t := after (.bindStream sender 6 0x1004) (up .paused)
    t.way 81 = some { streamId := 0x1004, ctx := 6 } ∧ (t.ctx 6).binding = some 0x1004 := by decide
/-- R39 after R44. -/
theorem test_disable_and_unbind :
    let t := after (.unbindStream sender 5) (after (.streamDisable sender 5) (up .paused))
    t.way 80 = none ∧ (t.ctx 5).binding = none ∧ (t.ctx 5).enabled = false := by decide
/-- R42: the context is enabled. -/
theorem test_write_enabled_context :
    let t := after (.writeStreamContexts sender (one 5 (beBytes 48 0))) (up .paused)
    t.egress.queue.map (fun e => e.frame.bytes.drop 8) = [[0x02, 0x02, 0, 0, 0x15, 0, 0, 0]] := by decide
/-- R40. -/
theorem test_write_stream_map :
    let t := after (.writeStreamMap sender (one 0 (beBytes 8 0))) (up .paused)
    t.egress.queue.map (fun e => e.frame.bytes.drop 8) = [[0x02, 0x02, 0, 0, 0x20, 0, 0, 0]] := by decide
/-- R99, R103, R117: a disable completes slot 3000, with its close count and its closing notice. -/
theorem test_disable_completes :
    let t := after (.streamDisable sender 5) (ringed .running [(56, slotRec 3000 .opened)])
    (t.slot 3000).cause = some .complete ∧ t.store.closeCounts.complete = 1 ∧ t.window.closings = 1
      ∧ (t.ctx 5).confidence = 4 := by decide
/-- R155: the manager that ends commissioning mode. -/
theorem test_write_manager :
    let t := after (.writeManagers sender (one 3 [0, 0, 0, 9, 2, 1, 0, 0])) (up .paused)
    t.senderClass 9 = some 2 ∧ t.senderClass sender.source = none := by decide
/-- R126, R127. -/
theorem test_disable_profile_batches :
    let t := after (.disableProfile sender 0) holding_
    (t.profile 0).enabled = false
      ∧ t.egress.queue.map (fun e => e.frame.kind) = [.batch, .answer] := by decide
/-- R105, R163: the floor and H_low become Gnow + 1. -/
theorem test_resume :
    let t := after (.resume sender) (up .paused)
    t.mgmt.engine = .running ∧ t.store.floor = 3001 ∧ t.store.hLow = 3001 := by decide
/-- R106, R164. -/
theorem test_pause_now :
    let t := after (.pauseNow sender) (ringed .running [(56, slotRec 3000 .opened)])
    t.mgmt.engine = .draining ∧ (t.slot 3000).state = .emitting ∧ (t.slot 3000).cause = some .forcedDrain := by decide
/-- R164: nothing is left to drain. -/
theorem test_pause : (after (.pause sender) (up .running)).mgmt.engine = .paused := by decide
/-- R101, R102 (log entry 36): slot 3000 is FREE, so slot 3001, closed by the forced drain, is not offered. -/
theorem test_drain_stands_below_held_slot :
    let t := after (.pauseNow sender) (ringed .running [(57, slotRec 3001 .opened)])
    t.store.hLow = 3000 ∧ (t.slot 3001).state = .closed ∧ t.composer.working = none ∧ t.mgmt.engine = .draining := by decide
/-- R165: the answer waits for the scrub. -/
theorem test_engine_reset :
    let t := after (.engineReset sender) (up .running)
    let u := after .scrubCompletion t
    t.mgmt.engine = .resetting ∧ t.store.hLow = 0 ∧ t.egress.queue = [] ∧ u.mgmt.engine = .paused
      ∧ u.egress.queue.map (fun e => e.frame.bytes.drop 8) = [[0x23, 0, 0, 0, 0, 0, 0, 0]] := by decide
/-- R134: the batch, then the answer. -/
theorem test_flush :
    (after (.flushBatches sender) holding_).egress.queue.map (fun e => e.frame.kind) = [.batch, .answer] := by decide
/-- R167: the ENGINE record is 60 bytes. -/
theorem test_read_status :
    (after (.readStatus sender 0) (up .resetting)).egress.queue.map (fun e => e.frame.bytes.length) = [76] := by decide
/-- R166. -/
theorem test_clear_counters :
    (after (.clearCounters sender) (after (.completionIndication 0) (up .running))).store.lowestFree = 2 := by decide

end Sys2Proof.Tests
end

/-! ## What keeps the streams' configuration (O55) -/

section
namespace Sys2Proof.Proofs.StreamsKept
open Sys2Proof Sys2Proof.Machine Sys2Proof.Laws

/-! ### Operations that leave the configuration alone -/

/-- What binding, enabling and a descriptor write set in a context, and the live operation of the part leaves alone. -/
structure SameSetup (c d : Ctx) : Prop where
  desc : d.desc = c.desc
  binding : d.binding = c.binding
  enabled : d.enabled = c.enabled

theorem SameSetup.refl (c : Ctx) : SameSetup c c := ⟨rfl, rfl, rfl⟩

/-- A canonical context table stays canonical and keeps every context's setup. -/
def SetupKept (a b : Tbl Ctx) : Prop :=
  Tbl.wf Ctx.zero a = true →
    Tbl.wf Ctx.zero b = true ∧ ∀ k, SameSetup (Tbl.get Ctx.zero a k) (Tbl.get Ctx.zero b k)

theorem SetupKept.refl (a : Tbl Ctx) : SetupKept a a := fun h => ⟨h, fun _ => .refl _⟩

theorem SetupKept.trans {a b c : Tbl Ctx} (h : SetupKept a b) (k : SetupKept b c) : SetupKept a c := fun ha => by
  obtain ⟨hb, hab⟩ := h ha
  obtain ⟨hc, hbc⟩ := k hb
  exact ⟨hc, fun i => ⟨(hbc i).desc.trans (hab i).desc, (hbc i).binding.trans (hab i).binding,
    (hbc i).enabled.trans (hab i).enabled⟩⟩

theorem setupKept_set {a : Tbl Ctx} {k : Nat} {c : Ctx} (h : SameSetup (Tbl.get Ctx.zero a k) c) :
    SetupKept a (Tbl.set Ctx.zero a k c) := fun ha => by
  refine ⟨wf_set ha k c, fun i => ?_⟩
  rw [get_set ha]
  split
  · next hk => exact hk ▸ h
  · exact .refl _

theorem setupKept_update {a : Tbl Ctx} {f : Nat → Ctx → Ctx} (hz : ∀ i, f i Ctx.zero = Ctx.zero)
    (hf : ∀ i c, SameSetup c (f i c)) : SetupKept a (Tbl.update Ctx.zero f a) := fun ha =>
  ⟨wf_update f ha, fun i => by rw [get_update hz ha]; exact hf i _⟩

/-- t has the map, the contexts' setup, the profiles, the member lists, the rate and the map select function of s. -/
structure Keeps (s t : State) : Prop where
  map : t.map = s.map
  ctxs : SetupKept s.ctxs t.ctxs
  profiles : t.profiles = s.profiles
  members : t.members = s.members
  rate : t.params.rate = s.params.rate
  mapSelect : t.params.mapSelect = s.params.mapSelect

theorem Keeps.refl (s : State) : Keeps s s := ⟨rfl, .refl _, rfl, rfl, rfl, rfl⟩

theorem Keeps.trans {s t u : State} (h : Keeps s t) (k : Keeps t u) : Keeps s u :=
  ⟨k.map.trans h.map, h.ctxs.trans k.ctxs, k.profiles.trans h.profiles, k.members.trans h.members,
    k.rate.trans h.rate, k.mapSelect.trans h.mapSelect⟩

/-- `Keeps.trans`, the last operation named first. -/
theorem Keeps.after {s t u : State} (k : Keeps t u) (h : Keeps s t) : Keeps s u := h.trans k

/-- A change of other fields than the configuration's keeps it. -/
theorem keeps_of_eq {s t : State} (hm : t.map = s.map) (hc : t.ctxs = s.ctxs) (hp : t.profiles = s.profiles)
    (hl : t.members = s.members) (hr : t.params.rate = s.params.rate) (hs : t.params.mapSelect = s.params.mapSelect) :
    Keeps s t := ⟨hm, hc ▸ .refl _, hp, hl, hr, hs⟩

theorem keeps_store (s : State) (y : Store) : Keeps s { s with store := y } := keeps_of_eq rfl rfl rfl rfl rfl rfl

theorem keeps_tru (s : State) (t : Tru) : Keeps s { s with tru := t } := keeps_of_eq rfl rfl rfl rfl rfl rfl

theorem keeps_intake (s : State) (i : Intake) : Keeps s { s with intake := i } := keeps_of_eq rfl rfl rfl rfl rfl rfl

theorem keeps_composer (s : State) (x : Composer) : Keeps s { s with composer := x } :=
  keeps_of_eq rfl rfl rfl rfl rfl rfl

theorem keeps_mgmt (s : State) (m : Mgmt) : Keeps s { s with mgmt := m } := keeps_of_eq rfl rfl rfl rfl rfl rfl

theorem keeps_of_aside {s t : State} (h : t.aside = s.aside) : Keeps s t :=
  keeps_of_eq (aside_map h) (aside_ctxs h) (aside_profiles h) (aside_members h)
    (congrArg Params.rate (aside_params h)) (congrArg Params.mapSelect (aside_params h))

theorem keeps_of_storeOnly {s t : State} (h : StoreOnly s t) (hc : SetupKept s.ctxs t.ctxs) : Keeps s t :=
  ⟨h.map, hc, h.profiles, h.members, congrArg Params.rate h.params, congrArg Params.mapSelect h.params⟩

/-- A fold of operations that keep the configuration keeps it. -/
theorem keeps_foldl {α : Type} {f : State → α → State} (hf : ∀ s a, Keeps s (f s a)) (l : List α) (s : State) :
    Keeps s (l.foldl f s) := by
  induction l generalizing s with
  | nil => exact .refl s
  | cons a l ih => exact (hf s a).trans (ih _)

theorem keeps_setCtx {s : State} {k : Nat} {c : Ctx} (h : SameSetup (s.ctx k) c) : Keeps s (s.setCtx k c) :=
  ⟨rfl, setupKept_set h, rfl, rfl, rfl, rfl⟩

theorem keeps_bumpCtx (s : State) (k : Nat) (c : CtxCount) : Keeps s (s.bumpCtx k c) := keeps_setCtx ⟨rfl, rfl, rfl⟩

theorem keeps_setParams {s : State} {p : Params} (hr : p.rate = s.params.rate) (hm : p.mapSelect = s.params.mapSelect) :
    Keeps s (s.setParams p) := keeps_of_eq rfl rfl rfl rfl hr hm

theorem keeps_clampConfidence (s : State) : Keeps s s.clampConfidence :=
  ⟨rfl, setupKept_update (fun _ => by simp [Ctx.zero]) (fun _ _ => ⟨rfl, rfl, rfl⟩), rfl, rfl, rfl, rfl⟩

theorem setupKept_chargeMisses (s : State) (m : CtxSet) : SetupKept s.ctxs (s.chargeMisses m).ctxs := by
  unfold State.chargeMisses
  refine setupKept_update (fun i => by split <;> rfl) (fun i c => ?_)
  split
  · exact ⟨rfl, rfl, rfl⟩
  · exact .refl c

/-! ### The store -/

theorem keeps_leaveOpen (s : State) (g : Nat) (c : Cause) : Keeps s (s.leaveOpen g c) := by
  refine keeps_of_storeOnly (leaveOpen_only s g c) ?_
  rw [leaveOpen_eq]
  exact setupKept_chargeMisses s _

theorem keeps_setSlot (s : State) (g : Nat) (x : Slot) : Keeps s (s.setSlot g x) := keeps_of_eq rfl rfl rfl rfl rfl rfl

theorem keeps_offer (s : State) : Keeps s s.offer := by
  refine keeps_of_storeOnly (offer_only s) ?_
  unfold State.offer
  dsimp only
  split <;> exact .refl _

theorem keeps_offerIfLow (s : State) (g : Nat) : Keeps s (s.offerIfLow g) := by
  unfold State.offerIfLow
  split
  · exact keeps_offer s
  · exact .refl s

theorem keeps_evaluate (s : State) (g : Nat) : Keeps s (s.evaluate g) := by
  unfold State.evaluate
  dsimp only
  split
  · exact (keeps_leaveOpen s g _).trans (keeps_offerIfLow _ _)
  · exact .refl s

theorem keeps_expire (s : State) (g : Nat) : Keeps s (s.expire g) := by
  unfold State.expire
  dsimp only
  split
  · exact ((keeps_evaluate s g).trans (keeps_leaveOpen _ _ _)).trans (keeps_offerIfLow _ _)
  · exact keeps_evaluate s g

theorem keeps_expireIfDue (s : State) (g : Nat) : Keeps s (s.expireIfDue g) := by
  unfold State.expireIfDue
  split
  · exact keeps_expire s g
  · exact .refl s

theorem keeps_countClose (s : State) (c : Cause) : Keeps s (s.countClose c) := keeps_of_eq rfl rfl rfl rfl rfl rfl

theorem keeps_closeFor (s : State) (c : Cause) (g : Nat) : Keeps s (s.closeFor c g) := by
  unfold State.closeFor
  dsimp only
  split
  · exact keeps_leaveOpen s g c
  · exact (keeps_setSlot s g _).trans (keeps_countClose _ _)
  all_goals exact .refl s

theorem keeps_closeAll (s : State) (c : Cause) : Keeps s (s.closeAll c) := keeps_foldl (fun s g => keeps_closeFor s c g) _ s

theorem keeps_openSlot (s : State) (g : Nat) : Keeps s (s.openSlot g) := by
  unfold State.openSlot
  exact (keeps_evaluate _ g).after (keeps_of_eq rfl rfl rfl rfl rfl rfl)

theorem keeps_openSlotNow (s : State) (g : Nat) : Keeps s (s.openSlotNow g) :=
  (keeps_openSlot s g).trans (keeps_expireIfDue _ g)

theorem keeps_catchUp (s : State) : Keeps s s.catchUp := by
  unfold State.catchUp
  split
  · refine (keeps_foldl (fun s g => ?_) s.span s).trans (keeps_offer _)
    split
    · exact keeps_openSlotNow s g
    · exact .refl s
  · exact .refl s

theorem keeps_advanceLow (s : State) : Keeps s s.advanceLow := keeps_of_eq rfl rfl rfl rfl rfl rfl

theorem keeps_passFloor (s : State) : Keeps s s.passFloor := by
  unfold State.passFloor
  split
  · exact keeps_advanceLow s
  · exact .refl s

theorem keeps_takeTimeStep (s : State) : Keeps s s.takeTimeStep := by
  unfold State.takeTimeStep
  refine (keeps_catchUp _).after ((keeps_offer _).after ((keeps_passFloor _).after ?_))
  exact (keeps_store _ _).after (keeps_closeAll s .timeStep)

theorem keeps_forceRing (s : State) : Keeps s s.forceRing := by
  unfold State.forceRing
  split
  · exact (keeps_offer _).after ((keeps_store _ _).after (keeps_leaveOpen s _ _))
  · exact .refl s

theorem keeps_storeInstant (s : State) (g : Nat) : Keeps s (s.storeInstant g) := by
  unfold State.storeInstant
  split
  · exact .refl s
  split
  · split
    · split
      · exact keeps_openSlotNow s g
      · exact .refl s
    · exact keeps_evaluate s g
    all_goals exact .refl s
  split
  · exact keeps_forceRing s
  · exact .refl s

theorem keeps_takeInstant (s : State) : Keeps s s.takeInstant :=
  (keeps_storeInstant _ _).after (keeps_of_eq rfl rfl rfl rfl rfl rfl)

theorem keeps_judgeDrain (s : State) : Keeps s s.judgeDrain := keeps_of_aside (judgeDrain_aside s)

theorem keeps_settleAndJudge (s : State) : Keeps s s.settleAndJudge := keeps_of_aside (settleAndJudge_aside s)

theorem keeps_release (s : State) : Keeps s s.release := by
  unfold State.release
  refine (keeps_judgeDrain _).after ((keeps_offer _).after ((keeps_catchUp _).after ?_))
  exact keeps_of_eq rfl rfl rfl rfl rfl rfl

theorem keeps_enterRunning (s : State) : Keeps s s.enterRunning :=
  (keeps_catchUp _).after (keeps_of_eq rfl rfl rfl rfl rfl rfl)

/-- Clearing a context out of the awaited sets keeps the configuration. -/
theorem keeps_clearAwaited (s : State) (k : Nat) : Keeps s (s.clearAwaited k) := by
  unfold State.clearAwaited
  exact (keeps_foldl keeps_evaluate _ _).after (keeps_of_eq rfl rfl rfl rfl rfl rfl)

/-! ### Intake and placement -/

theorem keeps_intakeEnds (s : State) (c : IntakeCount) : Keeps s (s.intakeEnds c) :=
  keeps_of_eq rfl rfl rfl rfl rfl rfl

theorem keeps_discard (s : State) (k : Nat) (c : IntakeCount) : Keeps s (s.discard k c) :=
  (keeps_intakeEnds s c).trans (keeps_bumpCtx _ _ _)

theorem keeps_engineDiscard (s : State) (k : Nat) : Keeps s (s.engineDiscard k) := by
  unfold State.engineDiscard
  split
  · exact (keeps_discard _ _ _).after (keeps_of_eq rfl rfl rfl rfl rfl rfl)
  · exact keeps_discard s _ _
  · exact keeps_discard s _ _
  all_goals exact .refl s

theorem keeps_forcePool (s : State) : Keeps s s.forcePool := by
  unfold State.forcePool
  dsimp only
  split
  · exact (keeps_offer _).after ((keeps_leaveOpen _ _ _).after (keeps_of_eq rfl rfl rfl rfl rfl rfl))
  · exact keeps_of_eq rfl rfl rfl rfl rfl rfl

theorem keeps_accepted (s : State) (q : Placement) : Keeps s (s.accepted q) := by
  unfold State.accepted
  refine (keeps_bumpCtx _ _ _).after ((keeps_setCtx ?_).after (keeps_intakeEnds s _))
  unfold Ctx.accept
  split <;> exact ⟨rfl, rfl, rfl⟩

theorem keeps_acceptReport (s : State) (q : Placement) (c : Nat) (rest : List Nat) : Keeps s (s.acceptReport q c rest) := by
  unfold State.acceptReport
  refine (keeps_accepted _ q).after ((keeps_evaluate _ _).after ?_)
  unfold State.onTimeNotice
  split <;> exact keeps_of_eq rfl rfl rfl rfl rfl rfl

theorem keeps_placeInSlot (s : State) (q : Placement) : Keeps s (s.placeInSlot q) := by
  unfold State.placeInSlot
  split
  · exact keeps_discard s _ _
  · split
    · exact (keeps_forcePool s).trans (keeps_discard _ _ _)
    · exact keeps_acceptReport s q _ _

theorem keeps_lateNotice (s : State) (q : Placement) : Keeps s (s.lateNotice q) := by
  unfold State.lateNotice
  split
  · exact keeps_of_eq rfl rfl rfl rfl rfl rfl
  · exact .refl s

theorem keeps_place (s : State) (q : Placement) : Keeps s (s.place q) := by
  unfold State.place
  split
  · exact (keeps_lateNotice s q).trans (keeps_discard _ _ _)
  · exact keeps_discard s _ _
  · split
    · exact ((keeps_openSlot s _).trans (keeps_placeInSlot _ q)).trans (keeps_expireIfDue _ _)
    · exact keeps_placeInSlot s q

theorem keeps_takePlacement (s : State) : Keeps s s.takePlacement := by
  unfold State.takePlacement
  split
  · exact .refl s
  · split
    · exact keeps_discard s _ _
    · exact keeps_place s _

theorem keeps_handDirective (s : State) (f : InFrame) : Keeps s (s.handDirective f) := by
  unfold State.handDirective
  split
  · exact (keeps_intakeEnds _ _).after (keeps_of_eq rfl rfl rfl rfl rfl rfl)
  · exact keeps_intakeEnds s _

theorem keeps_admitKept (s : State) (r : Report) (k g : Nat) (residual : Int) (mark : Bool) :
    Keeps s (s.admitKept r k g residual mark) := by
  have h : Keeps s (s.setCtx k ((s.ctx k).cadence s.params.cSat (s.cadencePeriod k) g)) := keeps_setCtx ⟨rfl, rfl, rfl⟩
  unfold State.admitKept
  dsimp only
  split
  · exact h.trans (keeps_discard _ _ _)
  · exact h.trans (keeps_of_eq rfl rfl rfl rfl rfl rfl)

theorem keeps_admitKnown (s : State) (r : Report) (k : Nat) : Keeps s (s.admitKnown r k) := by
  unfold State.admitKnown
  split
  · exact keeps_discard s _ _
  split
  · exact keeps_discard s _ _
  split
  · exact keeps_engineDiscard s _
  split
  · exact keeps_discard s _ _
  · exact keeps_discard s _ _
  · exact keeps_admitKept s r k _ _ _

theorem keeps_workOn (s : State) (f : InFrame) : Keeps s (s.workOn f) := by
  unfold State.workOn
  split
  · exact keeps_intakeEnds s _
  split
  · unfold State.admitReport
    split
    · exact keeps_intakeEnds s _
    · split
      · exact keeps_intakeEnds s _
      · exact keeps_admitKnown s _ _
  · exact keeps_handDirective s f
  · exact keeps_intakeEnds s _

theorem keeps_setLinkIn (s : State) (l : Link) (x : LinkIn) : Keeps s (s.setLinkIn l x) := by
  rw [setLinkIn_only]
  exact keeps_of_eq rfl rfl rfl rfl rfl rfl

theorem keeps_takeFrame (s : State) : Keeps s s.takeFrame := by
  unfold State.takeFrame
  split
  · split
    · exact .refl s
    · exact (keeps_workOn _ _).after ((keeps_intake _ _).after (keeps_setLinkIn s _ _))
  · exact .refl s

/-! ### Composition, holding lists and the time events -/

theorem keeps_formBatch (s : State) (n : Nat) : Keeps s (s.formBatch n) := by
  unfold State.formBatch
  dsimp only
  split
  · exact .refl s
  · exact keeps_of_eq rfl rfl rfl rfl rfl rfl

theorem keeps_formAllBatches (s : State) : Keeps s s.formAllBatches := keeps_foldl keeps_formBatch _ s

theorem keeps_holdSet (s : State) (n : Nat) (bytes : List Byte) : Keeps s (s.holdSet n bytes) := by
  unfold State.holdSet
  extract_lets h s1 h1 h2 s2
  have hs1 : Keeps s s1 := by
    dsimp only [s1]
    split
    · exact keeps_formBatch s n
    · exact .refl s
  have hs2 : Keeps s s2 := (keeps_composer _ _).after hs1
  split
  · exact hs2.trans (keeps_formBatch s2 n)
  · exact hs2

theorem keeps_handOn (s : State) (n : Nat) (bytes : List Byte) : Keeps s (s.handOn n bytes) := by
  unfold State.handOn
  dsimp only
  split
  · exact keeps_of_eq rfl rfl rfl rfl rfl rfl
  · exact keeps_holdSet s n bytes

theorem keeps_profileTurn (s : State) (n : Nat) (x : Slot) : Keeps s (s.profileTurn n x) := by
  unfold State.profileTurn
  dsimp only
  split
  · exact (keeps_handOn _ _ _).after (keeps_of_eq rfl rfl rfl rfl rfl rfl)
  · exact .refl s

theorem keeps_finishIfComposed (s : State) : Keeps s s.finishIfComposed := by
  unfold State.finishIfComposed
  split
  · exact .refl s
  split
  · unfold State.composed
    dsimp only
    refine (keeps_release _).after ((keeps_composer _ _).after ?_)
    split
    · exact keeps_formAllBatches s
    · exact .refl s
  · exact .refl s

theorem keeps_considerNext (s : State) (w : Composing) : Keeps s (s.considerNext w) := by
  unfold State.considerNext
  dsimp only
  split
  · exact (keeps_profileTurn s _ _).trans (keeps_of_eq rfl rfl rfl rfl rfl rfl)
  · exact .refl s

theorem keeps_composeStep (s : State) : Keeps s s.composeStep := by
  unfold State.composeStep
  split
  · exact .refl s
  split
  · exact (((keeps_considerNext s _).trans (keeps_settleAndJudge _)).trans (keeps_finishIfComposed _)).trans
      (keeps_settleAndJudge _)
  · exact .refl s

theorem keeps_holdExpire (s : State) (n : Nat) : Keeps s (s.holdExpire n) :=
  (keeps_formBatch s n).trans (keeps_of_eq rfl rfl rfl rfl rfl rfl)

theorem keeps_holdExpireDue (s : State) : Keeps s s.holdExpireDue := by
  refine keeps_foldl (fun s n => ?_) _ s
  split
  · exact keeps_holdExpire s n
  · exact .refl s

theorem keeps_takeHoldExpiry (s : State) (n : Nat) : Keeps s (s.takeHoldExpiry n) :=
  (keeps_holdExpire s n).trans (keeps_settleAndJudge _)

theorem keeps_truLocked (s : State) : Keeps s s.truLocked := by
  unfold State.truLocked
  split
  · exact keeps_enterRunning s
  · exact .refl s

theorem keeps_takeEdge (s : State) : Keeps s s.takeEdge := by
  unfold State.takeEdge
  dsimp only
  split
  · exact keeps_tru s _
  · exact (keeps_tru s _).trans (keeps_truLocked _)
  · exact ((keeps_tru s _).trans (keeps_takeTimeStep _)).trans (keeps_truLocked _)

/-- The passing of a nanosecond, with the time limits it reaches, keeps the configuration. -/
theorem keeps_tick (s : State) : Keeps s s.tick := by
  unfold State.tick
  extract_lets s1 s2 s3 s4 s5
  have h1 : Keeps s s1 := keeps_tru s _
  have h2 : Keeps s1 s2 := by
    dsimp only [s2]
    split
    · exact keeps_tru _ _
    · exact .refl _
  have h3 : Keeps s2 s3 := by
    dsimp only [s3]
    split
    · exact .refl _
    · split
      · exact keeps_tru _ _
      · exact .refl _
  have h4 : Keeps s3 s4 := by
    dsimp only [s4]
    split
    · exact keeps_takeInstant _
    · exact .refl _
  refine (keeps_foldl (fun s n => ?_) _ _).after
    ((keeps_foldl keeps_expireIfDue _ _).after (((h1.trans h2).trans h3).trans h4))
  split
  · exact keeps_takeHoldExpiry s n
  · exact .refl s

/-! ### The directives that set the configuration -/

/-- A state whose configuration tables are canonical and whose map is lawful. -/
structure Lawful (s : State) : Prop where
  wfMap : Tbl.wf none s.map = true
  wfCtxs : Tbl.wf Ctx.zero s.ctxs = true
  wfProfiles : Tbl.wf Profile.zero s.profiles = true
  wfMembers : Tbl.wf 0 s.members = true
  map : s.mapLawful

/-- What StreamMapStaysLawful says of a step, for any change of state, so that changes can be composed. -/
def Good (s t : State) : Prop :=
  Lawful s → Lawful t ∧ (s.contextsFit → s.profilesFit → t.contextsFit ∧ t.profilesFit)

theorem Good.refl (s : State) : Good s s := fun h => ⟨h, fun hc hp => ⟨hc, hp⟩⟩

theorem Good.trans {s t u : State} (h : Good s t) (k : Good t u) : Good s u := fun hs => by
  obtain ⟨ht, hst⟩ := h hs
  obtain ⟨hu, htu⟩ := k ht
  exact ⟨hu, fun hc hp => htu (hst hc hp).1 (hst hc hp).2⟩

/-- The law of the map speaks of the map, the map select function and the bindings alone. -/
theorem mapLawful_congr {s t : State} (hm : t.map = s.map) (hf : t.params.mapSelect = s.params.mapSelect)
    (hb : ∀ k, (t.ctx k).binding = (s.ctx k).binding) (h : s.mapLawful) : t.mapLawful := by
  have hw : ∀ i, t.way i = s.way i := fun i => by unfold State.way; rw [hm]
  simpa only [State.mapLawful, hw, hf, hb] using h

theorem memberList_congr {s t : State} (hm : t.members = s.members) (p : Profile) : t.memberList p = s.memberList p := by
  unfold State.memberList State.member
  rw [hm]

/-- What ENABLE_PROFILE asks of profile x at number n (R126). -/
def ProfileFits (s : State) (n : Nat) (x : Profile) : Prop :=
  n ≤ 7 ∧ x.base + x.count ≤ 1024 ∧ (s.memberList x).Nodup ∧ s.params.rate % x.decimation = 0
    ∧ (x.depth ≠ 0 → x.cls = .low)

theorem profilesFit_iff (s : State) :
    s.profilesFit ↔ ∀ n, (s.profile n).enabled = true → ProfileFits s n (s.profile n) := Iff.rfl

theorem profilesFit_congr {s t : State} (hp : t.profiles = s.profiles) (hm : t.members = s.members)
    (hr : t.params.rate = s.params.rate) (h : s.profilesFit) : t.profilesFit := by
  have hw : ∀ n, t.profile n = s.profile n := fun n => by unfold State.profile; rw [hp]
  simpa only [State.profilesFit, hw, hr, memberList_congr hm] using h

theorem good_of_keeps {s t : State} (h : Keeps s t) : Good s t := fun hs => by
  obtain ⟨hw, hc⟩ := h.ctxs hs.wfCtxs
  refine ⟨⟨h.map ▸ hs.wfMap, hw, h.profiles ▸ hs.wfProfiles, h.members ▸ hs.wfMembers,
    mapLawful_congr h.map h.mapSelect (fun k => (hc k).binding) hs.map⟩, fun hf hp => ⟨fun k he => ?_,
    profilesFit_congr h.profiles h.members h.rate hp⟩⟩
  obtain ⟨hk, hb, hr⟩ := hf k ((hc k).enabled ▸ he)
  exact ⟨hk, by rw [State.ctx, (hc k).binding]; exact hb, by rw [State.ctx, (hc k).desc, h.rate]; exact hr⟩

/-- A context written with its binding as it stands and, where it is enabled, fit to be. -/
theorem good_setCtx {s : State} {k : Nat} {c : Ctx} (hb : c.binding = (s.ctx k).binding)
    (hf : c.enabled = true → k ≤ 255 ∧ c.binding.isSome = true ∧ compatible s.params.rate c.desc.rate = true) :
    Good s (s.setCtx k c) := fun hs => by
  have hk := ctx_setCtx hs.wfCtxs k c
  refine ⟨⟨hs.wfMap, wf_set hs.wfCtxs k c, hs.wfProfiles, hs.wfMembers,
    mapLawful_congr (s := s) rfl rfl (fun j => ?_) hs.map⟩, fun hc hp => ⟨fun j he => ?_, profilesFit_congr rfl rfl rfl hp⟩⟩
  · rw [hk]
    split
    · next h => rw [hb, h]
    · rfl
  · rw [hk] at he ⊢
    split at he
    · next h => rw [if_pos h, ← h]; exact hf he
    · next h => rw [if_neg h]; exact hc j he

/-- A profile written that, where it is enabled, is one ENABLE_PROFILE admits. -/
theorem good_setProfile {s : State} {n : Nat} {x : Profile} (hf : x.enabled = true → ProfileFits s n x) :
    Good s (s.setProfile n x) := fun hs => by
  have hn := profile_setProfile hs.wfProfiles n x
  refine ⟨⟨hs.wfMap, hs.wfCtxs, wf_set hs.wfProfiles n x, hs.wfMembers, mapLawful_congr rfl rfl (fun _ => rfl) hs.map⟩,
    fun hc hp => ⟨hc, (profilesFit_iff _).2 fun m he => ?_⟩⟩
  rw [hn] at he ⊢
  split at he
  · next h => rw [if_pos h, ← h]; exact hf he
  · next h => rw [if_neg h]; exact hp m he

/-- A member entry outside the range of every enabled profile is written (R125). -/
theorem good_setMember {s : State} {e k : Nat} (hu : s.memberInUse e = false) : Good s (s.setMember e k) := fun hs => by
  refine ⟨⟨hs.wfMap, hs.wfCtxs, hs.wfProfiles, wf_set hs.wfMembers e k,
    mapLawful_congr rfl rfl (fun _ => rfl) hs.map⟩, fun hc hp => ⟨hc, fun n he => ?_⟩⟩
  obtain ⟨hn, hb, hd, hr, hl⟩ := hp n he
  have hout : ¬((s.profile n).base ≤ e ∧ e < (s.profile n).base + (s.profile n).count) := by
    have := List.any_eq_false.1 hu n (List.mem_range.2 (by omega))
    simpa [show (s.profile n).enabled = true from he] using this
  have hm : (s.setMember e k).memberList (s.profile n) = s.memberList (s.profile n) := by
    unfold State.memberList
    refine List.map_congr_left fun i hi => ?_
    rw [member_setMember hs.wfMembers, if_neg]
    have := List.mem_range.1 hi
    omega
  exact ⟨hn, hb, hm ▸ hd, hr, hl⟩

/-! ### Buckets and ways (R34, R35) -/

theorem bucketOf_lt (f : MapSelect) (sid : Half) : bucketOf f sid < 256 := by
  have hsid : sid.toNat < 65536 := sid.isLt
  have hlo : sid.toNat % 256 < 2 ^ 8 := by omega
  have hhi : sid.toNat / 256 < 2 ^ 8 := by omega
  have hrot : rotl3 (sid.toNat / 256) < 2 ^ 8 := by unfold rotl3; omega
  cases f with
  | low => exact hlo
  | high => exact hhi
  | fold => exact Nat.xor_lt_two_pow hlo hhi
  | foldrot => exact Nat.xor_lt_two_pow hlo hrot

/-- A lawful map holds nothing beyond its 1024 ways. -/
theorem way_lt {s : State} (h : s.mapLawful) {i : Nat} {b : Binding} (hi : s.way i = some b) : i < 1024 := by
  have := (h.1 i b hi).1
  have := bucketOf_lt s.params.mapSelect b.streamId
  omega

theorem emptyWay_some {s : State} {bucket i : Nat} (h : s.emptyWay bucket = some i) :
    i / 4 = bucket ∧ s.way i = none := by
  have hm := List.mem_of_find?_eq_some h
  have he := List.find?_some h
  obtain ⟨w, hw, rfl⟩ := List.mem_map.1 hm
  have := List.mem_range.1 hw
  exact ⟨by omega, Option.isNone_iff_eq_none.1 he⟩

/-- An ID that no way of the map holds (R38). -/
theorem way_ne_of_unheld {s : State} {sid : Half} (h : s.mapLawful) (hn : (List.range 1024).any (s.wayHolds sid) = false)
    {i : Nat} {b : Binding} (hi : s.way i = some b) : b.streamId ≠ sid := fun hs => by
  have := List.any_eq_false.1 hn i (List.mem_range.2 (way_lt h hi))
  simp [State.wayHolds, hi, hs] at this

/-- BIND_STREAM's write: an unheld ID and an unbound context enter an empty way of the ID's bucket (R38). -/
theorem good_bind {s : State} {k i : Nat} {sid : Half} (hk : k ≤ 255) (hsid : sid ≠ 0xFFFF)
    (hu : (List.range 1024).any (s.wayHolds sid) = false) (hb : (s.ctx k).binding = none)
    (hi : i / 4 = bucketOf s.params.mapSelect sid) (he : s.way i = none) (hd : (s.ctx k).enabled = false) :
    Good s ((s.setWay i (some { streamId := sid, ctx := k })).setCtx k { s.ctx k with binding := some sid }) := fun hs => by
  set t := (s.setWay i (some { streamId := sid, ctx := k })).setCtx k { s.ctx k with binding := some sid } with ht
  have hctx : ∀ c, t.ctx c = if k = c then { s.ctx k with binding := some sid } else s.ctx c :=
    fun c => ctx_setCtx (s := s.setWay i _) hs.wfCtxs k _ c
  have hway : ∀ j, t.way j = if i = j then some { streamId := sid, ctx := k } else s.way j :=
    fun j => way_setWay hs.wfMap i _ j
  obtain ⟨hplace, huniq, hmapped⟩ := hs.map
  have hold : ∀ {j b}, s.way j = some b → b.streamId ≠ sid ∧ b.ctx ≠ k := fun {j b} hj =>
    ⟨way_ne_of_unheld hs.map hu hj, fun hc => by
      have := (hplace j b hj).2.2.2
      rw [hc, hb] at this; cases this⟩
  refine ⟨⟨wf_set hs.wfMap _ _, wf_set hs.wfCtxs _ _, hs.wfProfiles, hs.wfMembers, ?place, ?uniq, ?mapped⟩,
    fun hc hp => ⟨fun c hce => ?_, profilesFit_congr rfl rfl rfl hp⟩⟩
  case place =>
    intro j b hj
    rw [hway] at hj
    split at hj
    · next hij => cases hj; exact ⟨hij ▸ hi, hk, hsid, by rw [hctx, if_pos rfl]⟩
    · rw [hctx, if_neg (hold hj).2.symm]; exact hplace j b hj
  case uniq =>
    intro j j' a b ha hb' hab
    rw [hway] at ha hb'
    split at ha <;> split at hb'
    · omega
    · cases ha; exact absurd hab (not_or.2 ⟨(hold hb').1.symm, (hold hb').2.symm⟩)
    · cases hb'; exact absurd hab (not_or.2 (hold ha))
    · exact huniq j j' a b ha hb' hab
  case mapped =>
    intro c sid' hcs
    rw [hctx] at hcs
    split at hcs
    · next hkc => cases hcs; exact ⟨i, by rw [hway, if_pos rfl, hkc]⟩
    · obtain ⟨j, hj⟩ := hmapped c sid' hcs
      exact ⟨j, by rw [hway, if_neg (fun hij => by rw [← hij, he] at hj; cases hj), hj]⟩
  · rw [hctx] at hce ⊢
    split at hce
    · rw [show ({ s.ctx k with binding := some sid } : Ctx).enabled = (s.ctx k).enabled from rfl, hd] at hce; cases hce
    · next h => rw [if_neg h]; exact hc c hce

/-- UNBIND_STREAM's write: the way of context k is emptied and its binding is gone (R39). -/
theorem good_unbind {s : State} {k i : Nat} {b : Binding} (hw : s.way i = some b) (hbk : b.ctx = k)
    (hd : (s.ctx k).enabled = false) :
    Good s ((s.setWay i none).setCtx k { s.ctx k with binding := none }) := fun hs => by
  set t := (s.setWay i none).setCtx k { s.ctx k with binding := none } with ht
  have hctx : ∀ c, t.ctx c = if k = c then { s.ctx k with binding := none } else s.ctx c :=
    fun c => ctx_setCtx (s := s.setWay i _) hs.wfCtxs k _ c
  have hway : ∀ j, t.way j = if i = j then none else s.way j := fun j => way_setWay hs.wfMap i _ j
  obtain ⟨hplace, huniq, hmapped⟩ := hs.map
  have hold : ∀ {j a}, t.way j = some a → s.way j = some a ∧ a.ctx ≠ k := fun {j a} hj => by
    rw [hway] at hj
    split at hj
    · cases hj
    · next hij => exact ⟨hj, fun ha => hij (huniq i j b a hw hj (.inr (hbk.trans ha.symm)))⟩
  refine ⟨⟨wf_set hs.wfMap _ _, wf_set hs.wfCtxs _ _, hs.wfProfiles, hs.wfMembers, ?place, ?uniq, ?mapped⟩,
    fun hc hp => ⟨fun c hce => ?_, profilesFit_congr rfl rfl rfl hp⟩⟩
  case place =>
    intro j a hj
    rw [hctx, if_neg (hold hj).2.symm]; exact hplace j a (hold hj).1
  case uniq => exact fun j j' a a' ha ha' => huniq j j' a a' (hold ha).1 (hold ha').1
  case mapped =>
    intro c sid hcs
    rw [hctx] at hcs
    split at hcs
    · cases hcs
    · next hkc =>
      obtain ⟨j, hj⟩ := hmapped c sid hcs
      have hij : i ≠ j := fun hij => by
        rw [← hij, hw] at hj
        cases hj
        exact hkc hbk.symm
      exact ⟨j, by rw [hway, if_neg hij, hj]⟩
  · rw [hctx] at hce ⊢
    split at hce
    · rw [show ({ s.ctx k with binding := none } : Ctx).enabled = (s.ctx k).enabled from rfl, hd] at hce; cases hce
    · next h => rw [if_neg h]; exact hc c hce

/-! ### The work of the stream and profile directives -/

theorem good_bindWork (s : State) (k : Nat) (sid : Half) : Good s (s.bindWork k sid).1 := by
  unfold State.bindWork
  split; · exact .refl s
  next hk =>
  split; · exact .refl s
  next hsid =>
  split; · exact .refl s
  next hd =>
  split; · exact .refl s
  next hu =>
  obtain ⟨hheld, hbound⟩ := not_or.1 hu
  split
  · exact .refl s
  · next i hi =>
    obtain ⟨hbucket, hempty⟩ := emptyWay_some hi
    exact good_bind (by omega) hsid (Bool.eq_false_iff.2 hheld) (by simpa using hbound) hbucket hempty
      (Bool.eq_false_iff.2 hd)

theorem good_unbindWork (s : State) (k : Nat) : Good s (s.unbindWork k).1 := fun hs => by
  unfold State.unbindWork
  split; · exact Good.refl s hs
  split; · exact Good.refl s hs
  next hd =>
  split; · exact Good.refl s hs
  next hb =>
  obtain ⟨sid, hsid⟩ := Option.ne_none_iff_exists'.1 (fun h => hb (Option.isNone_iff_eq_none.2 h))
  obtain ⟨j, hj⟩ := hs.map.2.2 k sid hsid
  dsimp only
  split
  · next hn =>
    have := List.find?_eq_none.1 hn j (List.mem_range.2 (way_lt hs.map hj))
    simp [State.wayOfCtx, hj] at this
  · next i hi =>
    have hc := List.find?_some hi
    unfold State.wayOfCtx at hc
    split at hc
    · cases hc
    · next b hw => exact good_unbind hw (beq_iff_eq.1 hc) (Bool.eq_false_iff.2 hd) hs

theorem good_enableWork (s : State) (k : Nat) : Good s (s.enableWork k).1 := by
  unfold State.enableWork
  split; · exact .refl s
  next hk =>
  split; · exact .refl s
  next hb =>
  split; · exact .refl s
  next hr =>
  split
  · exact .refl s
  · exact good_setCtx rfl fun _ => ⟨by omega, by simpa [Option.isSome_iff_ne_none] using hb, Bool.not_eq_false _ ▸ hr⟩

theorem good_disableWork (s : State) (k : Nat) : Good s (s.disableWork k).1 := by
  unfold State.disableWork
  split; · exact .refl s
  split; · exact .refl s
  have hoff : Good s (s.setCtx k { s.ctx k with enabled := false }) := good_setCtx rfl Bool.noConfusion
  dsimp only
  exact hoff.trans (good_of_keeps (keeps_clearAwaited _ k))

theorem good_enableProfileWork (s : State) (n : Nat) : Good s (s.enableProfileWork n).1 := by
  unfold State.enableProfileWork
  split; · exact .refl s
  next hn =>
  dsimp only
  split; · exact .refl s
  split; · exact .refl s
  next hb =>
  split; · exact .refl s
  next hr =>
  split; · exact .refl s
  next hl =>
  split; · exact .refl s
  next hd =>
  exact good_setProfile fun _ => ⟨by omega, Nat.not_lt.1 hb,
    show (s.memberList (s.profile n)).Nodup by simpa [State.duplicateMember] using hd, not_not.1 hr,
    fun h => not_not.1 fun h' => hl ⟨h, h'⟩⟩

theorem good_disableProfileWork (s : State) (n : Nat) : Good s (s.disableProfileWork n).1 := by
  unfold State.disableProfileWork
  split; · exact .refl s
  split; · exact .refl s
  have hoff : Good s (s.setProfile n { s.profile n with enabled := false }) := good_setProfile Bool.noConfusion
  exact hoff.trans (good_of_keeps (keeps_formBatch _ n))

/-! ### WRITE_ENTRIES -/

/-- A write that fails leaves the state, and one that is made leads to a good state. -/
def WriteGood (s : State) : WriteResult → Prop
  | .fails _ => True
  | .written t _ => Good s t

theorem writeGood_enumerated {α : Type} {s : State} {v : Option α} {k : α → WriteResult}
    (h : ∀ x, v = some x → WriteGood s (k x)) : WriteGood s (enumerated v k) := by
  cases v with
  | none => trivial
  | some x => exact h x rfl

theorem writeGood_structural {s : State} {r : WriteResult} (h : WriteGood s r) : WriteGood s (s.structural r) := by
  unfold State.structural
  split
  · trivial
  · exact h

theorem writeGood_numeric {s : State} {lo hi v : Nat} {k : Nat → Bool → WriteResult}
    (h : ∀ x c, WriteGood s (k x c)) : WriteGood s (numeric lo hi v k) := h _ _

theorem writeGood_unless {s : State} {p : Prop} [Decidable p] {c : OutcomeCode} {r : WriteResult}
    (h : ¬p → WriteGood s r) : WriteGood s (if p then .fails c else r) := by
  split
  · trivial
  · next hp => exact h hp

theorem writeGood_written {s t : State} {c : Bool} (h : Keeps s t) : WriteGood s (.written t c) := good_of_keeps h

theorem keeps_reclampWq (s : State) : Keeps s s.reclampWq := keeps_of_eq rfl rfl rfl rfl rfl rfl

theorem keeps_judgeHoldover (s : State) : Keeps s s.judgeHoldover := keeps_tru s _

theorem keeps_window (s : State) (w : Window) : Keeps s { s with window := w } := keeps_of_eq rfl rfl rfl rfl rfl rfl

/-- A write of R under which every enabled context and profile fits (R160). -/
theorem good_setRate {s : State} {r : Nat} (h : s.rateMisfit r = false) (t : Tru) :
    Good s { s with params := { s.params with rate := r }, tru := t } := fun hs => by
  obtain ⟨hctx, hprof⟩ := Bool.or_eq_false_iff.1 h
  refine ⟨⟨hs.wfMap, hs.wfCtxs, hs.wfProfiles, hs.wfMembers, mapLawful_congr (s := s) rfl rfl (fun _ => rfl) hs.map⟩,
    fun hc hp => ⟨fun k he => ?_, fun n he => ?_⟩⟩
  · obtain ⟨hk, hb, -⟩ := hc k he
    have he' : (s.ctx k).enabled = true := he
    have := List.any_eq_false.1 hctx k (List.mem_range.2 (by omega))
    have hr : compatible r (s.ctx k).desc.rate = true := by simpa [he'] using this
    exact ⟨hk, hb, hr⟩
  · obtain ⟨hn, hb, hd, -, hl⟩ := hp n he
    have he' : (s.profile n).enabled = true := he
    have := List.any_eq_false.1 hprof n (List.mem_range.2 (by omega))
    have hr : r % (s.profile n).decimation = 0 := by simpa [he'] using this
    exact ⟨hn, hb, hd, hr, hl⟩

/-- A write of the map select function to an empty map (R36). -/
theorem good_setMapSelect {s : State} (h : s.mapOccupied = false) (x : MapSelect) :
    Good s (s.setParams { s.params with mapSelect := x }) := fun hs => by
  have hempty : ∀ i b, s.way i ≠ some b := fun i b hi => by
    have := List.any_eq_false.1 h i (List.mem_range.2 (way_lt hs.map hi))
    simp [hi] at this
  exact ⟨⟨hs.wfMap, hs.wfCtxs, hs.wfProfiles, hs.wfMembers, fun i b hi => absurd hi (hempty i b), hs.map.2⟩,
    fun hc hp => ⟨hc, profilesFit_congr rfl rfl rfl hp⟩⟩

theorem writeGood_rate (s : State) (r : Nat) : WriteGood s (s.writeRate r) := by
  unfold State.writeRate
  split
  · trivial
  · exact writeGood_unless fun _ => writeGood_unless fun hm => good_setRate (Bool.eq_false_iff.2 hm) _

theorem writeGood_param (s : State) (i v : Nat) : WriteGood s (s.writeParam i v) := by
  have hset : ∀ p : Params, p.rate = s.params.rate → p.mapSelect = s.params.mapSelect → Keeps s (s.setParams p) :=
    fun _ => keeps_setParams
  match i with
  | 0 => exact writeParam_rate s v ▸ writeGood_enumerated fun x _ => writeGood_rate s x
  | 1 =>
    rw [writeParam_mapSelect]
    refine writeGood_enumerated fun x _ => writeGood_structural ?_
    cases hm : s.mapOccupied with
    | true => trivial
    | false => exact good_setMapSelect hm x
  | 2 => exact writeParam_mgmtId s v ▸ writeGood_structural (writeGood_numeric fun _ _ => writeGood_written (hset _ rfl rfl))
  | 3 => exact writeParam_lead s v ▸ writeGood_structural (writeGood_numeric fun _ _ => writeGood_written (hset _ rfl rfl))
  | 4 =>
    rw [writeParam_ppsEdge]
    exact writeGood_enumerated fun _ _ => writeGood_structural (writeGood_written (hset _ rfl rfl))
  | 5 =>
    rw [writeParam_cSat]
    exact writeGood_numeric fun _ _ => writeGood_written ((keeps_clampConfidence _).after (hset _ rfl rfl))
  | 6 => exact writeParam_cAwait s v ▸ writeGood_numeric fun _ _ => writeGood_written (hset _ rfl rfl)
  | 7 =>
    rw [writeParam_wMin]
    exact writeGood_numeric fun _ _ => writeGood_unless fun _ => writeGood_written ((keeps_reclampWq _).after (hset _ rfl rfl))
  | 8 =>
    rw [writeParam_wMax]
    exact writeGood_numeric fun _ _ => writeGood_unless fun _ => writeGood_written ((keeps_reclampWq _).after (hset _ rfl rfl))
  | 9 => exact writeParam_w0 s v ▸ writeGood_numeric fun _ _ => writeGood_written (hset _ rfl rfl)
  | 10 => exact writeParam_adaptation s v ▸ writeGood_enumerated fun _ _ => writeGood_written (hset _ rfl rfl)
  | 11 => exact writeParam_theta s v ▸ writeGood_enumerated fun _ _ => writeGood_written (hset _ rfl rfl)
  | 12 => exact writeParam_upStep s v ▸ writeGood_enumerated fun _ _ => writeGood_written (hset _ rfl rfl)
  | 13 => exact writeParam_downStep s v ▸ writeGood_enumerated fun _ _ => writeGood_written (hset _ rfl rfl)
  | 14 => exact writeParam_wq s v ▸ writeGood_numeric fun _ _ => writeGood_written (keeps_window s _)
  | 15 =>
    rw [writeParam_wm1]
    exact writeGood_numeric fun _ _ => writeGood_unless fun _ => writeGood_written (hset _ rfl rfl)
  | 16 =>
    rw [writeParam_wm2]
    exact writeGood_numeric fun _ _ => writeGood_unless fun _ => writeGood_written (hset _ rfl rfl)
  | 17 =>
    rw [writeParam_hMax]
    exact writeGood_numeric fun _ _ => writeGood_written ((keeps_judgeHoldover _).after (hset _ rfl rfl))
  | 18 =>
    rw [writeParam_drift]
    exact writeGood_numeric fun _ _ => writeGood_written ((keeps_judgeHoldover _).after (hset _ rfl rfl))
  | 19 =>
    rw [writeParam_holdLimit]
    exact writeGood_numeric fun _ _ => writeGood_written ((keeps_holdExpireDue _).after (hset _ rfl rfl))
  | 20 => exact writeParam_promotion s v ▸ writeGood_numeric fun _ _ => writeGood_written (hset _ rfl rfl)
  | 21 => exact writeParam_highBypassMax s v ▸ writeGood_numeric fun _ _ => writeGood_written (hset _ rfl rfl)
  | _ + 22 => exact writeGood_numeric (k := fun x c => .written (s.setParams { s.params with lowBypassMax := x }) c) fun _ _ =>
      writeGood_written (hset _ rfl rfl)

/-! ### One entry of each table (R40, R42, R71, R124, R125, R155, R156) -/

theorem writeGood_mapEntry (s : State) (i : Int) (cls : Nat) : WriteGood s (s.writeMapEntry i cls) := by
  unfold State.writeMapEntry
  split
  · trivial
  · trivial

theorem writeGood_ctxEntry (s : State) (i : Int) (cls : Nat) (e : List Byte) : WriteGood s (s.writeCtxEntry i cls e) := by
  unfold State.writeCtxEntry
  split
  · trivial
  · exact writeGood_unless fun hd => writeGood_enumerated fun d _ => good_setCtx rfl fun h => absurd h hd

theorem writeGood_conversionEntry (s : State) (i : Int) (cls : Nat) (e : List Byte) :
    WriteGood s (s.writeConversionEntry i cls e) := by
  unfold State.writeConversionEntry
  split
  · trivial
  · exact writeGood_enumerated fun _ _ => writeGood_written (keeps_of_eq rfl rfl rfl rfl rfl rfl)

theorem writeGood_profileEntry (s : State) (i : Int) (cls : Nat) (e : List Byte) :
    WriteGood s (s.writeProfileEntry i cls e) := by
  unfold State.writeProfileEntry
  split
  · trivial
  · exact writeGood_unless fun hd => writeGood_enumerated fun p _ => good_setProfile fun h => absurd h hd

theorem writeGood_memberEntry (s : State) (i : Int) (cls : Nat) (e : List Byte) :
    WriteGood s (s.writeMemberEntry i cls e) := by
  unfold State.writeMemberEntry
  split
  · trivial
  · exact writeGood_unless fun hu => writeGood_unless fun _ => good_setMember (Bool.eq_false_iff.2 hu)

theorem writeGood_managerEntry (s : State) (i : Int) (cls : Nat) (e : List Byte) :
    WriteGood s (s.writeManagerEntry i cls e) := by
  unfold State.writeManagerEntry
  split
  · trivial
  · exact writeGood_enumerated fun _ _ => writeGood_unless fun _ => writeGood_written (keeps_mgmt s _)

theorem writeGood_accessEntry (s : State) (i : Int) (cls : Nat) (e : List Byte) :
    WriteGood s (s.writeAccessEntry i cls e) := by
  unfold State.writeAccessEntry
  split
  · trivial
  · exact writeGood_enumerated fun _ _ => writeGood_written (keeps_mgmt s _)

/-- One entry of any table, written or refused (R158). -/
theorem writeGood_entry (s : State) (table : Nat) (i : Int) (cls : Nat) (e : List Byte) :
    WriteGood s (s.writeEntry table i cls e) :=
  match table with
  | 0 => writeGood_unless fun _ => writeGood_unless fun _ => writeGood_param s _ _
  | 1 => writeGood_mapEntry s i cls
  | 2 => writeGood_ctxEntry s i cls e
  | 3 => writeGood_conversionEntry s i cls e
  | 4 => writeGood_profileEntry s i cls e
  | 5 => writeGood_memberEntry s i cls e
  | 6 => writeGood_managerEntry s i cls e
  | _ + 7 => writeGood_accessEntry s i cls e

theorem good_writeTransfer (table cls : Nat) (step : Int) (es : List (List Byte)) (i : Int) (n : Nat) (cl : Bool)
    (s : State) : Good s (writeTransfer table cls step es i n cl s).1 := by
  induction es generalizing i n cl s with
  | nil => exact .refl s
  | cons e es ih =>
    have he := writeGood_entry s table i cls e
    unfold writeTransfer
    split
    · exact .refl s
    · next t c hw =>
      rw [hw] at he
      exact Good.trans he (ih _ _ _ t)

/-! ### Directives -/

theorem keeps_resetBlocks (s : State) : Keeps s s.resetBlocks := by
  unfold State.resetBlocks
  refine (keeps_of_aside (flushEnded_agree _).1).after ⟨rfl, ?_, rfl, rfl, rfl, rfl⟩
  exact setupKept_update (fun _ => rfl) fun _ _ => ⟨rfl, rfl, rfl⟩

theorem keeps_clearCounts (s : State) : Keeps s s.clearCounts :=
  ⟨rfl, setupKept_update (fun _ => rfl) fun _ _ => ⟨rfl, rfl, rfl⟩, rfl, rfl, rfl, rfl⟩

theorem keeps_clearFlags (s : State) (selector : Nat) : Keeps s (s.clearFlags selector) := by
  unfold State.clearFlags
  split
  · exact keeps_store s _
  · exact keeps_intake s _
  · exact keeps_of_eq rfl rfl rfl rfl rfl rfl
  · exact .refl s

theorem keeps_setEngine (s : State) (e : EngineState) : Keeps s (s.setEngine e) := keeps_mgmt s _

theorem keeps_enterDraining (s : State) : Keeps s s.enterDraining := by
  unfold State.enterDraining
  exact (keeps_judgeDrain _).after ((keeps_offer _).after ((keeps_formAllBatches _).after (keeps_setEngine s _)))

theorem keeps_resumeWork (s : State) : Keeps s s.resumeWork.1 := by
  unfold State.resumeWork
  split
  · split
    · dsimp only
      exact keeps_enterRunning s
    · exact keeps_setEngine s _
  · exact .refl s

theorem keeps_pauseWork (s : State) : Keeps s s.pauseWork.1 := by
  unfold State.pauseWork
  split
  · dsimp only
    exact keeps_enterDraining s
  · exact keeps_setEngine s _
  all_goals exact .refl s

theorem keeps_pauseNowWork (s : State) : Keeps s s.pauseNowWork.1 := by
  unfold State.pauseNowWork
  split
  · dsimp only
    exact (keeps_enterDraining _).after ((keeps_closeAll _ _).after (keeps_setEngine s _))
  · exact keeps_setEngine s _
  all_goals exact .refl s

theorem keeps_flushWork (s : State) (d : Directive) : Keeps s (s.flushWork d).1 := by
  unfold State.flushWork
  split; · exact .refl s
  split; · exact .refl s
  dsimp only
  exact (keeps_mgmt _ _).after ((keeps_composer _ _).after (keeps_formAllBatches s))

theorem keeps_statusWork (s : State) (d : Directive) : Keeps s (s.statusWork d).1 := by
  unfold State.statusWork
  dsimp only
  split
  · exact keeps_clearFlags s _
  · exact .refl s

/-- A directive's own work, by its code. -/
theorem good_ownWork (s : State) (cls : Nat) (c : DirectiveCode) (d : Directive) : Good s (s.ownWork cls c d).1 := by
  unfold State.ownWork
  cases c with
  | readEntries => exact .refl s
  | writeEntries => exact good_writeTransfer _ _ _ _ _ _ _ s
  | bindStream => exact good_bindWork s _ _
  | unbindStream => exact good_unbindWork s _
  | setStreamState =>
    dsimp only
    split
    · exact good_enableWork s _
    · exact good_disableWork s _
  | enableProfile => exact good_enableProfileWork s _
  | disableProfile => exact good_disableProfileWork s _
  | resume => exact good_of_keeps (keeps_resumeWork s)
  | pause => exact good_of_keeps (keeps_pauseWork s)
  | pauseNow => exact good_of_keeps (keeps_pauseNowWork s)
  | engineReset => exact good_of_keeps ((keeps_mgmt _ _).after (keeps_resetBlocks s))
  | flushBatches => exact good_of_keeps (keeps_flushWork s d)
  | clearCounters => exact good_of_keeps (keeps_clearCounts s)
  | lockConfig => exact good_of_keeps (keeps_mgmt s _)
  | readStatus => exact good_of_keeps (keeps_statusWork s d)

theorem good_directiveWork (s : State) (cls : Nat) (d : Directive) : Good s (s.directiveWork cls d).1 := by
  unfold State.directiveWork
  split
  · exact .refl s
  · split
    · exact .refl s
    · exact good_ownWork s cls _ d

theorem keeps_finishDirective (s : State) (d : Directive) (r : Option Reply) : Keeps s (s.finishDirective d r) := by
  unfold State.finishDirective
  split
  · exact (keeps_settleAndJudge _).after (keeps_of_eq rfl rfl rfl rfl rfl rfl)
  · next r _ =>
    refine (keeps_settleAndJudge _).after (keeps_of_aside ?_)
    rw [nextFree_aside, (offerAnswer_agree _ _).1, countAnswer_aside]

theorem good_executeDirective (s : State) (d : Directive) : Good s (s.executeDirective d) := by
  unfold State.executeDirective
  split
  · exact good_of_keeps (keeps_of_eq rfl rfl rfl rfl rfl rfl)
  · next cls _ =>
    have hwork := good_directiveWork (s.setExec .executing) cls d
    have hexec : Good s (s.setExec .executing) := good_of_keeps (keeps_mgmt s _)
    exact (hexec.trans hwork).trans (good_of_keeps ((keeps_finishDirective _ d _).after (keeps_settleAndJudge _)))

theorem good_runDirective (s : State) (d : Directive) : Good s (s.runDirective d) :=
  Good.trans (good_of_keeps (keeps_takePlacement s)) (good_executeDirective _ d)

theorem good_takeDirective (s : State) (d : Directive) : Good s (s.takeDirective d) := by
  unfold State.takeDirective
  split
  · exact good_runDirective s d
  · exact .refl s

/-! ### Steps -/

/-- The command of a directive has the Management Unit take it. -/
theorem exec_directive {c : Instr} {r : Request} {k : DirectiveCode} {d : Directive} (h : directiveOf c = some (r, k, d))
    (s : State) : exec c s = .next (s.takeDirective d) := by
  cases c with
  | writeWindowLimits r limit v => cases limit <;> (cases h; rfl)
  | writeWatermark r mark v => cases mark <;> (cases h; rfl)
  | writeHoldoverParameter r param v => cases param <;> (cases h; rfl)
  | _ => cases h <;> rfl

/-- Power-on reset empties the map and disables every context and profile. -/
theorem good_powerOn (s : State) (p : Params) (f : Nat) (q : List Instr) :
    Good s { State.reset with params := p, free := f, pending := q } := fun _ => by
  refine ⟨⟨rfl, rfl, rfl, rfl, fun i b h => ?_, fun i j a b h => ?_, fun k sid h => ?_⟩, fun _ _ =>
    ⟨fun k h => ?_, fun n h => ?_⟩⟩ <;> cases h

/-- The commands that are events. -/
theorem good_event {c : Instr} {s t : State} (hc : directiveOf c = none) (h : exec c s = .next t) : Good s t := by
  cases c with
  | powerOnReset pins => cases h; exact good_powerOn s _ _ _
  | frameArrival after link source frame => cases h; exact good_of_keeps ((keeps_setLinkIn _ _ _).after (keeps_tru s _))
  | frameTake => cases h; exact good_of_keeps (keeps_takeFrame s)
  | placementRequest => cases h; exact good_of_keeps (keeps_takePlacement s)
  | instantEvent => cases h; exact good_of_keeps ((keeps_takeInstant _).after (keeps_tru s _))
  | deadlineExpiry g =>
    cases h
    split
    · exact good_of_keeps ((keeps_expire _ g).after (keeps_tru s _))
    · exact .refl s
  | compositionStep => cases h; exact good_of_keeps (keeps_composeStep s)
  | holdExpiry profile =>
    cases h
    split
    · exact .refl s
    · exact good_of_keeps ((keeps_takeHoldExpiry _ _).after (keeps_tru s _))
  | readyIndication after =>
    cases h; exact good_of_keeps ((keeps_settleAndJudge _).after (keeps_of_eq rfl rfl rfl rfl rfl rfl))
  | completionIndication after => cases h; exact good_of_keeps (keeps_of_eq rfl rfl rfl rfl rfl rfl)
  | todMessage after bytes => cases h; exact good_of_keeps (keeps_of_eq rfl rfl rfl rfl rfl rfl)
  | ppsEdge after polarity =>
    cases h
    split
    · exact good_of_keeps ((keeps_takeEdge _).after (keeps_tru s _))
    · exact good_of_keeps (keeps_tru s _)
  | edgeTimerExpiry =>
    cases h
    split
    · exact .refl s
    · exact good_of_keeps ((keeps_tru _ _).after (keeps_tru s _))
  | holdoverSecond =>
    cases h
    split
    · exact good_of_keeps ((keeps_tru _ _).after (keeps_tru s _))
    · exact .refl s
  | directiveTake =>
    cases h
    split
    · exact Good.trans (good_of_keeps (keeps_mgmt s _)) (good_runDirective _ _)
    · exact .refl s
  | scrubCompletion =>
    cases h
    split
    · refine good_of_keeps ((keeps_settleAndJudge _).after ?_)
      unfold State.scrubDone
      dsimp only
      split <;> exact keeps_of_eq rfl rfl rfl rfl rfl rfl
    · exact .refl s
  | writeWindowLimits r limit v => cases limit <;> cases hc
  | writeWatermark r mark v => cases mark <;> cases hc
  | writeHoldoverParameter r param v => cases param <;> cases hc
  | _ => cases hc

theorem good_exec {c : Instr} {s t : State} (h : exec c s = .next t) : Good s t := by
  cases hc : directiveOf c with
  | none => exact good_event hc h
  | some x =>
    obtain ⟨r, k, d⟩ := x
    rw [exec_directive hc] at h
    cases h
    exact good_takeDirective s d

theorem good_step {s t : State} (h : step s = .next t) : Good s t := by
  unfold step at h
  split at h
  · rw [Host.Outcome.next.injEq] at h
    exact h ▸ good_of_keeps (keeps_tick s)
  · next c rest _ =>
    have hq : Good s { s with pending := rest } := good_of_keeps (keeps_of_eq rfl rfl rfl rfl rfl rfl)
    exact hq.trans (good_exec h)

/-- Settles O55: every step either keeps the configuration or is one of the directives that test what they write. -/
theorem streamMapStaysLawful : Obligations.StreamMapStaysLawful := by
  intro s t hs hm h
  obtain ⟨hmap, hctxs, -, -, -, hprofiles, hmembers, -⟩ := hs
  obtain ⟨ht, hfit⟩ := good_step h ⟨hmap, hctxs, hprofiles, hmembers, hm⟩
  exact ⟨ht.map, hfit⟩

end Sys2Proof.Proofs.StreamsKept
end

/-! ## The output grid, time tags and rounding (O7, O8, O9) -/

section
namespace Sys2Proof.Proofs.Grid
open Sys2Proof Sys2Proof.Machine Sys2Proof.Laws

theorem rates_bounds : ∀ r ∈ rates, 10 ≤ r ∧ r ≤ 240 := by decide

/-! ### Instants (R3, R4) -/

/-- The instant of slot G is G / R seconds, truncated to the nanosecond. -/
theorem instantOf_eq {r : Nat} (hr : 0 < r) (g : Nat) : instantOf r g = g * secondNs / r := by
  have hg : g * secondNs = (g % r) * secondNs + (g / r) * secondNs * r := by
    calc g * secondNs = (r * (g / r) + g % r) * secondNs := by rw [Nat.div_add_mod]
      _ = (g % r) * secondNs + (g / r) * secondNs * r := by ring
  rw [hg, Nat.add_mul_div_right _ _ hr, Nat.add_comm]
  rfl

/-- The current slot is the largest G of G / R seconds below the end of the nanosecond. -/
theorem currentSlot_eq {r : Nat} (hr : 0 < r) (now : Nat) : currentSlot r now = ((now + 1) * r - 1) / secondNs := by
  have hpos : 1 ≤ (now % secondNs + 1) * r := Nat.mul_pos (Nat.succ_pos _) hr
  have hn : (now + 1) * r = (now % secondNs + 1) * r + (now / secondNs * r) * secondNs := by
    calc (now + 1) * r = (secondNs * (now / secondNs) + now % secondNs + 1) * r := by rw [Nat.div_add_mod]
      _ = (now % secondNs + 1) * r + (now / secondNs * r) * secondNs := by ring
  rw [hn, Nat.sub_add_comm hpos, Nat.add_mul_div_right _ _ (by decide), Nat.add_comm]
  rfl

theorem le_currentSlot_iff {r : Nat} (hr : 0 < r) (g now : Nat) : g ≤ currentSlot r now ↔ instantOf r g ≤ now := by
  have hpos : 1 ≤ (now + 1) * r := Nat.mul_pos (Nat.succ_pos _) hr
  rw [currentSlot_eq hr, instantOf_eq hr, Nat.le_div_iff_mul_le (by decide), ← Nat.lt_succ_iff (n := now),
    Nat.div_lt_iff_lt_mul hr, Nat.succ_eq_add_one]
  omega

/-- Instants lie a whole slot, truncated, apart. -/
theorem instantOf_add_le {r : Nat} (hr : 0 < r) {g h : Nat} (hgh : g < h) :
    instantOf r g + secondNs / r ≤ instantOf r h := by
  rw [instantOf_eq hr, instantOf_eq hr]
  calc g * secondNs / r + secondNs / r ≤ (g * secondNs + secondNs) / r := Nat.div_add_div_le_add_div
    _ = (g + 1) * secondNs / r := by rw [Nat.add_mul, Nat.one_mul]
    _ ≤ h * secondNs / r := Nat.div_le_div_right (Nat.mul_le_mul_right _ hgh)

/-- The second an instant lies in, and its nanoseconds in that second. -/
theorem instantOf_parts {r : Nat} (hr : 0 < r) (g : Nat) :
    instantOf r g / secondNs = g / r ∧ instantOf r g % secondNs = g % r * secondNs / r := by
  have hlt : g % r * secondNs / r < secondNs := by
    rw [Nat.div_lt_iff_lt_mul hr, Nat.mul_comm secondNs]
    exact Nat.mul_lt_mul_of_pos_right (Nat.mod_lt g hr) (by decide)
  unfold instantOf
  rw [Nat.add_comm]
  exact ⟨by rw [Nat.add_mul_div_right _ _ (by decide), Nat.div_eq_of_lt hlt, Nat.zero_add],
    by rw [Nat.add_mul_mod_self_right, Nat.mod_eq_of_lt hlt]⟩

/-- The least distance of instants, at 240 slots in the second. -/
theorem least_slot {r : Nat} (hr : 0 < r) (h240 : r ≤ 240) : 4166666 ≤ secondNs / r :=
  calc 4166666 = secondNs / 240 := by decide
    _ ≤ secondNs / r := Nat.div_le_div_left h240 hr

/-- Settles O7: an instant is G / R seconds truncated, and so at or before local time just where G is at most the quotient
that the current slot is. -/
theorem currentSlotIsLargest : Obligations.CurrentSlotIsLargest := by
  refine ⟨fun r hmem => ?_, rfl⟩
  obtain ⟨hlow, hhigh⟩ := rates_bounds r hmem
  have hr : 0 < r := by omega
  have hstep := least_slot hr hhigh
  have hlater : ∀ g h, g < h → instantOf r g + 4166666 ≤ instantOf r h := fun g h hgh =>
    (Nat.add_le_add_left hstep _).trans (instantOf_add_le hr hgh)
  refine ⟨hlater, fun g => ?_, fun s hs => ?_⟩
  · obtain ⟨hsec, hns⟩ := instantOf_parts hr g
    have hns' : instantOf r g % 1000000000 = g % r * secondNs / r := hns
    rw [hns']
    exact ⟨hsec, Nat.div_mul_le_self _ _, Nat.lt_mul_of_div_lt (Nat.lt_succ_self _) hr, fun h0 => by rw [h0]; simp⟩
  · subst hs
    have hle : ∀ g, g ≤ s.gnow ↔ s.instant g ≤ s.tru.now := fun g => le_currentSlot_iff hr g s.tru.now
    refine ⟨hle, fun g hg => Nat.le_antisymm (Nat.le_of_not_lt fun hlt => ?_) ((hle g).2 hg.ge)⟩
    have hdue : s.instant s.gnow ≤ s.tru.now := (hle s.gnow).1 le_rfl
    have : s.instant g + 4166666 ≤ s.instant s.gnow := hlater g s.gnow hlt
    omega

/-! ### Time tags (R8, R9) -/

/-- The slot index is the quotient F R / B rounded to nearest, halves up. -/
theorem slotIndex_bounds {b : Nat} (hb : 1 ≤ b) (r f : Nat) :
    2 * (slotIndexOf r b f * b) ≤ 2 * (f * r) + b ∧ 2 * (f * r) + b < 2 * (slotIndexOf r b f * b) + 2 * b := by
  have hlow : slotIndexOf r b f * (2 * b) ≤ 2 * (f * r) + b := Nat.div_mul_le_self _ _
  have hhigh : 2 * (f * r) + b < (slotIndexOf r b f + 1) * (2 * b) :=
    Nat.lt_mul_of_div_lt (Nat.lt_succ_self _) (by omega)
  constructor
  · linarith
  · linarith

theorem slotIndex_le {r b f : Nat} (hf : f < b) : slotIndexOf r b f ≤ r := by
  have hfr : f * r ≤ b * r := Nat.mul_le_mul_right r hf.le
  refine Nat.lt_succ_iff.1 ((Nat.div_lt_iff_lt_mul (by omega)).2 ?_)
  have hb : r.succ * (2 * b) = 2 * (b * r) + 2 * b := by rw [Nat.succ_mul]; ring
  omega

theorem residualTicks_eq (r b f : Nat) : residualTicks r b f = (f : Int) * r - (slotIndexOf r b f : Int) * b := by
  unfold residualTicks
  push_cast
  rfl

theorem two_residualTicks_bounds {b : Nat} (hb : 1 ≤ b) (r f : Nat) :
    -(b : Int) ≤ 2 * residualTicks r b f ∧ 2 * residualTicks r b f < b := by
  obtain ⟨hlow, hhigh⟩ := slotIndex_bounds hb r f
  unfold residualTicks
  omega

/-- The second and the slot index of the slot that names a tag. -/
theorem tagSlot_parts {r b f : Nat} (hr : 0 < r) (hf : f < b) (sec : Nat) :
    tagSlot r b sec f / r = (if slotIndexOf r b f = r then sec + 1 else sec)
      ∧ tagSlot r b sec f % r = (if slotIndexOf r b f = r then 0 else slotIndexOf r b f) := by
  unfold tagSlot
  dsimp only
  split
  · exact ⟨Nat.mul_div_cancel _ hr, Nat.mul_mod_left _ _⟩
  · next hne =>
    have hlt : slotIndexOf r b f < r := lt_of_le_of_ne (slotIndex_le hf) hne
    rw [Nat.add_comm]
    exact ⟨by rw [Nat.add_mul_div_right _ _ hr, Nat.div_eq_of_lt hlt, Nat.zero_add],
      by rw [Nat.add_mul_mod_self_right, Nat.mod_eq_of_lt hlt]⟩

theorem tagSlot_le {r b f : Nat} (hf : f < b) (sec : Nat) : tagSlot r b sec f ≤ (sec + 1) * r := by
  have hn : slotIndexOf r b f ≤ r := slotIndex_le hf
  unfold tagSlot
  dsimp only
  split
  · exact le_rfl
  · rw [Nat.succ_mul]; omega

/-- Settles O8, from the two bounds on the slot index as a rounded quotient. -/
theorem tagSlotAndResidualTicks : Obligations.TagSlotAndResidualTicks := by
  intro r hmem b sec f hb hbmax hf hsec n
  obtain ⟨hlow, hhigh⟩ := rates_bounds r hmem
  have hr : 0 < r := by omega
  obtain ⟨hnlow, hnhigh⟩ : 2 * (n * b) ≤ 2 * (f * r) + b ∧ 2 * (f * r) + b < 2 * (n * b) + 2 * b := slotIndex_bounds hb r f
  have hres : residualTicks r b f = ((f * r : Nat) : Int) - ((n * b : Nat) : Int) := rfl
  have hfr : f * r ≤ 1073741823 * 240 := Nat.mul_le_mul (by omega) hhigh
  have htag : tagSlot r b sec f ≤ 1030792151040 :=
    calc tagSlot r b sec f ≤ (sec + 1) * r := tagSlot_le hf sec
      _ ≤ 2 ^ 32 * 240 := Nat.mul_le_mul hsec hhigh
  obtain ⟨hdiv, hmod⟩ := tagSlot_parts hr hf sec
  refine ⟨slotIndex_le hf, fun h => if_pos h, fun h => if_neg h.ne, hdiv, hmod, htag, residualTicks_eq r b f,
    (two_residualTicks_bounds hb r f).1, (two_residualTicks_bounds hb r f).2, ?sign, ?half, ?width, ?residualWidth⟩
  case sign => rw [hres]; omega
  case half => rw [hres]; omega
  case width => omega
  case residualWidth => rw [hres]; omega

/-! ### Rounding and saturation (R10, R74 to R76, R79, R80) -/

/-- The magnitude of a rounded quotient. -/
def roundMagnitude (x : Int) (d : Nat) : Nat := (2 * x.natAbs + d) / (2 * d)

theorem roundDiv_eq (x : Int) (d : Nat) :
    roundDiv x d = if x < 0 then -(roundMagnitude x d : Int) else (roundMagnitude x d : Int) := rfl

theorem natAbs_roundDiv (x : Int) (d : Nat) : (roundDiv x d).natAbs = roundMagnitude x d := by
  rw [roundDiv_eq]
  split <;> simp

theorem roundMagnitude_bounds (x : Int) {d : Nat} (hd : 0 < d) :
    2 * (roundMagnitude x d * d) ≤ 2 * x.natAbs + d ∧ 2 * x.natAbs + d < 2 * (roundMagnitude x d * d) + 2 * d := by
  have hlow : roundMagnitude x d * (2 * d) ≤ 2 * x.natAbs + d := Nat.div_mul_le_self _ _
  have hhigh : 2 * x.natAbs + d < (roundMagnitude x d + 1) * (2 * d) :=
    Nat.lt_mul_of_div_lt (Nat.lt_succ_self _) (by omega)
  constructor
  · linarith
  · linarith

/-- The rounded quotient times the divisor has the sign of x, and the rounded magnitude times the divisor. -/
theorem roundDiv_mul (x : Int) (d : Nat) :
    roundDiv x d * d = if x < 0 then -((roundMagnitude x d * d : Nat) : Int) else ((roundMagnitude x d * d : Nat) : Int) := by
  rw [roundDiv_eq]
  split
  · push_cast; ring
  · push_cast; rfl

/-- Rounding is to nearest, with ties away from zero. -/
theorem roundDiv_nearest (x : Int) {d : Nat} (hd : 0 < d) :
    2 * (roundDiv x d * d - x).natAbs ≤ d
      ∧ (2 * (roundDiv x d * d - x).natAbs = d → x.natAbs < (roundDiv x d * d).natAbs) := by
  obtain ⟨hlow, hhigh⟩ := roundMagnitude_bounds x hd
  rw [roundDiv_mul]
  split
  · omega
  · omega

theorem roundDiv_one (x : Int) : roundDiv x 1 = x := by
  have hm : roundMagnitude x 1 = x.natAbs := by unfold roundMagnitude; omega
  rw [roundDiv_eq, hm]
  split <;> omega

/-- The residual in nanoseconds is at most half a slot, rounded. -/
theorem residualNs_le {b : Nat} (hb : 1 ≤ b) (r f : Nat) :
    (residualNs r b f).natAbs ≤ (roundDiv 1000000000 (2 * r)).natAbs := by
  have hhalf : 2 * (residualTicks r b f).natAbs ≤ b := by
    have := two_residualTicks_bounds hb r f
    omega
  unfold residualNs
  rw [natAbs_roundDiv, natAbs_roundDiv]
  unfold roundMagnitude
  rw [Int.natAbs_mul]
  calc (2 * ((residualTicks r b f).natAbs * 1000000000) + r * b) / (2 * (r * b))
      ≤ (b * (1000000000 + r)) / (b * (2 * r)) := by
        rw [show 2 * (r * b) = b * (2 * r) by ring]
        refine Nat.div_le_div_right ?_
        rw [Nat.mul_add, Nat.mul_comm r b]
        omega
    _ = (1000000000 + r) / (2 * r) := Nat.mul_div_mul_left _ _ hb
    _ = (2 * (1000000000 + r)) / (2 * (2 * r)) := (Nat.mul_div_mul_left _ _ (by decide)).symm
    _ = (2 * 1000000000 + 2 * r) / (2 * (2 * r)) := by rw [Nat.mul_add]

theorem satSigned_32 (x : Int) : satSigned 32 x = max (-2147483648) (min x 2147483647) := by
  unfold satSigned
  norm_num
  split_ifs <;> omega

theorem satSigned_16 (x : Int) : satSigned 16 x = max (-32768) (min x 32767) := by
  unfold satSigned
  norm_num
  split_ifs <;> omega

/-- A part is marked exactly where saturation to 32 bits changes it. -/
theorem saturates_32_iff (x : Int) : saturates 32 x = true ↔ x < -2147483648 ∨ 2147483647 < x := by
  unfold saturates
  rw [satSigned_32, bne_iff_ne]
  omega

theorem shiftPart_eq (h : Nat) (x : Int) : shiftPart h x = roundDiv x (2 ^ h) := by
  unfold shiftPart
  split
  · next h0 => rw [h0, pow_zero, roundDiv_one]
  · rfl

theorem clampNat_eq {lo hi : Nat} (h : lo ≤ hi) (v : Nat) : clampNat lo hi v = max lo (min v hi) := by
  unfold clampNat
  split_ifs <;> omega

/-- Settles O9: each part is the rounded quotient, saturated. -/
theorem roundingAndSaturation : Obligations.RoundingAndSaturation := by
  refine ⟨fun x d hd => roundDiv_nearest x hd, fun r _ b f hb _ => ⟨rfl, ?_⟩, fun e re im => ⟨?_, ?_⟩,
    fun h x => ⟨rfl, ?_, ?_, rfl⟩, fun lo hi v h => clampNat_eq h v⟩
  · exact residualNs_le hb r f
  · unfold convertPair
    rw [satSigned_32, satSigned_32]
    rfl
  · unfold pairSaturates
    rw [Bool.or_eq_true, saturates_32_iff, saturates_32_iff, or_assoc]
    rfl
  · unfold packPart
    dsimp only
    rw [satSigned_16, shiftPart_eq]
  · unfold packSaturates packPart saturates
    dsimp only
    rw [shiftPart_eq, bne_iff_ne]

end Sys2Proof.Proofs.Grid
end

/-! ## The write of the output rate (O1) -/

section
namespace Sys2Proof.Proofs.RateWrite
open Sys2Proof Sys2Proof.Machine Sys2Proof.Laws

/-- A command that writes R, by what the parameter's own tests come to. -/
theorem completes_rate {s : State} {r : Request} {cls : Nat} (v : Word) (hcan : s.canRun r cls)
    (hp : (s.access 0).permits cls = true) :
    (∀ c, (s.setExec .executing).writeParam 0 v.toNat = .fails c →
      Completes s (.writeOutputRate r v) r .writeEntries s (refusedEntry c))
    ∧ (∀ u b, (s.setExec .executing).writeParam 0 v.toNat = .written (u.setExec .executing) b →
      Completes s (.writeOutputRate r v) r .writeEntries u (wrote b)) := by
  obtain ⟨hfail, hwrite⟩ := param_carried v hcan (by decide : (0 : Nat) ≤ 22) hp
  exact ⟨fun c h => ⟨_, rfl, hfail c h⟩, fun u b h => ⟨_, rfl, hwrite u b h⟩⟩

theorem writeParam_rate_of_mem (s : State) {v : Nat} (h : v ∈ rates) : s.writeParam 0 v = s.writeRate v := by
  rw [writeParam_rate, memberOf_mem h]
  rfl

/-- The tests of R's write after its value's, in their order (R159, R160). -/
theorem writeRate_locked {s : State} (h : s.mgmt.lock = true) (v : Nat) : s.writeRate v = .fails .locked := by
  unfold State.writeRate State.structuralGuard
  rw [if_pos h]

theorem writeRate_notPaused {s : State} (hl : s.mgmt.lock = false) (he : s.mgmt.engine ≠ .paused) (v : Nat) :
    s.writeRate v = .fails .notPaused := by
  unfold State.writeRate State.structuralGuard
  rw [if_neg (by simp [hl]), if_pos he]

theorem writeRate_paused {s : State} (hl : s.mgmt.lock = false) (he : s.mgmt.engine = .paused) (v : Nat) :
    s.writeRate v =
      if v ≠ s.params.rate ∧ (s.store.hLow ≠ 0 ∨ s.store.floor ≠ 0) then .fails .notPaused
      else if s.rateMisfit v then .fails .rateMismatch
      else .written { s with params := { s.params with rate := v }
                             tru := { s.tru with nextInstant := currentSlot v s.tru.now + 1 } } false := by
  unfold State.writeRate State.structuralGuard
  rw [if_neg (by simp [hl]), if_neg (by simp [he])]

/-- An enabled context or profile does not fit a rate (R160). -/
theorem rateMisfit_iff (s : State) (v : Nat) : s.rateMisfit v = true ↔
    (∃ k, k ≤ 255 ∧ (s.ctx k).enabled = true ∧ compatible v (s.ctx k).desc.rate = false)
      ∨ ∃ n, n ≤ 7 ∧ (s.profile n).enabled = true ∧ v % (s.profile n).decimation ≠ 0 := by
  unfold State.rateMisfit
  simp only [Bool.or_eq_true, List.any_eq_true, List.mem_range, Bool.and_eq_true, Bool.not_eq_true', decide_eq_true_eq,
    Nat.lt_succ_iff (n := 255), Nat.lt_succ_iff (n := 7)]

/-- A write of a rate is a structural write, by what is left once the structural tests have passed. -/
theorem structuralWrite_rate {s u : State} {r : Request} {cls : Nat} {v : Word} {x : Reply} (hcan : s.canRun r cls)
    (hp : (s.access 0).permits cls = true) (hv : v.toNat ∈ rates)
    (h : s.mgmt.lock = false → s.mgmt.engine = .paused → Completes s (.writeOutputRate r v) r .writeEntries u x) :
    StructuralWrite s (.writeOutputRate r v) r u x := by
  have hfail := (completes_rate v hcan hp).1
  refine ⟨fun hl => hfail _ ?_, fun hl he => hfail _ ?_, h⟩
  · rw [writeParam_rate_of_mem _ hv]
    exact writeRate_locked (s := s.setExec .executing) hl _
  · rw [writeParam_rate_of_mem _ hv]
    exact writeRate_notPaused (s := s.setExec .executing) hl he _

/-- Settles O1, by the tests of the write in their order. -/
theorem outputRateWrite : Obligations.OutputRateWrite := by
  refine ⟨rfl, fun s r cls v hcan hp => ?_⟩
  obtain ⟨hfail, hwrite⟩ := completes_rate v hcan hp
  refine ⟨fun hv => hfail _ ?_, fun hv => ⟨fun hne hran => ?ran, fun hstill => ⟨fun hmis => ?misfit, fun hc hn => ?fits⟩⟩⟩
  · rw [writeParam_rate, memberOf_not_mem hv]
    rfl
  all_goals
    refine structuralWrite_rate hcan hp hv fun hl he => ?_
    have hpaused := writeRate_paused (s := s.setExec .executing) hl he v.toNat
  case ran =>
    refine hfail _ ?_
    rw [writeParam_rate_of_mem _ hv, hpaused]
    exact if_pos ⟨hne, hran⟩
  all_goals
    have hstill' : ¬(v.toNat ≠ s.params.rate ∧ (s.store.hLow ≠ 0 ∨ s.store.floor ≠ 0)) := by tauto
  case misfit =>
    refine hfail _ ?_
    rw [writeParam_rate_of_mem _ hv, hpaused]
    exact (if_neg hstill').trans (if_pos ((rateMisfit_iff s v.toNat).2 hmis))
  case fits =>
    refine hwrite _ _ ?_
    rw [writeParam_rate_of_mem _ hv, hpaused]
    refine (if_neg hstill').trans (if_neg fun hmis => ?_)
    rcases (rateMisfit_iff s v.toNat).1 hmis with ⟨k, hk, he, hx⟩ | ⟨n, hn7, he, hx⟩
    · rw [hc k hk he] at hx; cases hx
    · exact hx (hn n hn7 he)

end Sys2Proof.Proofs.RateWrite
end

/-! ## Context sets, periods and the opening of a slot (O23) -/

section
namespace Sys2Proof.Proofs.Opening
open Sys2Proof Sys2Proof.Machine Sys2Proof.Laws

/-! ### Sets of contexts -/

theorem has_lt {a : CtxSet} {j : Nat} (h : CtxSet.has a j = true) : j < 256 := BitVec.lt_of_getLsbD h

theorem has_zero (j : Nat) : CtxSet.has 0 j = false := BitVec.getLsbD_zero

theorem has_bit (i j : Nat) : CtxSet.has (BitVec.ofNat 256 (2 ^ i)) j = (decide (j < 256) && decide (j = i)) := by
  unfold CtxSet.has
  rw [BitVec.getLsbD_ofNat, Nat.testBit_two_pow]
  simp only [eq_comm]

theorem has_add (a : CtxSet) {i : Nat} (hi : i < 256) (j : Nat) :
    CtxSet.has (CtxSet.add a i) j = (CtxSet.has a j || decide (j = i)) := by
  have hor : CtxSet.has (CtxSet.add a i) j = (CtxSet.has a j || CtxSet.has (BitVec.ofNat 256 (2 ^ i)) j) :=
    BitVec.getLsbD_or
  rw [hor, has_bit]
  by_cases hj : j = i
  · simp [hj, hi]
  · simp [hj]

theorem has_minus (a b : CtxSet) (j : Nat) : CtxSet.has (CtxSet.minus a b) j = (CtxSet.has a j && !CtxSet.has b j) := by
  unfold CtxSet.has CtxSet.minus
  rw [BitVec.getLsbD_and, BitVec.getLsbD_not]
  by_cases hj : j < 256
  · simp [hj]
  · simp [BitVec.getLsbD_of_ge a j (by omega)]

theorem has_remove (a : CtxSet) (i j : Nat) : CtxSet.has (CtxSet.remove a i) j = (CtxSet.has a j && decide (j ≠ i)) := by
  have hm : CtxSet.has (CtxSet.remove a i) j = (CtxSet.has a j && !CtxSet.has (BitVec.ofNat 256 (2 ^ i)) j) :=
    has_minus a _ j
  rw [hm, has_bit]
  cases ha : CtxSet.has a j with
  | false => rfl
  | true => simp [has_lt ha]

theorem eq_of_has {a b : CtxSet} (h : ∀ j, CtxSet.has a j = CtxSet.has b j) : a = b :=
  BitVec.eq_of_getLsbD_eq fun j _ => h j

theorem minus_eq_zero_iff (a b : CtxSet) :
    CtxSet.minus a b = 0 ↔ ∀ c, CtxSet.has a c = true → CtxSet.has b c = true := by
  constructor
  · intro h c ha
    have hc : CtxSet.has (CtxSet.minus a b) c = false := by rw [h, has_zero]
    rw [has_minus, ha] at hc
    simpa using hc
  · intro h
    refine eq_of_has fun j => ?_
    rw [has_minus, has_zero]
    cases ha : CtxSet.has a j with
    | false => rfl
    | true => simp [h j ha]

theorem minus_zero (a : CtxSet) : CtxSet.minus a 0 = a :=
  eq_of_has fun j => by rw [has_minus, has_zero]; simp

theorem has_below (p : Nat → Bool) {n : Nat} (hn : n ≤ 256) (k : Nat) :
    CtxSet.has (CtxSet.below p n) k = true ↔ k < n ∧ p k = true := by
  induction n with
  | zero =>
    have hz : CtxSet.has (CtxSet.below p 0) k = false := has_zero k
    simp [hz]
  | succ n ih =>
    have ih := ih (by omega)
    unfold CtxSet.below
    split
    · next hp =>
      rw [has_add _ (by omega), Bool.or_eq_true, ih, decide_eq_true_eq]
      constructor
      · rintro (⟨hk, hpk⟩ | rfl)
        · exact ⟨by omega, hpk⟩
        · exact ⟨by omega, hp⟩
      · rintro ⟨hk, hpk⟩
        rcases Nat.lt_succ_iff_lt_or_eq.1 hk with hk | hk
        · exact .inl ⟨hk, hpk⟩
        · exact .inr hk
    · next hp =>
      rw [ih]
      constructor
      · rintro ⟨hk, hpk⟩; exact ⟨by omega, hpk⟩
      · rintro ⟨hk, hpk⟩
        have hne : k ≠ n := fun h => hp (h ▸ hpk)
        exact ⟨by omega, hpk⟩

theorem has_of (p : Nat → Bool) (k : Nat) : CtxSet.has (CtxSet.of p) k = true ↔ k < 256 ∧ p k = true :=
  has_below p le_rfl k

/-! ### Periods (R14 to R16) -/

theorem compatible_iff (R Rs : Nat) : compatible R Rs = true ↔ Rs ≠ 0 ∧ (Rs % R = 0 ∨ R % Rs = 0) := by
  unfold compatible
  simp only [Bool.and_eq_true, Bool.or_eq_true, decide_eq_true_eq]

theorem period_one {R Rs : Nat} (hf : compatible R Rs = true) (h : R ≤ Rs) : period R Rs = some 1 := by
  unfold period; rw [if_pos hf, if_pos h]

theorem period_quotient {R Rs : Nat} (hf : compatible R Rs = true) (h : Rs < R) : period R Rs = some (R / Rs) := by
  unfold period; rw [if_pos hf, if_neg (by omega)]

theorem period_none {R Rs : Nat} (hf : ¬compatible R Rs = true) : period R Rs = none := by
  unfold period; rw [if_neg hf]

theorem expectedIn_iff (R Rs g : Nat) : expectedIn R Rs g = true ↔ ∃ p, period R Rs = some p ∧ g % p = 0 := by
  unfold expectedIn
  split
  · next h => simp [h]
  · next p h => simp [h]

theorem awaitable_iff (s : State) (k : Nat) :
    s.awaitable k = true ↔ (s.ctx k).enabled = true ∧ s.params.cAwait ≤ (s.ctx k).confidence := by
  unfold State.awaitable
  rw [Bool.and_eq_true, decide_eq_true_eq]

theorem awaitedFor_iff (s : State) (g k : Nat) :
    CtxSet.has (s.awaitedFor g) k = true ↔
      k < 256 ∧ (s.ctx k).enabled = true ∧ s.params.cAwait ≤ (s.ctx k).confidence
        ∧ ∃ p, period s.params.rate (s.ctx k).desc.rate = some p ∧ g % p = 0 := by
  unfold State.awaitedFor State.expected
  rw [has_of, Bool.and_eq_true, awaitable_iff, expectedIn_iff, and_assoc]

/-! ### Reading the ring (R84, R85) -/

/-- A slot of the position written reads the record where it is the record's own slot, and is FREE else. -/
theorem slot_setSlot {s : State} {g : Nat} {x : Slot} (hw : Tbl.wf Slot.empty s.store.ring = true) (hg : x.g = g)
    (hf : x.state ≠ .free) (j : Nat) :
    (s.setSlot g x).slot j = if j = g then x else if j % 64 = g % 64 then Slot.empty else s.slot j := by
  split
  · next hj => rw [hj, slot_setSlot_self hw hf hg]
  · next hj =>
    split
    · next hpos =>
      unfold State.slot State.setSlot
      dsimp only
      rw [get_set hw, if_pos hpos.symm, if_neg (fun h => hj (h.2.symm.trans hg))]
    · next hpos => exact slot_setSlot_ne hw hpos

/-- Settles O23: the record written is read back, and its awaited set is all that completion turns on. -/
theorem slotOpening : Obligations.SlotOpening := by
  refine ⟨fun R Rs => ⟨fun hf => period_one ((compatible_iff R Rs).2 hf), fun hf => period_quotient ((compatible_iff R Rs).2 hf),
    fun hf => period_none (mt (compatible_iff R Rs).1 hf)⟩, fun s k g => expectedIn_iff _ _ g, fun s g hs => ?_⟩
  intro r v
  obtain ⟨-, -, -, hring, -⟩ := hs
  have hv : v.slot g =
      { g := g, state := .opened, deadline := s.instant g + r.1 * 100000, awaited := s.awaitedFor g } :=
    slot_setSlot_self (s := { s with window := r.2 }) hring (fun h => by cases h) rfl
  have hopen : s.openSlot g = v.evaluate g := rfl
  have hopened : (v.slot g).state = .opened := by rw [hv]
  have hmissing : (v.slot g).missing = s.awaitedFor g := by rw [hv]; exact minus_zero _
  refine ⟨fun x j hg hf => slot_setSlot hring hg hf j, awaitedFor_iff s g, fun hstay => ?_, fun hzero hdue => ?_⟩
  · exact hopen.trans (evaluate_stays (.inr (hstay.imp (fun h hm => h (hmissing.symm.trans hm)) id)))
  · exact hopen.trans (evaluate_open hopened (hmissing.trans hzero) hdue)

end Sys2Proof.Proofs.Opening
end

/-! ## The admission of a report (O19) -/

section
namespace Sys2Proof.Proofs.Admission
open Sys2Proof Sys2Proof.Machine Sys2Proof.Laws

/-! ### Fields of a frame -/

theorem beNat_cons (b : Byte) (l : List Byte) : beNat (b :: l) = b.toNat * 256 ^ l.length + beNat l := by
  have hacc : ∀ (l : List Byte) (x : Nat),
      l.foldl (fun n (y : Byte) => n * 256 + y.toNat) x = x * 256 ^ l.length + beNat l := fun l => by
    induction l with
    | nil => intro x; simp [beNat]
    | cons c l ih =>
      intro x
      unfold beNat
      rw [List.foldl_cons, List.foldl_cons, ih, ih, List.length_cons, Nat.pow_succ]
      ring
  calc beNat (b :: l) = l.foldl (fun n (y : Byte) => n * 256 + y.toNat) (0 * 256 + b.toNat) := rfl
    _ = b.toNat * 256 ^ l.length + beNat l := by rw [hacc, Nat.zero_mul, Nat.zero_add]

theorem beNat_lt (l : List Byte) : beNat l < 256 ^ l.length := by
  induction l with
  | nil => decide
  | cons b l ih =>
    have hb : b.toNat < 256 := b.isLt
    have hstep : b.toNat * 256 ^ l.length + 256 ^ l.length ≤ 256 * 256 ^ l.length := by
      rw [← Nat.succ_mul]; exact Nat.mul_le_mul_right _ hb
    rw [beNat_cons, List.length_cons, Nat.pow_succ, Nat.mul_comm _ 256]
    omega

theorem field_lt (bs : List Byte) (off k : Nat) : field bs off k < 256 ^ k :=
  calc field bs off k < 256 ^ ((bs.drop off).take k).length := beNat_lt _
    _ ≤ 256 ^ k := Nat.pow_le_pow_right (by decide) (List.length_take_le _ _)

theorem field_zero (bs : List Byte) (off : Nat) : field bs off 0 = 0 := rfl

/-- A field's first byte is its most significant. -/
theorem field_succ {bs : List Byte} {off k : Nat} (h : off + (k + 1) ≤ bs.length) :
    field bs off (k + 1) = (byteAt bs off).toNat * 256 ^ k + field bs (off + 1) k := by
  have hoff : off < bs.length := by omega
  have hb : byteAt bs off = bs[off] := by
    unfold byteAt
    rw [List.getD_eq_getElem?_getD, List.getElem?_eq_getElem hoff]
    rfl
  have hlen : ((bs.drop (off + 1)).take k).length = k := by
    rw [List.length_take, List.length_drop]; omega
  unfold field
  rw [List.drop_eq_getElem_cons hoff, List.take_succ_cons, beNat_cons, hlen, hb]

theorem field_two {bs : List Byte} {off : Nat} (h : off + 2 ≤ bs.length) :
    field bs off 2 = 256 * (byteAt bs off).toNat + (byteAt bs (off + 1)).toNat := by
  rw [field_succ h, field_succ (by omega), field_zero]
  ring

theorem field_four {bs : List Byte} {off : Nat} (h : off + 4 ≤ bs.length) :
    field bs off 4 = 65536 * field bs off 2 + field bs (off + 2) 2 := by
  rw [field_succ h, field_succ (by omega), field_two (off := off) (by omega)]
  ring

/-- A signed field is in two's complement. -/
theorem signedField_eq (bs : List Byte) (off : Nat) {k : Nat} (hk : 1 ≤ k) :
    signedField bs off k =
      if 2 * field bs off k < 256 ^ k then (field bs off k : Int) else (field bs off k : Int) - 256 ^ k := by
  have hnat : (256 : Nat) ^ k = 2 * 2 ^ (8 * k - 1) := by
    rw [← Nat.pow_succ', show (8 * k - 1).succ = 8 * k by omega, Nat.pow_mul]
  have hint : (256 : Int) ^ k = 2 ^ (8 * k) := by
    rw [pow_mul]; norm_num
  have hhalf : field bs off k < 2 ^ (8 * k - 1) ↔ 2 * field bs off k < 256 ^ k := by
    rw [hnat]; omega
  unfold signedField signed
  rw [hint]
  exact if_congr hhalf rfl rfl

/-! ### The layout of a report (R62, 11.2) -/

/-- The format a report's byte 7 names. -/
def frameFormat (bs : List Byte) : Format := if (byteAt bs 7).getLsbD 0 then .rect32 else .rect16

/-- The report that a frame's bytes spell, its layout unchecked. -/
def reportOf (bs : List Byte) : Report :=
  { streamId := BitVec.ofNat 16 (field bs 4 2)
    format := frameFormat bs
    channels := (byteAt bs 6).toNat
    hasFreq := (byteAt bs 7).getLsbD 1
    quality := (byteAt bs 7).toNat / 16
    seconds := field bs 8 4
    ticks := field bs 12 4
    flags := BitVec.ofNat 16 (field bs 16 2)
    pairs := reportPairs bs (frameFormat bs) (byteAt bs 6).toNat
    freq := if (byteAt bs 7).getLsbD 1 then some (signedField bs (bs.length - 8) 4, signedField bs (bs.length - 4) 4)
      else none }

/-- A frame that passes the layout check of R62 is the report its bytes spell. -/
theorem parseReport_eq (bs : List Byte) : parseReport bs =
    if (byteAt bs 6).toNat ≤ 16
        ∧ bs.length = reportLength (frameFormat bs) (byteAt bs 6).toNat ((byteAt bs 7).getLsbD 1) then
      some (reportOf bs)
    else none := rfl

theorem parseReport_none_iff (bs : List Byte) : parseReport bs = none ↔
    16 < (byteAt bs 6).toNat ∨ bs.length ≠
      reportLength (frameFormat bs) (byteAt bs 6).toNat ((byteAt bs 7).getLsbD 1) := by
  rw [parseReport_eq]
  split
  · exact ⟨nofun, fun hn => by omega⟩
  · exact ⟨fun _ => by omega, fun _ => rfl⟩

theorem eq_reportOf {bs : List Byte} {r : Report} (h : parseReport bs = some r) : r = reportOf bs := by
  rw [parseReport_eq] at h
  split at h
  · exact (Option.some.inj h).symm
  · cases h

theorem reportLength_eq (bs : List Byte) (channels : Nat) (hasFreq : Bool) :
    reportLength (frameFormat bs) channels hasFreq =
      18 + channels * (if (byteAt bs 7).getLsbD 0 = true then 8 else 4) + (if hasFreq = true then 8 else 0) := by
  unfold reportLength frameFormat
  cases (byteAt bs 7).getLsbD 0 <;> rfl

/-- A report parsed carries the fields of its frame at their offsets. -/
theorem readFrom_of_parse {bs : List Byte} {r : Report} (h : parseReport bs = some r) : r.readFrom bs := by
  have hhalf : ∀ off, (BitVec.ofNat 16 (field bs off 2)).toNat = field bs off 2 := fun off => by
    rw [BitVec.toNat_ofNat]
    exact Nat.mod_eq_of_lt (field_lt bs off 2)
  have hformat : frameFormat bs = .rect32 ↔ (byteAt bs 7).getLsbD 0 = true := by
    unfold frameFormat
    cases (byteAt bs 7).getLsbD 0 <;> simp
  have hw : (if frameFormat bs = .rect16 then 2 else 4) = partBytes (frameFormat bs) := by
    cases frameFormat bs <;> rfl
  have hpair : ∀ i, i < (byteAt bs 6).toNat → (reportOf bs).pairs[i]? =
      some (signedField bs (18 + i * (2 * partBytes (frameFormat bs))) (partBytes (frameFormat bs)),
        signedField bs (18 + i * (2 * partBytes (frameFormat bs)) + partBytes (frameFormat bs))
          (partBytes (frameFormat bs))) := fun i hi => by
    simp [reportOf, reportPairs, hi]
  rw [eq_reportOf h]
  refine ⟨hhalf 4, rfl, hformat, rfl, rfl, rfl, rfl, hhalf 16, by simp [reportOf, reportPairs], ?_, fun hf => if_neg ?_,
    fun hf => if_pos hf⟩
  · change ∀ i, i < (byteAt bs 6).toNat → _
    rw [show (if (reportOf bs).format = .rect16 then 2 else 4) = _ from hw]
    exact hpair
  · exact Bool.eq_false_iff.1 hf

/-! ### The frame taken (R57 to R59) -/

theorem otherLink_of_ne {l p : Link} (h : l ≠ p) : otherLink p = l := by
  cases p with
  | a => cases l with
    | a => exact absurd rfl h
    | b => rfl
  | b => cases l with
    | a => rfl
    | b => exact absurd rfl h

/-- The idle unit's next take leads to its work on the frame taken. -/
theorem takeFrame_takesNext {s : State} {l : Link} {f : InFrame} {rest : List InFrame} (h : s.takesNext l f rest) :
    s.takeFrame = (s.taken l rest).workOn f := by
  obtain ⟨hidle, hfifo, hlink⟩ := h
  have hfrom : s.takesFrom = some l := by
    unfold State.takesFrom
    by_cases hp : l = s.intake.preferred
    · rw [← hp, hfifo, if_pos (List.cons_ne_nil _ _)]
    · rw [if_neg (not_not.2 (hlink.resolve_left hp)), otherLink_of_ne hp, hfifo, if_pos (List.cons_ne_nil _ _)]
  unfold State.takeFrame
  rw [hidle, hfrom]
  dsimp only
  rw [hfifo]
  rfl

/-- Taking a frame changes the intake alone. -/
theorem taken_only (s : State) (l : Link) (rest : List InFrame) : ∃ i, s.taken l rest = { s with intake := i } := by
  unfold State.taken
  rw [setLinkIn_only]
  exact ⟨_, rfl⟩

theorem workOn_report {u : State} {f : InFrame} (hh : headerOk f.bytes = true) (hk : byteAt f.bytes 1 = 0x11) :
    u.workOn f = u.admitReport f.bytes := by
  unfold State.workOn classify
  rw [if_neg (by simp [hh]), if_pos hk]

theorem exec_frameTake {s : State} {l : Link} {f : InFrame} {rest : List InFrame} (h : s.takesNext l f rest)
    (hh : headerOk f.bytes = true) (hk : byteAt f.bytes 1 = 0x11) :
    exec .frameTake s = .next ((s.taken l rest).admitReport f.bytes) := by
  change Host.Outcome.next s.takeFrame = _
  rw [takeFrame_takesNext h, workOn_report hh hk]

/-! ### The checks of an admission, in order (R61 to R65) -/

/-- The steps of admission after a tag's reduction (R65). -/
def afterReduction (u : State) (r : Report) (k : Nat) : Reduction → State
  | .tagInvalid => u.discard k .tagInvalid
  | .offGrid => u.discard k .offGrid
  | .kept g residual mark => u.admitKept r k g residual mark

section
variable {u : State} {r : Report} {k : Nat}

theorem admitReport_known {bs : List Byte} (hr : parseReport bs = some r) (hk : u.lookup r.streamId = some k) :
    u.admitReport bs = u.admitKnown r k := by
  unfold State.admitReport
  rw [hr]
  dsimp only
  rw [hk]

theorem admitReport_unknown {bs : List Byte} (hr : parseReport bs = some r) (hk : u.lookup r.streamId = none) :
    u.admitReport bs = u.counted .unknownStream := by
  unfold State.admitReport
  rw [hr]
  dsimp only
  rw [hk]
  rfl

theorem admitReport_malformed {bs : List Byte} (hr : parseReport bs = none) :
    u.admitReport bs = u.counted .malformed := by
  unfold State.admitReport
  rw [hr]
  rfl

theorem admitKnown_disabled (he : (u.ctx k).enabled = false) : u.admitKnown r k = u.dropped k .disabled .other := by
  unfold State.admitKnown
  rw [if_pos he]
  rfl

theorem layoutAgrees_iff (r : Report) (d : Descriptor) : layoutAgrees r d = true ↔
    r.format = d.format ∧ r.channels = d.channels ∧ r.hasFreq = d.hasFreq := by
  unfold layoutAgrees
  simp only [Bool.and_eq_true, decide_eq_true_eq, and_assoc]

variable (he : (u.ctx k).enabled = true)
include he

theorem admitKnown_layout (hl : layoutAgrees r (u.ctx k).desc = false) :
    u.admitKnown r k = u.dropped k .layoutMismatch .other := by
  unfold State.admitKnown
  rw [if_neg (by simp [he]), if_pos hl]
  rfl

variable (hl : layoutAgrees r (u.ctx k).desc = true)
include hl

theorem admitKnown_engine (ha : u.admits = false) : u.admitKnown r k = u.engineDiscard k := by
  unfold State.admitKnown
  rw [if_neg (by simp [he]), if_neg (by simp [hl]), if_pos ha]

theorem admitKnown_paused (hm : u.mgmt.engine = .paused) :
    u.admitKnown r k = (u.pended k).dropped k .paused .other := by
  rw [admitKnown_engine he hl (by simp [State.admits, hm])]
  unfold State.engineDiscard
  rw [hm]
  rfl

theorem admitKnown_waitTime (hm : u.mgmt.engine = .waitTime) : u.admitKnown r k = u.dropped k .noTime .other := by
  rw [admitKnown_engine he hl (by simp [State.admits, hm])]
  unfold State.engineDiscard
  rw [hm]
  rfl

theorem admitKnown_resetting (hm : u.mgmt.engine = .resetting) : u.admitKnown r k = u.dropped k .resetting .other := by
  rw [admitKnown_engine he hl (by simp [State.admits, hm])]
  unfold State.engineDiscard
  rw [hm]
  rfl

variable (hm : u.mgmt.engine = .running ∨ u.mgmt.engine = .draining)
include hm

/-- In RUNNING and DRAINING what is left turns on the tag's reduction (R5). -/
theorem admitKnown_reduced :
    u.admitKnown r k = afterReduction u r k (reduceTag u.params.rate (u.ctx k).desc r.seconds r.ticks) := by
  have ha : u.admits = true := by
    unfold State.admits
    rcases hm with h | h <;> simp [h]
  unfold State.admitKnown
  rw [if_neg (by simp [he]), if_neg (by simp [hl]), if_neg (by simp [ha])]
  rfl

theorem admitKnown_tagInvalid (ht : (u.ctx k).desc.timeBase ≤ r.ticks) :
    u.admitKnown r k = u.dropped k .tagInvalid .other := by
  have hred : reduceTag u.params.rate (u.ctx k).desc r.seconds r.ticks = .tagInvalid := if_pos ht
  rw [admitKnown_reduced he hl hm, hred]
  rfl

theorem admitKnown_offGrid (ht : r.ticks < (u.ctx k).desc.timeBase)
    (hg : ¬(residualNs u.params.rate (u.ctx k).desc.timeBase r.ticks).natAbs ≤ 1000 * (u.ctx k).desc.tolerance)
    (hp : (u.ctx k).desc.policy = .discard) : u.admitKnown r k = u.dropped k .offGrid .offGrid := by
  have hred : reduceTag u.params.rate (u.ctx k).desc r.seconds r.ticks = .offGrid := by
    unfold reduceTag
    dsimp only
    rw [if_neg (by omega), if_neg hg, hp]
  rw [admitKnown_reduced he hl hm, hred]
  rfl

/-- A tag that is valid and on grid, or snapped to it, is kept, and marked where it was snapped (R11, R12). -/
theorem admitKnown_kept (ht : r.ticks < (u.ctx k).desc.timeBase)
    (hg : (residualNs u.params.rate (u.ctx k).desc.timeBase r.ticks).natAbs ≤ 1000 * (u.ctx k).desc.tolerance
      ∨ (u.ctx k).desc.policy = .snap) :
    u.admitKnown r k = u.admitKept r k (tagSlot u.params.rate (u.ctx k).desc.timeBase r.seconds r.ticks)
      (residualNs u.params.rate (u.ctx k).desc.timeBase r.ticks)
      (decide (¬(residualNs u.params.rate (u.ctx k).desc.timeBase r.ticks).natAbs ≤ 1000 * (u.ctx k).desc.tolerance)) := by
  rw [admitKnown_reduced he hl hm]
  refine Eq.trans (b := afterReduction u r k (.kept _ _ _)) (congrArg _ ?_) rfl
  unfold reduceTag
  dsimp only
  rw [if_neg (by omega)]
  by_cases hon : (residualNs u.params.rate (u.ctx k).desc.timeBase r.ticks).natAbs ≤ 1000 * (u.ctx k).desc.tolerance
  · rw [if_pos hon, decide_eq_false (not_not.2 hon)]
  · rw [if_neg hon, hg.resolve_left hon, decide_eq_true hon]

end

/-! ### The cadence, the duplicate check and the request (R46, R65, R66) -/

/-- The context of a kept report after the cadence update (R46), at its distance from the expected next slot. -/
def afterCadence (cSat p g : Nat) (x : Ctx) : Ctx :=
  let distance : Nat := ((g : Int) - ((x.expected.getD g : Nat) : Int)).natAbs
  { x with
    expected := some (g + p)
    confidence :=
      if distance = 0 then (if x.confidence < cSat then x.confidence + 1 else x.confidence)
      else if distance ≤ 4 * p then x.confidence - 1
      else 0 }

/-- The placement request of a report of context k kept for slot g (R66). -/
def requestOf (u : State) (r : Report) (k g : Nat) (residual : Int) (mark : Bool) : Placement :=
  { ctx := k, g := g, residual := residual, offGrid := mark, awaitable := u.awaitable k
    flags := r.flags, quality := r.quality, pairs := r.pairs, freq := r.freq }

theorem cadence_eq (cSat p g : Nat) (x : Ctx) : x.cadence cSat p g = afterCadence cSat p g x := by
  unfold Ctx.cadence afterCadence cadenceConfidence
  simp only [Int.natAbs_eq_zero]

section
variable {u : State} {r : Report} {k g p : Nat} {residual : Int} {mark : Bool}
  (hw : Tbl.wf Ctx.zero u.ctxs = true) (hp : period u.params.rate (u.ctx k).desc.rate = some p)
include hw hp

theorem admitKept_duplicate (hh : (u.ctx k).highest = some g) :
    u.admitKept r k g residual mark =
      (u.setCtx k (afterCadence u.params.cSat p g (u.ctx k))).dropped k .duplicate .duplicate := by
  unfold State.admitKept State.cadencePeriod
  rw [hp, cadence_eq]
  dsimp only [Option.getD_some]
  rw [ctx_setCtx hw, if_pos rfl, if_pos (show (afterCadence _ _ _ _).highest = _ from hh)]
  rfl

theorem admitKept_request (hh : (u.ctx k).highest ≠ some g) :
    u.admitKept r k g residual mark =
      let v := u.setCtx k (afterCadence u.params.cSat p g (u.ctx k))
      { v with intake := { v.intake with busy := some (requestOf u r k g residual mark) } } := by
  unfold State.admitKept State.cadencePeriod
  rw [hp, cadence_eq]
  dsimp only [Option.getD_some]
  rw [ctx_setCtx hw, if_pos rfl, if_neg (show ¬(afterCadence _ _ _ _).highest = _ from hh)]
  rfl

end

/-- Settles O19: the frame taken comes to its admission, whose checks are taken one by one. -/
theorem reportAdmission : Obligations.ReportAdmission := by
  refine ⟨fun bs off => ⟨field_two, field_four, fun k hk => ⟨field_lt bs off k, signedField_eq bs off hk⟩⟩,
    fun s l f rest hnext hh hkind => ?_⟩
  have hexec := exec_frameTake hnext hh hkind
  obtain ⟨i, hu⟩ := taken_only s l rest
  rw [hu] at hexec ⊢
  intro u
  have take : ∀ {t}, u.admitReport f.bytes = t → exec .frameTake s = .next t := fun ht => ht ▸ hexec
  refine ⟨?_, fun hr => take (admitReport_malformed hr), fun r hr => ⟨readFrom_of_parse hr,
    fun hk => take (admitReport_unknown hr hk), fun k hk => ?_⟩⟩
  · rw [parseReport_none_iff, reportLength_eq]
  intro x agrees
  have known : ∀ {t}, u.admitKnown r k = t → exec .frameTake s = .next t := fun ht =>
    take ((admitReport_known (u := u) hr hk).trans ht)
  refine ⟨fun he => known (admitKnown_disabled he), fun he hl => ?_, fun he hl => ?_⟩
  · exact known (admitKnown_layout he (Bool.eq_false_iff.2 fun h => hl ((layoutAgrees_iff r x.desc).1 h)))
  have hl : layoutAgrees r (u.ctx k).desc = true := (layoutAgrees_iff r x.desc).2 hl
  refine ⟨fun hm => known (admitKnown_paused he hl hm), fun hm => known (admitKnown_waitTime he hl hm),
    fun hm => known (admitKnown_resetting he hl hm), fun hm => ?_⟩
  intro onGrid
  refine ⟨fun ht => known (admitKnown_tagInvalid he hl hm ht),
    fun ht hg hp => known (admitKnown_offGrid he hl hm ht hg hp), fun p ht hg hp => ?_⟩
  intro g distance v
  have hkept := admitKnown_kept (u := u) he hl hm ht hg
  refine ⟨fun hs hdup => ?_, fun hs hdup => ⟨decide ¬onGrid, decide_eq_true_iff, ?_⟩⟩
  · exact known (hkept.trans (admitKept_duplicate (u := u) hs.2.1 hp hdup))
  · have hawait : u.awaitable k = decide (s.params.cAwait ≤ x.confidence) := by
      change (x.enabled && decide (s.params.cAwait ≤ x.confidence)) = _
      rw [he, Bool.true_and]
    have hreq := hkept.trans (admitKept_request (u := u) hs.2.1 hp hdup)
    unfold requestOf at hreq
    rw [hawait] at hreq
    exact known hreq

end Sys2Proof.Proofs.Admission
end

/-! ## SET_STREAM_STATE (O45) -/

section
namespace Sys2Proof.Proofs.StreamState
open Sys2Proof Sys2Proof.Machine Sys2Proof.Laws Sys2Proof.Proofs.Opening

/-! ### The tests of R43 and R44 -/

section
variable {s : State} {k : Nat}

theorem enableWork_badIndex (h : 255 < k) : s.enableWork k = (s, reply .badIndex) := if_pos h

theorem disableWork_badIndex (h : 255 < k) : s.disableWork k = (s, reply .badIndex) := if_pos h

theorem enableWork_notBound (h : k ≤ 255) (hb : (s.ctx k).binding = none) : s.enableWork k = (s, reply .notBound) := by
  unfold State.enableWork
  rw [if_neg (by omega), if_pos (by rw [hb]; rfl)]

theorem enableWork_bound (h : k ≤ 255) (hb : (s.ctx k).binding ≠ none) :
    s.enableWork k =
      if compatible s.params.rate (s.ctx k).desc.rate = false then (s, reply .rateMismatch)
      else if (s.ctx k).enabled then (s, reply .done)
      else (s.setCtx k { s.ctx k with enabled := true, confidence := 0, expected := none, highest := none },
        reply .done) := by
  unfold State.enableWork
  rw [if_neg (by omega), if_neg (mt Option.isNone_iff_eq_none.1 hb)]

theorem disableWork_off (h : k ≤ 255) (he : (s.ctx k).enabled = false) : s.disableWork k = (s, reply .done) := by
  unfold State.disableWork
  rw [if_neg (by omega), if_pos he]

theorem disableWork_on (h : k ≤ 255) (he : (s.ctx k).enabled = true) :
    s.disableWork k = ((s.setCtx k { s.ctx k with enabled := false }).clearAwaited k, reply .done) := by
  unfold State.disableWork
  rw [if_neg (by omega), if_neg (by simp [he])]

end

/-- STREAM_ENABLE and STREAM_DISABLE complete as their work does, in the state of an executing unit. -/
theorem completes_state {s u : State} {r : Request} {cls : Nat} {k : Half} {x : Reply} (hcan : s.canRun r cls)
    (hp : (s.access 2).permits cls = true) :
    ((s.setExec .executing).enableWork k.toNat = (u.setExec .executing, x) →
      Completes s (.streamEnable r k) r .setStreamState u x)
    ∧ ((s.setExec .executing).disableWork k.toNat = (u.setExec .executing, x) →
      Completes s (.streamDisable r k) r .setStreamState u x) := by
  obtain ⟨hm, he⟩ := hcan
  refine ⟨fun h => ⟨_, rfl, ?_⟩, fun h => ⟨_, rfl, ?_⟩⟩
  · refine own_carried (d := directive r .setStreamState 1 k.toNat 0 0 []) rfl rfl rfl rfl rfl rfl hm (.inl he) hp
      (fun h => by cases h) ?_
    have hwork : (s.setExec .executing).ownWork cls .setStreamState (directive r .setStreamState 1 k.toNat 0 0 [])
        = (((s.setExec .executing).enableWork k.toNat).1, some ((s.setExec .executing).enableWork k.toNat).2) := rfl
    rw [hwork, h]
  · refine own_carried (d := directive r .setStreamState 0 k.toNat 0 0 []) rfl rfl rfl rfl rfl rfl hm (.inl he) hp
      (fun h => by cases h) ?_
    have hwork : (s.setExec .executing).ownWork cls .setStreamState (directive r .setStreamState 0 k.toNat 0 0 [])
        = (((s.setExec .executing).disableWork k.toNat).1, some ((s.setExec .executing).disableWork k.toNat).2) := rfl
    rw [hwork, h]

/-! ### The store does not look at the Management Unit's execution -/

theorem leaveOpen_setExec (s : State) (e : Execution) (g : Nat) (c : Cause) :
    (s.setExec e).leaveOpen g c = (s.leaveOpen g c).setExec e := by
  rw [leaveOpen_eq, leaveOpen_eq]
  rfl

theorem offerIfLow_setExec (s : State) (e : Execution) (g : Nat) :
    (s.setExec e).offerIfLow g = (s.offerIfLow g).setExec e := by
  unfold State.offerIfLow
  by_cases hg : g = s.store.hLow
  · rw [if_pos (show g = (s.setExec e).store.hLow from hg), if_pos hg]
    by_cases ho : (s.slot s.store.hLow).state = .complete ∨ (s.slot s.store.hLow).state = .closed
    · rw [offer_some ho, offer_some (s := s.setExec e) ho]
      rfl
    · obtain ⟨h1, h2⟩ := not_or.1 ho
      rw [offer_none h1 h2, offer_none (s := s.setExec e) h1 h2]
  · rw [if_neg (show ¬g = (s.setExec e).store.hLow from hg), if_neg hg]

/-- Slot g is OPEN, misses no awaited context, and its instant has passed, so that it completes (R97). -/
def Whole (s : State) (g : Nat) : Prop :=
  (s.slot g).state = .opened ∧ (s.slot g).missing = 0 ∧ s.instant g ≤ s.tru.now

theorem evaluate_whole {s : State} {g : Nat} (h : Whole s g) : s.evaluate g = (s.leaveOpen g .complete).offerIfLow g :=
  evaluate_open h.1 h.2.1 h.2.2

theorem evaluate_not_whole {s : State} {g : Nat} (h : ¬Whole s g) : s.evaluate g = s := if_neg h

theorem evaluate_setExec (s : State) (e : Execution) (g : Nat) :
    (s.setExec e).evaluate g = (s.evaluate g).setExec e := by
  by_cases h : Whole s g
  · rw [evaluate_whole h, evaluate_whole (s := s.setExec e) h, leaveOpen_setExec, offerIfLow_setExec]
  · rw [evaluate_not_whole h, evaluate_not_whole (s := s.setExec e) h]

theorem foldl_evaluate_setExec (l : List Nat) (s : State) (e : Execution) :
    l.foldl State.evaluate (s.setExec e) = (l.foldl State.evaluate s).setExec e := by
  induction l generalizing s with
  | nil => rfl
  | cons g l ih => rw [List.foldl_cons, List.foldl_cons, evaluate_setExec, ih]

/-- A slot record with context k taken out of its awaited set (R103). -/
def bare (k : Nat) (y : Slot) : Slot := { y with awaited := CtxSet.remove y.awaited k }

/-- The state with context k taken out of every slot's awaited set. -/
def unawait (s : State) (k : Nat) : State :=
  { s with store := { s.store with
    ring := Tbl.update Slot.empty (fun _ x => if x.state = .free then x else bare k x) s.store.ring } }

theorem clearAwaited_eq (s : State) (k : Nat) :
    s.clearAwaited k = (unawait s k).span.foldl State.evaluate (unawait s k) := rfl

theorem clearAwaited_setExec (s : State) (e : Execution) (k : Nat) :
    (s.setExec e).clearAwaited k = (s.clearAwaited k).setExec e := by
  rw [clearAwaited_eq, clearAwaited_eq, ← foldl_evaluate_setExec]
  rfl

/-! ### One completion without a miss -/

/-- A slot's record as it completes, slot H_low as it is offered (R99, R101). -/
def finished (s : State) (g : Nat) : Slot :=
  { s.slot g with
    state := if g = s.store.hLow then .emitting else .complete
    cause := some .complete, sampled := some (s.tru.state, s.tru.quality s.params.drift) }

/-- A record written over a held slot's own is read for that slot, and every other slot stands. -/
theorem slot_setSlot_held {s : State} {g : Nat} {x : Slot} (hw : Tbl.wf Slot.empty s.store.ring = true)
    (hs : (s.slot g).state ≠ .free) (hg : x.g = g) (hf : x.state ≠ .free) (j : Nat) :
    (s.setSlot g x).slot j = if j = g then x else s.slot j := by
  rw [slot_setSlot hw hg hf]
  split
  · rfl
  · next hj =>
    split
    · next hpos =>
      have hrec := slot_record hs
      unfold State.slot
      dsimp only
      rw [hpos, hrec, if_neg (fun h => hj (h.2.symm.trans (slot_g hs)))]
    · rfl

theorem record_setSlot {s : State} (hw : Tbl.wf Slot.empty s.store.ring = true) (g : Nat) (x : Slot) (i : Nat) :
    Tbl.get Slot.empty (s.setSlot g x).store.ring i = if g % 64 = i then x else Tbl.get Slot.empty s.store.ring i :=
  get_set hw _ _ i

/-- What the completion of slot g does to the parts of the state that completions touch. -/
structure Completed (s t : State) (g : Nat) : Prop where
  wfRing : Tbl.wf Slot.empty t.store.ring = true
  wfCtxs : Tbl.wf Ctx.zero t.ctxs = true
  ctx : ∀ j, t.ctx j = s.ctx j
  slot : ∀ j, t.slot j = if j = g then finished s g else s.slot j
  awaited : ∀ i, (Tbl.get Slot.empty t.store.ring i).awaited = (Tbl.get Slot.empty s.store.ring i).awaited
  working : t.composer.working = if g = s.store.hLow then some { g := g, next := 0 } else s.composer.working
  window : t.window = Window.closingNotice s.params s.store.freeList.length s.window
  store : t.store = { s.store with
    ring := t.store.ring
    closeCounts := { s.store.closeCounts with complete := satInc s.store.closeCounts.complete } }

/-- A slot that misses no context completes without a miss (R97, R99). -/
theorem leaveOpen_complete {s : State} {g : Nat} (hw : Tbl.wf Slot.empty s.store.ring = true)
    (hc : Tbl.wf Ctx.zero s.ctxs = true) (hs : (s.slot g).state ≠ .free) (hm : (s.slot g).missing = 0) :
    (∀ j, (s.leaveOpen g .complete).ctx j = s.ctx j)
      ∧ (∀ j, (s.leaveOpen g .complete).slot j =
          if j = g then (s.slot g).leave .complete (s.tru.state, s.tru.quality s.params.drift) else s.slot j)
      ∧ ∀ i, (Tbl.get Slot.empty (s.leaveOpen g .complete).store.ring i).awaited
          = (Tbl.get Slot.empty s.store.ring i).awaited := by
  have hring : (s.leaveOpen g .complete).store.ring =
      (s.setSlot g ((s.slot g).leave .complete (s.tru.state, s.tru.quality s.params.drift))).store.ring := by
    rw [leaveOpen_eq]; rfl
  refine ⟨fun j => ?_, fun j => ?_, fun i => ?_⟩
  · have hctxs : (s.leaveOpen g .complete).ctx j = (s.chargeMisses (s.slot g).missing).ctx j := by
      rw [leaveOpen_eq]; rfl
    rw [hctxs, ctx_chargeMisses hc, hm, has_zero, if_neg (by decide)]
  · rw [slot_congr hring, slot_setSlot_held hw hs (by rw [leave_g]; exact slot_g hs) (leave_ne_free _ _ _)]
  · rw [hring, record_setSlot hw]
    split
    · next hi => rw [← hi, slot_record hs]; rfl
    · rfl

theorem completed_evaluate {s : State} {g : Nat} (hw : Tbl.wf Slot.empty s.store.ring = true)
    (hc : Tbl.wf Ctx.zero s.ctxs = true) (h : Whole s g) : Completed s (s.evaluate g) g := by
  have hs : (s.slot g).state ≠ .free := by rw [h.1]; decide
  obtain ⟨hctx, hslot, hawaited⟩ := leaveOpen_complete hw hc hs h.2.1
  have hwv : Tbl.wf Slot.empty (s.leaveOpen g .complete).store.ring = true := leaveOpen_wf hw
  have hcv : Tbl.wf Ctx.zero (s.leaveOpen g .complete).ctxs = true := by
    rw [leaveOpen_eq]; exact wf_update _ hc
  have hstore : (s.leaveOpen g .complete).store = { s.store with
      ring := (s.leaveOpen g .complete).store.ring
      closeCounts := { s.store.closeCounts with complete := satInc s.store.closeCounts.complete } } := by
    rw [leaveOpen_eq]; rfl
  have hwindow : (s.leaveOpen g .complete).window = Window.closingNotice s.params s.store.freeList.length s.window := by
    rw [leaveOpen_eq]; rfl
  have hworking : (s.leaveOpen g .complete).composer.working = s.composer.working := by rw [leaveOpen_eq]
  have hlow : (s.leaveOpen g .complete).store.hLow = s.store.hLow := by rw [hstore]
  rw [evaluate_whole h]
  generalize s.leaveOpen g .complete = v at *
  by_cases hg : g = s.store.hLow
  · have hv : v.slot v.store.hLow = (s.slot g).leave .complete (s.tru.state, s.tru.quality s.params.drift) := by
      rw [hslot, if_pos (hlow.trans hg.symm)]
    have hvs : (v.slot v.store.hLow).state = .complete := by rw [hv]; rfl
    have hoff : v.offerIfLow g = v.offer := if_pos (hg.trans hlow.symm)
    rw [hoff, offer_some (.inl hvs)]
    have hheld : (v.slot v.store.hLow).state ≠ .free := by rw [hvs]; decide
    refine ⟨wf_set hwv _ _, hcv, hctx, fun j => ?_, fun i => ?_, ?_, hwindow, ?_⟩
    · have hread := slot_setSlot_held (x := { v.slot v.store.hLow with state := .emitting }) hwv hheld (slot_g hheld)
        nofun j
      refine Eq.trans (b := if j = v.store.hLow then _ else v.slot j) hread ?_
      rw [hv, hslot, hlow, ← hg]
      by_cases hj : j = g
      · rw [if_pos hj, if_pos hj]
        unfold finished
        rw [if_pos hg]
        rfl
      · rw [if_neg hj, if_neg hj, if_neg hj]
    · refine Eq.trans ?_ (hawaited i)
      have hrec := record_setSlot hwv v.store.hLow { v.slot v.store.hLow with state := .emitting } i
      refine (congrArg Slot.awaited hrec).trans ?_
      split
      · next hi => rw [← hi, slot_record hheld]
      · rfl
    · rw [if_pos hg, hg, hlow]
    · dsimp only
      rw [hstore]
  · have hoff : v.offerIfLow g = v := if_neg (fun hh => hg (hh.trans hlow))
    rw [hoff]
    refine ⟨hwv, hcv, hctx, fun j => ?_, hawaited, ?_, hwindow, hstore⟩
    · rw [hslot]
      split
      · unfold finished
        rw [if_neg hg]
        rfl
      · rfl
    · rw [if_neg hg, hworking]

/-! ### The completions of a disable, in ascending G (R103) -/

/-- Whether slot g completes, as a test. -/
def wholeTest (s : State) (g : Nat) : Bool :=
  decide ((s.slot g).state = .opened ∧ (s.slot g).missing = 0 ∧ s.instant g ≤ s.tru.now)

theorem wholeTest_iff (s : State) (g : Nat) : wholeTest s g = true ↔ Whole s g := decide_eq_true_iff

/-- t is s with the slots of a list that are whole completed, and nothing else changed that completions touch. -/
structure Evaluated (s t : State) (l : List Nat) : Prop where
  only : StoreOnly s t
  wfRing : Tbl.wf Slot.empty t.store.ring = true
  wfCtxs : Tbl.wf Ctx.zero t.ctxs = true
  ctx : ∀ j, t.ctx j = s.ctx j
  whole : ∀ j, j ∈ l → Whole s j → t.slot j = finished s j
  stands : ∀ j, ¬(j ∈ l ∧ Whole s j) → t.slot j = s.slot j
  awaited : ∀ i, (Tbl.get Slot.empty t.store.ring i).awaited = (Tbl.get Slot.empty s.store.ring i).awaited
  offered : s.store.hLow ∈ l → Whole s s.store.hLow → t.composer.working = some { g := s.store.hLow, next := 0 }
  unoffered : ¬(s.store.hLow ∈ l ∧ Whole s s.store.hLow) → t.composer.working = s.composer.working
  window : t.window =
    (Window.closingNotice s.params s.store.freeList.length)^[(l.filter (wholeTest s)).length] s.window
  store : t.store = { s.store with
    ring := t.store.ring
    closeCounts := { s.store.closeCounts with
      complete := satInc^[(l.filter (wholeTest s)).length] s.store.closeCounts.complete } }

theorem evaluated_nil {s : State} (hw : Tbl.wf Slot.empty s.store.ring = true) (hc : Tbl.wf Ctx.zero s.ctxs = true) :
    Evaluated s s [] :=
  ⟨.refl s, hw, hc, fun _ => rfl, nofun, fun _ _ => rfl, fun _ => rfl, nofun, fun _ => rfl, rfl, rfl⟩

/-- The slots beside those completed so far are whole where they were, and complete alike. -/
theorem Evaluated.same {s t : State} {l : List Nat} {g : Nat} (h : Evaluated s t l) (hg : g ∉ l) :
    (Whole t g ↔ Whole s g) ∧ finished t g = finished s g := by
  have hslot : t.slot g = s.slot g := h.stands g fun hh => hg hh.1
  have hlow : t.store.hLow = s.store.hLow := by rw [h.store]
  unfold Whole finished State.instant
  rw [hslot, h.only.params, h.only.tru, hlow]
  exact ⟨Iff.rfl, rfl⟩

theorem evaluated_snoc {s t : State} {l : List Nat} {g : Nat} (h : Evaluated s t l) (hg : g ∉ l) :
    Evaluated s (t.evaluate g) (l ++ [g]) := by
  obtain ⟨hwhole, hfinished⟩ := h.same hg
  have hlow : t.store.hLow = s.store.hLow := by rw [h.store]
  have hfree : t.store.freeList = s.store.freeList := by rw [h.store]
  have hmem : ∀ {j}, j ∈ l ++ [g] ↔ j ∈ l ∨ j = g := fun {j} => by rw [List.mem_append, List.mem_singleton]
  by_cases hw : Whole s g
  · have hc := completed_evaluate h.wfRing h.wfCtxs (hwhole.2 hw)
    have hcount : (l ++ [g]).filter (wholeTest s) = l.filter (wholeTest s) ++ [g] := by
      rw [List.filter_append, List.filter_singleton, (wholeTest_iff s g).2 hw]; rfl
    refine ⟨h.only.trans (evaluate_only t g), hc.wfRing, hc.wfCtxs, fun j => (hc.ctx j).trans (h.ctx j),
      fun j hj hwj => ?_, fun j hj => ?_, fun i => (hc.awaited i).trans (h.awaited i), fun hl hwl => ?_, fun hl => ?_, ?_, ?_⟩
    · rw [hc.slot, hfinished]
      split
      · next hjg => rw [hjg]
      · next hjg => exact h.whole j ((hmem.1 hj).resolve_right hjg) hwj
    · have hjg : j ≠ g := fun hjg => hj ⟨hmem.2 (.inr hjg), hjg ▸ hw⟩
      rw [hc.slot, if_neg hjg]
      exact h.stands j fun hh => hj ⟨hmem.2 (.inl hh.1), hh.2⟩
    · rw [hc.working, hlow]
      split
      · next hgl => rw [hgl]
      · next hgl => exact h.offered ((hmem.1 hl).resolve_right fun hh => hgl hh.symm) hwl
    · have hgl : g ≠ s.store.hLow := fun hgl => hl ⟨hmem.2 (.inr hgl.symm), hgl ▸ hw⟩
      rw [hc.working, hlow, if_neg hgl]
      exact h.unoffered fun hh => hl ⟨hmem.2 (.inl hh.1), hh.2⟩
    · rw [hc.window, hcount, List.length_append, List.length_singleton, Function.iterate_succ_apply', ← h.window,
        h.only.params, hfree]
    · rw [hc.store, hcount, List.length_append, List.length_singleton, Function.iterate_succ_apply', h.store]
  · have hcount : (l ++ [g]).filter (wholeTest s) = l.filter (wholeTest s) := by
      rw [List.filter_append, List.filter_singleton, Bool.eq_false_iff.2 (mt (wholeTest_iff s g).1 hw)]
      exact List.append_nil _
    rw [evaluate_not_whole (mt hwhole.1 hw)]
    have hold : ∀ {j}, j ∈ l ++ [g] → Whole s j → j ∈ l := fun hj hwj =>
      (hmem.1 hj).resolve_right fun hjg => hw (hjg ▸ hwj)
    exact ⟨h.only, h.wfRing, h.wfCtxs, h.ctx, fun j hj hwj => h.whole j (hold hj hwj) hwj,
      fun j hj => h.stands j fun hh => hj ⟨hmem.2 (.inl hh.1), hh.2⟩, h.awaited,
      fun hl hwl => h.offered (hold hl hwl) hwl, fun hl => h.unoffered fun hh => hl ⟨hmem.2 (.inl hh.1), hh.2⟩,
      hcount.symm ▸ h.window, hcount.symm ▸ h.store⟩

theorem evaluated_foldl {s t : State} (l m : List Nat) (h : Evaluated s t l) (hd : (l ++ m).Nodup) :
    Evaluated s (m.foldl State.evaluate t) (l ++ m) := by
  induction m generalizing l t with
  | nil => rw [List.append_nil]; exact h
  | cons g m ih =>
    have hg : g ∉ l := fun hgl => (List.nodup_append.1 hd).2.2 g hgl g List.mem_cons_self rfl
    have happ : l ++ g :: m = (l ++ [g]) ++ m := by rw [List.append_assoc]; rfl
    rw [happ] at hd ⊢
    exact ih (l ++ [g]) (evaluated_snoc h hg) hd

theorem span_nodup (s : State) : s.span.Nodup :=
  List.nodup_range.map fun _ _ h => Nat.add_left_cancel h

/-! ### The context taken out of the awaited sets -/

theorem remove_zero (k : Nat) : CtxSet.remove 0 k = 0 := eq_of_has fun j => by rw [has_remove, has_zero]; rfl

theorem record_unawait {s : State} (hw : Tbl.wf Slot.empty s.store.ring = true) (k i : Nat) :
    Tbl.get Slot.empty (unawait s k).store.ring i =
      if (Tbl.get Slot.empty s.store.ring i).state = .free then Tbl.get Slot.empty s.store.ring i
      else bare k (Tbl.get Slot.empty s.store.ring i) := get_update (fun _ => rfl) hw i

theorem slot_unawait {s : State} (hw : Tbl.wf Slot.empty s.store.ring = true) (k g : Nat) :
    (unawait s k).slot g = bare k (s.slot g) := by
  have hempty : bare k Slot.empty = Slot.empty := by
    unfold bare
    rw [show Slot.empty.awaited = 0 from rfl, remove_zero]
    rfl
  have hrec := record_unawait hw k (g % 64)
  by_cases hh : (Tbl.get Slot.empty s.store.ring (g % 64)).state ≠ .free
      ∧ (Tbl.get Slot.empty s.store.ring (g % 64)).g = g
  · rw [if_neg hh.1] at hrec
    have hs : s.slot g = Tbl.get Slot.empty s.store.ring (g % 64) := if_pos hh
    have hu : (unawait s k).slot g = Tbl.get Slot.empty (unawait s k).store.ring (g % 64) :=
      if_pos (by rw [hrec]; exact hh)
    rw [hu, hrec, hs]
  · have hs : s.slot g = Slot.empty := if_neg hh
    have hu : (unawait s k).slot g = Slot.empty := if_neg (by
      rw [hrec]
      split
      · exact hh
      · exact hh)
    rw [hu, hs, hempty]

/-- In a lawful ring no record of the cleared state awaits the context. -/
theorem unawait_awaited {s : State} (hw : Tbl.wf Slot.empty s.store.ring = true) (hl : s.ringLawful) (k i : Nat) :
    CtxSet.has (Tbl.get Slot.empty (unawait s k).store.ring i).awaited k = false := by
  rw [record_unawait hw]
  split
  · next hf => rw [hl.2.1 i hf]; exact has_zero k
  · unfold bare
    rw [has_remove]
    simp

/-- In a lawful ring every held slot lies in the span from H_low. -/
theorem mem_span {s : State} (hl : s.ringLawful) {g : Nat} (hg : (s.slot g).state ≠ .free) : g ∈ s.span := by
  have hrec := slot_record hg
  obtain ⟨-, hlow, hhigh⟩ := hl.1 (g % 64) (by rw [hrec]; exact hg)
  rw [hrec, slot_g hg] at hlow hhigh
  exact List.mem_map.2 ⟨g - s.store.hLow, List.mem_range.2 (by omega), by omega⟩

theorem storeOnly_eq {s t : State} (h : StoreOnly s t) :
    t = { s with ctxs := t.ctxs, window := t.window, store := t.store
                 composer := { s.composer with working := t.composer.working } } := by
  obtain ⟨h1, h2, h3, h4, h5, h6, h7, h8, h9, h10, h11, h12⟩ := h
  rw [State.mk.injEq]
  exact ⟨h1, h2, h3, rfl, h4, h5, rfl, rfl, h6, h7, h8, h9, h10, h11, h12⟩

/-- What disabling an enabled context does: its awaited bits are cleared, and the slots whole without them complete. -/
theorem evaluated_clearAwaited {s : State} (hw : Tbl.wf Slot.empty s.store.ring = true)
    (hc : Tbl.wf Ctx.zero s.ctxs = true) (k : Nat) : Evaluated (unawait s k) (s.clearAwaited k) (unawait s k).span := by
  rw [clearAwaited_eq]
  exact evaluated_foldl [] _ (evaluated_nil (wf_update _ hw) hc) (span_nodup _)

/-! ### What a disable leaves (R44, R103) -/

section
variable {s : State} {k : Nat} (hw : Tbl.wf Slot.empty s.store.ring = true)
include hw

theorem whole_unawait_iff (g : Nat) : Whole (unawait s k) g ↔
    (bare k (s.slot g)).state = .opened
      ∧ CtxSet.minus (CtxSet.remove (s.slot g).awaited k) (s.slot g).arrived = 0 ∧ s.instant g ≤ s.tru.now := by
  unfold Whole
  rw [slot_unawait hw]
  rfl

theorem finished_unawait (g : Nat) : finished (unawait s k) g =
    { bare k (s.slot g) with
      state := if g = s.store.hLow then .emitting else .complete
      cause := some .complete, sampled := some (s.tru.state, s.tru.quality s.params.drift) } := by
  unfold finished
  rw [slot_unawait hw]
  rfl

/-- The number of slots that complete, counted along the span. -/
theorem completed_length :
    ((unawait s k).span.filter (wholeTest (unawait s k))).length =
      ((List.range 64).filter fun i =>
        decide ((s.slot (s.store.hLow + i)).state = .opened
          ∧ CtxSet.minus (CtxSet.remove (s.slot (s.store.hLow + i)).awaited k) (s.slot (s.store.hLow + i)).arrived = 0
          ∧ s.instant (s.store.hLow + i) ≤ s.tru.now)).length := by
  have hspan : (unawait s k).span = (List.range 64).map fun i => s.store.hLow + i := rfl
  rw [hspan, List.filter_map, List.length_map]
  congr 2
  funext i
  exact decide_eq_decide.2 (whole_unawait_iff hw (s.store.hLow + i))

variable (hc : Tbl.wf Ctx.zero s.ctxs = true) (hl : s.ringLawful)
include hc hl

/-- A slot that is whole without context k completes at the disable. -/
theorem slot_clearAwaited_whole {g : Nat} (h : Whole (unawait s k) g) :
    (s.clearAwaited k).slot g = finished (unawait s k) g := by
  have hheld : (s.slot g).state ≠ .free := by
    have hopen : (s.slot g).state = .opened := ((whole_unawait_iff hw g).1 h).1
    rw [hopen]; decide
  exact (evaluated_clearAwaited hw hc k).whole g (mem_span hl hheld) h

omit hl in
/-- Any other slot loses the awaited bit alone. -/
theorem slot_clearAwaited_stands {g : Nat} (h : ¬Whole (unawait s k) g) :
    (s.clearAwaited k).slot g = bare k (s.slot g) := by
  rw [(evaluated_clearAwaited hw hc k).stands g fun hh => h hh.2, slot_unawait hw]

theorem working_clearAwaited : (s.clearAwaited k).composer.working =
    if ((s.clearAwaited k).slot s.store.hLow).state = .emitting ∧ (s.slot s.store.hLow).state ≠ .emitting then
      some { g := s.store.hLow, next := 0 }
    else s.composer.working := by
  have hev := evaluated_clearAwaited hw hc k
  by_cases h : Whole (unawait s k) s.store.hLow
  · have hopen : (s.slot s.store.hLow).state = .opened := ((whole_unawait_iff hw _).1 h).1
    have hheld : (s.slot s.store.hLow).state ≠ .free := by rw [hopen]; decide
    have hemit : ((s.clearAwaited k).slot s.store.hLow).state = .emitting := by
      rw [slot_clearAwaited_whole hw hc hl h]
      exact if_pos rfl
    rw [if_pos ⟨hemit, by rw [hopen]; decide⟩]
    exact hev.offered (mem_span hl hheld) h
  · have hstate : ((s.clearAwaited k).slot s.store.hLow).state = (s.slot s.store.hLow).state := by
      rw [slot_clearAwaited_stands hw hc h]; rfl
    rw [if_neg fun hh => hh.2 (hstate ▸ hh.1)]
    exact hev.unoffered fun hh => h hh.2

end

/-- Settles O45: the tests come in their order, and a disable is the clearing of the awaited bits followed by the completions
of the slots that are then whole. -/
theorem streamEnableAndDisable : Obligations.StreamEnableAndDisable := by
  intro s r cls k hcan hp x enable disable
  have enables : ∀ {u o}, (s.setExec .executing).enableWork k.toNat = (u.setExec .executing, reply o) → enable u o :=
    (completes_state hcan hp).1
  have disables : ∀ {u o}, (s.setExec .executing).disableWork k.toNat = (u.setExec .executing, reply o) → disable u o :=
    (completes_state hcan hp).2
  have bound := @enableWork_bound (s.setExec .executing) k.toNat
  refine ⟨fun hk => ⟨enables (enableWork_badIndex hk), disables (disableWork_badIndex hk)⟩,
    fun hk hb => enables (enableWork_notBound hk hb),
    fun hk hb hr => enables ((bound hk hb).trans (if_pos hr)),
    fun hk hb hr he => enables ((bound hk hb).trans ((if_neg ?_).trans (if_pos he))),
    fun hk hb hr he => enables ((bound hk hb).trans ((if_neg ?_).trans (if_neg ?_))),
    compatible_iff,
    fun a b i j => ⟨has_remove a i j, fun hi => has_add a hi j, has_minus a b j, minus_eq_zero_iff a b⟩,
    fun hk he => disables (disableWork_off hk he), fun hk he hs hl => ?_⟩
  · exact ne_of_eq_of_ne hr (by decide)
  · exact ne_of_eq_of_ne hr (by decide)
  · exact Bool.eq_false_iff.1 he
  obtain ⟨-, hctxs, -, hring, -⟩ := hs
  let s0 := s.setCtx k.toNat { x with enabled := false }
  have hc0 : Tbl.wf Ctx.zero s0.ctxs = true := wf_set hctxs _ _
  have hl0 : s0.ringLawful := hl
  have hev := evaluated_clearAwaited (s := s0) hring hc0 k.toNat
  have hcount := completed_length (s := s0) (k := k.toNat) hring
  have honly : StoreOnly s (s0.clearAwaited k.toNat) :=
    (only_with s s0.ctxs s.window s.store s.composer.working).trans (clearAwaited_only s0 k.toNat)
  refine ⟨s0.clearAwaited k.toNat, disables ?done, storeOnly_eq honly, fun j => ?ctx, fun i => ?awaited,
    fun g => ⟨fun h => ?whole, fun h => ?stands⟩, working_clearAwaited (s := s0) hring hc0 hl0, ?window, ?store⟩
  case done =>
    rw [← clearAwaited_setExec]
    exact disableWork_on (s := s.setExec .executing) hk he
  case ctx =>
    rw [hev.ctx j]
    refine (ctx_setCtx hctxs k.toNat _ j).trans ?_
    simp only [eq_comm]
  case awaited => rw [hev.awaited i, unawait_awaited (s := s0) hring hl0]
  case whole =>
    have hwhole : Whole (unawait s0 k.toNat) g := (whole_unawait_iff (s := s0) hring g).2 h
    rw [slot_clearAwaited_whole (s := s0) hring hc0 hl0 hwhole, finished_unawait (s := s0) hring]
    rfl
  case stands =>
    exact slot_clearAwaited_stands (s := s0) hring hc0 fun hwhole => h ((whole_unawait_iff (s := s0) hring g).1 hwhole)
  case window =>
    have hwindow := hev.window
    rw [hcount] at hwindow
    exact hwindow
  case store =>
    have hstore := hev.store
    rw [hcount] at hstore
    exact hstore

end Sys2Proof.Proofs.StreamState
end

/-! ## Local time under a slew (O11) -/

section
namespace Sys2Proof.Proofs.Slew
open Sys2Proof Sys2Proof.Machine Sys2Proof.Laws

/-! ### What dt nanoseconds work off (R29) -/

/-- The nanoseconds of the slew remainder worked off while the oscillator runs dt nanoseconds. -/
def worked (t : Tru) (dt : Nat) : Nat := min t.slew.natAbs ((t.slewPhase + dt) / 10000)

theorem worked_le (t : Tru) (dt : Nat) : worked t dt ≤ t.slew.natAbs := min_le_left _ _

/-- The remainder moves toward 0 by what is worked off. -/
theorem elapse_slew (t : Tru) (dt : Nat) :
    (t.elapse dt).slew = if t.slew < 0 then t.slew + worked t dt else t.slew - worked t dt := by
  have hle := worked_le t dt
  unfold Tru.elapse
  change (if t.slew < 0 then _ else _ : Tru).slew = _
  split
  · change -((t.slew.natAbs - worked t dt : Nat) : Int) = _
    omega
  · change ((t.slew.natAbs - worked t dt : Nat) : Int) = _
    omega

theorem elapse_slewPhase (t : Tru) (dt : Nat) :
    (t.elapse dt).slewPhase = if worked t dt = t.slew.natAbs then 0 else (t.slewPhase + dt) % 10000 := by
  have hle := worked_le t dt
  have hphase : (t.elapse dt).slewPhase =
      if t.slew.natAbs - worked t dt = 0 then 0 else (t.slewPhase + dt) % 10000 := by
    unfold Tru.elapse
    dsimp only
    split <;> rfl
  rw [hphase]
  exact if_congr (by omega) rfl rfl

theorem elapse_slewPhase_lt (t : Tru) (dt : Nat) : (t.elapse dt).slewPhase < 10000 := by
  rw [elapse_slewPhase]
  split <;> omega

/-- Below a full phase no more is worked off than time passes. -/
theorem worked_le_dt {t : Tru} (h : t.slewPhase < 10000) (dt : Nat) : worked t dt ≤ dt := by
  unfold worked
  omega

/-- Local time runs with the oscillator, later or sooner by what is worked off. -/
theorem elapse_now (t : Tru) (dt : Nat) :
    (t.elapse dt).now = if t.slew < 0 then t.now + dt - worked t dt else t.now + dt + worked t dt := by
  unfold Tru.elapse
  change (if t.slew < 0 then _ else _ : Tru).now = _
  split <;> rfl

theorem now_le_elapse {t : Tru} (h : t.slewPhase < 10000) (dt : Nat) : t.now ≤ (t.elapse dt).now := by
  have hw := worked_le_dt h dt
  rw [elapse_now]
  split <;> omega

/-- What local time gains on the oscillator the remainder gives up. -/
theorem elapse_now_slew {t : Tru} (h : t.slewPhase < 10000) (dt : Nat) :
    ((t.elapse dt).now : Int) = t.now + dt + (t.slew - (t.elapse dt).slew) := by
  have hw := worked_le_dt h dt
  rw [elapse_now, elapse_slew]
  split <;> omega

/-! ### Two times in a row -/

/-- What a and then b nanoseconds work off, a + b do. -/
theorem worked_add (t : Tru) (a b : Nat) : worked (t.elapse a) b + worked t a = worked t (a + b) := by
  have hle := worked_le t a
  have habs : (t.elapse a).slew.natAbs = t.slew.natAbs - worked t a := by
    rw [elapse_slew]
    split <;> omega
  rw [show worked (t.elapse a) b = min (t.elapse a).slew.natAbs (((t.elapse a).slewPhase + b) / 10000) from rfl, habs,
    elapse_slewPhase]
  unfold worked at *
  split <;> omega

theorem elapse_elapse {t : Tru} (h : t.slewPhase < 10000) (a b : Nat) : (t.elapse a).elapse b = t.elapse (a + b) := by
  have hadd := worked_add t a b
  have hle := worked_le t (a + b)
  have hslew : ((t.elapse a).elapse b).slew = (t.elapse (a + b)).slew := by
    rw [elapse_slew (t.elapse a), elapse_slew t a, elapse_slew t (a + b)]
    split_ifs <;> omega
  have hnow : ((t.elapse a).elapse b).now = (t.elapse (a + b)).now := by
    have h1 := elapse_now_slew h a
    have h2 := elapse_now_slew (elapse_slewPhase_lt t a) b
    have h3 := elapse_now_slew h (a + b)
    rw [hslew] at h2
    omega
  have hphase : ((t.elapse a).elapse b).slewPhase = (t.elapse (a + b)).slewPhase := by
    have habs : (t.elapse a).slew.natAbs = t.slew.natAbs - worked t a := by
      have hle := worked_le t a
      rw [elapse_slew]
      split <;> omega
    have hwb := worked_le (t.elapse a) b
    rw [elapse_slewPhase (t.elapse a), elapse_slewPhase t (a + b), habs, elapse_slewPhase t a]
    split_ifs <;> omega
  rw [elapse_eq (t.elapse a) b, hslew, hnow, hphase, elapse_eq t a, elapse_eq t (a + b)]
  simp only [Nat.add_assoc]

/-! ### The least wait -/

/-- The oscillator time waited reaches the point. -/
theorem timeFor_reaches {t : Tru} (h : t.slewPhase < 10000) (b : Nat) : t.now + b ≤ (t.elapse (t.timeFor b)).now := by
  rw [elapse_now]
  unfold worked Tru.timeFor slewSpacing
  dsimp only
  split_ifs <;> omega

/-- One nanosecond less does not reach it. -/
theorem timeFor_least {t : Tru} (h : t.slewPhase < 10000) {a b : Nat} (ha : a < t.timeFor b) :
    (t.elapse a).now < t.now + b := by
  rw [elapse_now]
  unfold Tru.timeFor slewSpacing at ha
  unfold worked
  dsimp only at ha
  split_ifs at ha ⊢ <;> omega

/-- Settles O11: the remainder loses what is worked off, from which the rest follows. -/
theorem slewedLocalTime : Obligations.SlewedLocalTime := by
  intro t a b h u
  have hslew : u.slew = _ := elapse_slew t a
  have hle := worked_le t a
  have hgone : (t.slew - u.slew).natAbs = worked t a := by
    rw [hslew]
    split <;> omega
  refine ⟨elapse_eq t a, elapse_now_slew h a, now_le_elapse h a, elapse_slewPhase_lt t a, fun hs => ?_, fun hs => ?_, ?_,
    fun hu => ?_, fun hp ha => ?_, elapse_elapse h a b, timeFor_reaches h b, timeFor_least h⟩
  · rw [hslew]
    split <;> omega
  · rw [hslew]
    split <;> omega
  · rw [hgone]
    unfold worked
    omega
  · have hleft : worked t a ≠ t.slew.natAbs := fun hw => hu (by rw [hslew]; split <;> omega)
    rw [hgone]
    unfold worked at *
    omega
  · have hall : worked t a = t.slew.natAbs := by
      unfold worked
      omega
    rw [hslew]
    split <;> omega

end Sys2Proof.Proofs.Slew
end

/-! ## What every step keeps in range, and what never falls (O54, O59) -/

section
namespace Sys2Proof.Proofs.Ranges
open Sys2Proof Sys2Proof.Machine Sys2Proof.Laws

/-! ### The ranges, field by field -/

/-- `Params.inRange` with its parts named. -/
structure ParamsWithin (p : Params) : Prop where
  rate : p.rate ∈ rates
  mgmtId : p.mgmtId ≤ 65535
  lead : p.lead ≤ 32
  cSat : 1 ≤ p.cSat ∧ p.cSat ≤ 15
  cAwait : p.cAwait ≤ 15
  window : 1 ≤ p.wMin ∧ p.wMin ≤ p.wMax ∧ p.wMax ≤ 40000
  w0 : 1 ≤ p.w0 ∧ p.w0 ≤ 40000
  theta : p.theta ∈ [1, 2, 4, 8]
  upStep : p.upStep ∈ [16, 32, 64, 128]
  downStep : p.downStep ∈ [1, 2, 4, 8]
  watermarks : p.wm2 ≤ p.wm1 ∧ p.wm1 ≤ 4095
  hMax : p.hMax ≤ 86400
  drift : 1 ≤ p.drift ∧ p.drift ≤ 100000
  holdLimit : 10 ≤ p.holdLimit ∧ p.holdLimit ≤ 60000
  promotion : 1 ≤ p.promotion ∧ p.promotion ≤ 1000
  highBypass : 1 ≤ p.highBypassMax ∧ p.highBypassMax ≤ 15
  lowBypass : 1 ≤ p.lowBypassMax ∧ p.lowBypassMax ≤ 15

theorem inRange_iff (p : Params) : p.inRange ↔ ParamsWithin p := by
  constructor
  · rintro ⟨a, b, c, d, e, f, g, h, i, j, k, l, m, n, o, q, r⟩
    exact ⟨a, b, c, d, e, f, g, h, i, j, k, l, m, n, o, q, r⟩
  · rintro ⟨a, b, c, d, e, f, g, h, i, j, k, l, m, n, o, q, r⟩
    exact ⟨a, b, c, d, e, f, g, h, i, j, k, l, m, n, o, q, r⟩

/-- `State.windowInLimits` of a controller under parameters. -/
structure WindowWithin (p : Params) (w : Window) : Prop where
  lower : 16 * p.wMin ≤ w.wq
  upper : w.wq ≤ 16 * p.wMax
  late : w.late ≤ w.total
  total : w.total ≤ countLimit
  opening : w.j < 16
  closing : w.closings < 16

theorem windowInLimits_iff (s : State) : s.windowInLimits ↔ WindowWithin s.params s.window := by
  constructor
  · rintro ⟨a, b, c, d, e, f⟩; exact ⟨a, b, c, d, e, f⟩
  · rintro ⟨a, b, c, d, e, f⟩; exact ⟨a, b, c, d, e, f⟩

/-- A TRU in HOLDOVER is within both holdover limits (R26). -/
def HoldoverWithin (p : Params) (t : Tru) : Prop :=
  t.state = .holdover →
    t.elapsedHoldover < p.hMax ∧ holdoverUncertainty p.drift t.elapsedHoldover ≤ uncertaintyLimit

/-- `State.truInRange` of a TRU under parameters. -/
structure TruWithin (p : Params) (t : Tru) : Prop where
  qualified : t.qualified < 3
  unqualifiedRun : t.unqualifiedRun < 3
  mismatchRun : t.mismatchRun < 3
  clockQuality : t.clockQuality ≤ 15
  elapsed : t.elapsedHoldover ≤ 86400
  slewPhase : t.slewPhase < slewSpacing
  todBuf : t.todBuf.length < 8
  holdover : HoldoverWithin p t

theorem truInRange_iff (s : State) : s.truInRange ↔ TruWithin s.params s.tru := by
  constructor
  · rintro ⟨a, b, c, d, e, f, g, h⟩; exact ⟨a, b, c, d, e, f, g, h⟩
  · rintro ⟨a, b, c, d, e, f, g, h⟩; exact ⟨a, b, c, d, e, f, g, h⟩

/-- The premises of ParametersStayInRange, and so its conclusion. -/
structure Ranged (s : State) : Prop where
  wfCtxs : Tbl.wf Ctx.zero s.ctxs = true
  params : ParamsWithin s.params
  window : WindowWithin s.params s.window
  confidence : ∀ k, (s.ctx k).confidence ≤ s.params.cSat
  tru : TruWithin s.params s.tru

/-! ### Operations in which no time passes and no parameter changes -/

/-- A canonical context table stays canonical, and confidences within a bound stay within it. -/
def ConfidenceKept (n : Nat) (a b : Tbl Ctx) : Prop :=
  Tbl.wf Ctx.zero a = true → (∀ k, (Tbl.get Ctx.zero a k).confidence ≤ n) →
    Tbl.wf Ctx.zero b = true ∧ ∀ k, (Tbl.get Ctx.zero b k).confidence ≤ n

theorem ConfidenceKept.refl (n : Nat) (a : Tbl Ctx) : ConfidenceKept n a a := fun hw h => ⟨hw, h⟩

theorem ConfidenceKept.trans {n : Nat} {a b c : Tbl Ctx} (h : ConfidenceKept n a b) (k : ConfidenceKept n b c) :
    ConfidenceKept n a c := fun hw ha => k (h hw ha).1 (h hw ha).2

theorem confidenceKept_set {n k : Nat} {a : Tbl Ctx} {c : Ctx}
    (h : (Tbl.get Ctx.zero a k).confidence ≤ n → c.confidence ≤ n) :
    ConfidenceKept n a (Tbl.set Ctx.zero a k c) := fun hw ha => by
  refine ⟨wf_set hw k c, fun i => ?_⟩
  rw [get_set hw]
  split
  · exact h (ha k)
  · exact ha i

theorem confidenceKept_update {n : Nat} {a : Tbl Ctx} {f : Nat → Ctx → Ctx} (hz : ∀ i, f i Ctx.zero = Ctx.zero)
    (hf : ∀ i c, (f i c).confidence ≤ c.confidence) : ConfidenceKept n a (Tbl.update Ctx.zero f a) := fun hw ha => by
  refine ⟨wf_update f hw, fun i => ?_⟩
  rw [get_update hz hw]
  exact (hf i _).trans (ha i)

/-- t has the TRU and the parameters of s, keeps the window and the confidences in range, and lets H_low not fall. -/
structure Calm (s t : State) : Prop where
  tru : t.tru = s.tru
  params : t.params = s.params
  ctxs : ConfidenceKept s.params.cSat s.ctxs t.ctxs
  window : s.params.wMin ≤ s.params.wMax → WindowWithin s.params s.window → WindowWithin s.params t.window
  low : s.store.hLow ≤ t.store.hLow

theorem Calm.refl (s : State) : Calm s s := ⟨rfl, rfl, .refl _ _, fun _ h => h, le_rfl⟩

theorem Calm.trans {s t u : State} (h : Calm s t) (k : Calm t u) : Calm s u := by
  obtain ⟨ht, hp, hc, hw, hl⟩ := h
  obtain ⟨kt, kp, kc, kw, kl⟩ := k
  rw [hp] at kc kw
  exact ⟨kt.trans ht, kp.trans hp, hc.trans kc, fun h1 h2 => kw h1 (hw h1 h2), hl.trans kl⟩

/-- `Calm.trans`, the last operation named first. -/
theorem Calm.after {s t u : State} (k : Calm t u) (h : Calm s t) : Calm s u := h.trans k

/-- A change of other fields is calm. -/
theorem calm_of_eq {s t : State} (ht : t.tru = s.tru) (hp : t.params = s.params) (hc : t.ctxs = s.ctxs)
    (hw : t.window = s.window) (hl : t.store.hLow = s.store.hLow) : Calm s t :=
  ⟨ht, hp, hc ▸ .refl _ _, fun _ h => hw ▸ h, hl.ge⟩

theorem calm_of_aside {s t : State} (h : t.aside = s.aside) : Calm s t :=
  calm_of_eq (aside_tru h) (aside_params h) (aside_ctxs h) (aside_window h) (congrArg Store.hLow (aside_store h))

theorem calm_composer (s : State) (x : Composer) : Calm s { s with composer := x } := calm_of_eq rfl rfl rfl rfl rfl

theorem calm_mgmt (s : State) (m : Mgmt) : Calm s { s with mgmt := m } := calm_of_eq rfl rfl rfl rfl rfl

theorem calm_intake (s : State) (i : Intake) : Calm s { s with intake := i } := calm_of_eq rfl rfl rfl rfl rfl

theorem calm_window {s : State} {w : Window}
    (h : s.params.wMin ≤ s.params.wMax → WindowWithin s.params s.window → WindowWithin s.params w) :
    Calm s { s with window := w } := ⟨rfl, rfl, .refl _ _, h, le_rfl⟩

theorem calm_setCtx {s : State} {k : Nat} {c : Ctx}
    (h : (s.ctx k).confidence ≤ s.params.cSat → c.confidence ≤ s.params.cSat) : Calm s (s.setCtx k c) :=
  ⟨rfl, rfl, confidenceKept_set h, fun _ h => h, le_rfl⟩

/-- A fold of calm operations is calm. -/
theorem calm_foldl {α : Type} {f : State → α → State} (hf : ∀ s a, Calm s (f s a)) (l : List α) (s : State) :
    Calm s (l.foldl f s) := by
  induction l generalizing s with
  | nil => exact .refl s
  | cons a l ih => exact (hf s a).trans (ih _)

/-! ### The Window Controller (R112, R116 to R118) -/

theorem clampNat_within {lo hi : Nat} (h : lo ≤ hi) (v : Nat) : lo ≤ clampNat lo hi v ∧ clampNat lo hi v ≤ hi := by
  unfold clampNat
  split_ifs <;> omega

theorem clampWq_within {p : Params} (h : p.wMin ≤ p.wMax) (v : Nat) :
    16 * p.wMin ≤ clampWq p v ∧ clampWq p v ≤ 16 * p.wMax := clampNat_within (Nat.mul_le_mul_left 16 h) v

/-- A change of the controller's counts and of the window last applied alone. -/
theorem WindowWithin.counts {p : Params} {w : Window} (h : WindowWithin p w) (n : Nat) (c : WindowCounts) :
    WindowWithin p { w with lastApplied := n, counts := c } := { h with }

theorem WindowWithin.clamped {p : Params} {w : Window} (h : WindowWithin p w) (hp : p.wMin ≤ p.wMax) (v : Nat)
    (c : WindowCounts) : WindowWithin p { w with wq := clampWq p v, counts := c } :=
  { h with lower := (clampWq_within hp v).1, upper := (clampWq_within hp v).2 }

theorem WindowWithin.opened {p : Params} {w : Window} (h : WindowWithin p w) (below : Bool) :
    WindowWithin p (Window.opening p below w).2 := by
  unfold Window.opening
  split
  · exact h.counts _ _
  split
  · exact { h with opening := Nat.mod_lt _ (by decide) }
  · exact h.counts _ _

theorem WindowWithin.onTime {p : Params} {w : Window} (h : WindowWithin p w) : WindowWithin p w.onTime := by
  unfold Window.onTime
  split
  · next ht => exact { h with late := h.late.trans (Nat.le_succ _), total := ht }
  · exact h

theorem WindowWithin.lateNotice {p : Params} {w : Window} (h : WindowWithin p w) : WindowWithin p w.lateNotice := by
  unfold Window.lateNotice
  split
  · next ht => exact { h with late := Nat.succ_le_succ h.late, total := ht }
  · exact h

theorem WindowWithin.judge {p : Params} {w : Window} (h : WindowWithin p w) (hp : p.wMin ≤ p.wMax) (free : Nat) :
    WindowWithin p (Window.judge p free w) := by
  unfold Window.judge
  split
  · exact h
  split
  · exact h.counts _ _
  split
  · split
    · exact h.counts _ _
    · exact h.clamped hp _ _
  · exact h.clamped hp _ _

theorem WindowWithin.closingNotice {p : Params} {w : Window} (h : WindowWithin p w) (hp : p.wMin ≤ p.wMax) (free : Nat) :
    WindowWithin p (Window.closingNotice p free w) := by
  unfold Window.closingNotice
  split
  · exact { h.judge hp free with late := le_rfl, total := Nat.zero_le _, closing := Nat.zero_lt_succ 15 }
  · next hc => exact { h with closing := Nat.lt_of_not_le hc }

/-! ### The store -/

theorem calm_setSlot (s : State) (g : Nat) (x : Slot) : Calm s (s.setSlot g x) := calm_of_eq rfl rfl rfl rfl rfl

theorem calm_leaveOpen (s : State) (g : Nat) (c : Cause) : Calm s (s.leaveOpen g c) := by
  rw [leaveOpen_eq]
  refine ⟨rfl, rfl, ?_, fun hp h => ?_, le_rfl⟩
  · refine confidenceKept_update (fun i => by split <;> rfl) fun i c => ?_
    split
    · exact Nat.sub_le _ _
    · exact le_rfl
  · unfold windowAfter
    split
    · exact h.closingNotice hp _
    · exact h

theorem calm_offer (s : State) : Calm s s.offer := by
  unfold State.offer
  dsimp only
  split
  · exact calm_of_eq rfl rfl rfl rfl rfl
  · exact .refl s

theorem calm_offerIfLow (s : State) (g : Nat) : Calm s (s.offerIfLow g) := by
  unfold State.offerIfLow
  split
  · exact calm_offer s
  · exact .refl s

theorem calm_evaluate (s : State) (g : Nat) : Calm s (s.evaluate g) := by
  unfold State.evaluate
  dsimp only
  split
  · exact (calm_leaveOpen s g _).trans (calm_offerIfLow _ _)
  · exact .refl s

theorem calm_expire (s : State) (g : Nat) : Calm s (s.expire g) := by
  unfold State.expire
  dsimp only
  split
  · exact ((calm_evaluate s g).trans (calm_leaveOpen _ _ _)).trans (calm_offerIfLow _ _)
  · exact calm_evaluate s g

theorem calm_expireIfDue (s : State) (g : Nat) : Calm s (s.expireIfDue g) := by
  unfold State.expireIfDue
  split
  · exact calm_expire s g
  · exact .refl s

theorem calm_closeFor (s : State) (c : Cause) (g : Nat) : Calm s (s.closeFor c g) := by
  unfold State.closeFor
  dsimp only
  split
  · exact calm_leaveOpen s g c
  · exact calm_of_eq rfl rfl rfl rfl rfl
  all_goals exact .refl s

theorem calm_closeAll (s : State) (c : Cause) : Calm s (s.closeAll c) := calm_foldl (fun s g => calm_closeFor s c g) _ s

theorem calm_openSlot (s : State) (g : Nat) : Calm s (s.openSlot g) := by
  unfold State.openSlot
  exact (calm_evaluate _ g).after ((calm_setSlot _ g _).after (calm_window fun _ h => h.opened _))

theorem calm_openSlotNow (s : State) (g : Nat) : Calm s (s.openSlotNow g) :=
  (calm_openSlot s g).trans (calm_expireIfDue _ g)

theorem calm_catchUp (s : State) : Calm s s.catchUp := by
  unfold State.catchUp
  split
  · refine (calm_foldl (fun s g => ?_) s.span s).trans (calm_offer _)
    split
    · exact calm_openSlotNow s g
    · exact .refl s
  · exact .refl s

/-- The slots of the span above H_low lie above it. -/
theorem low_lt_of_mem_tail {s : State} {g : Nat} (h : g ∈ s.span.tail) : s.store.hLow < g := by
  have htail : (List.range 64).tail = (List.range 63).map Nat.succ := by decide
  rw [State.span, ← List.map_tail, htail, List.map_map] at h
  obtain ⟨i, -, rfl⟩ := List.mem_map.1 h
  exact Nat.lt_add_of_pos_right (Nat.succ_pos i)

/-- H_low advances to a greater number (R102). -/
theorem low_lt_nextLow (s : State) : s.store.hLow < s.nextLow := by
  have hbare : s.store.hLow < max (s.store.hLow + 1) s.store.floor := lt_of_lt_of_le (Nat.lt_succ_self _) (le_max_left _ _)
  unfold State.nextLow
  dsimp only
  split
  · exact hbare
  · next g hg => exact lt_min (low_lt_of_mem_tail (List.mem_of_find?_eq_some hg)) hbare

theorem calm_advanceLow (s : State) : Calm s s.advanceLow :=
  ⟨rfl, rfl, .refl _ _, fun _ h => h, (low_lt_nextLow s).le⟩

theorem calm_passFloor (s : State) : Calm s s.passFloor := by
  unfold State.passFloor
  split
  · exact calm_advanceLow s
  · exact .refl s

theorem calm_setFloor (s : State) (f : Nat) : Calm s (s.setFloor f) := calm_of_eq rfl rfl rfl rfl rfl

theorem calm_takeTimeStep (s : State) : Calm s s.takeTimeStep := by
  unfold State.takeTimeStep
  refine (calm_catchUp _).after ((calm_offer _).after ((calm_passFloor _).after ?_))
  exact (calm_closeAll s .timeStep).trans (calm_setFloor _ _)

theorem calm_forceRing (s : State) : Calm s s.forceRing := by
  unfold State.forceRing
  split
  · exact (calm_offer _).after ((calm_leaveOpen s _ _).trans (calm_of_eq rfl rfl rfl rfl rfl))
  · exact .refl s

theorem calm_storeInstant (s : State) (g : Nat) : Calm s (s.storeInstant g) := by
  unfold State.storeInstant
  split
  · exact .refl s
  split
  · split
    · split
      · exact calm_openSlotNow s g
      · exact .refl s
    · exact calm_evaluate s g
    all_goals exact .refl s
  split
  · exact calm_forceRing s
  · exact .refl s

theorem calm_judgeDrain (s : State) : Calm s s.judgeDrain := calm_of_aside (judgeDrain_aside s)

theorem calm_settleAndJudge (s : State) : Calm s s.settleAndJudge := calm_of_aside (settleAndJudge_aside s)

theorem calm_release (s : State) : Calm s s.release := by
  unfold State.release
  refine (calm_judgeDrain _).after ((calm_offer _).after ((calm_catchUp _).after ((calm_advanceLow _).after ?_)))
  exact calm_of_eq rfl rfl rfl rfl rfl

theorem calm_enterRunning (s : State) : Calm s s.enterRunning :=
  (calm_catchUp _).after ⟨rfl, rfl, .refl _ _, fun _ h => h, le_max_left _ _⟩

theorem calm_clearAwaited (s : State) (k : Nat) : Calm s (s.clearAwaited k) := by
  unfold State.clearAwaited
  exact (calm_foldl calm_evaluate _ _).after (calm_of_eq rfl rfl rfl rfl rfl)

/-! ### Intake and placement -/

theorem calm_intakeEnds (s : State) (c : IntakeCount) : Calm s (s.intakeEnds c) := calm_intake s _

theorem calm_bumpCtx (s : State) (k : Nat) (c : CtxCount) : Calm s (s.bumpCtx k c) := calm_setCtx id

theorem calm_discard (s : State) (k : Nat) (c : IntakeCount) : Calm s (s.discard k c) :=
  (calm_intakeEnds s c).trans (calm_bumpCtx _ _ _)

theorem calm_engineDiscard (s : State) (k : Nat) : Calm s (s.engineDiscard k) := by
  unfold State.engineDiscard
  split
  · exact (calm_discard _ _ _).after (calm_mgmt s _)
  · exact calm_discard s _ _
  · exact calm_discard s _ _
  all_goals exact .refl s

theorem calm_forcePool (s : State) : Calm s s.forcePool := by
  unfold State.forcePool
  dsimp only
  split
  · exact (calm_offer _).after ((calm_leaveOpen _ _ _).after (calm_of_eq rfl rfl rfl rfl rfl))
  · exact calm_of_eq rfl rfl rfl rfl rfl

theorem accept_confidence (c : Ctx) (g : Nat) : (c.accept g).confidence = c.confidence := by
  unfold Ctx.accept
  split <;> rfl

theorem calm_accepted (s : State) (q : Placement) : Calm s (s.accepted q) := by
  unfold State.accepted
  refine (calm_bumpCtx _ _ _).after ((calm_setCtx fun h => ?_).after (calm_intakeEnds s _))
  rw [accept_confidence]
  exact h

theorem calm_acceptReport (s : State) (q : Placement) (c : Nat) (rest : List Nat) : Calm s (s.acceptReport q c rest) := by
  have hfill : Calm s (s.fillCell q c rest) := calm_of_eq rfl rfl rfl rfl rfl
  unfold State.acceptReport
  refine (calm_accepted _ q).after ((calm_evaluate _ _).after (hfill.trans ?_))
  unfold State.onTimeNotice
  split
  · exact calm_window fun _ h => h.onTime
  · exact .refl _

theorem calm_placeInSlot (s : State) (q : Placement) : Calm s (s.placeInSlot q) := by
  unfold State.placeInSlot
  split
  · exact calm_discard s _ _
  · split
    · exact (calm_forcePool s).trans (calm_discard _ _ _)
    · exact calm_acceptReport s q _ _

theorem calm_lateNotice (s : State) (q : Placement) : Calm s (s.lateNotice q) := by
  unfold State.lateNotice
  split
  · exact calm_window fun _ h => h.lateNotice
  · exact .refl s

theorem calm_place (s : State) (q : Placement) : Calm s (s.place q) := by
  unfold State.place
  split
  · exact (calm_lateNotice s q).trans (calm_discard _ _ _)
  · exact calm_discard s _ _
  · split
    · exact ((calm_openSlot s _).trans (calm_placeInSlot _ q)).trans (calm_expireIfDue _ _)
    · exact calm_placeInSlot s q

theorem calm_takePlacement (s : State) : Calm s s.takePlacement := by
  unfold State.takePlacement
  split
  · exact .refl s
  · split
    · exact calm_discard s _ _
    · exact calm_place s _

/-- The cadence raises a confidence below C_sat alone (R46). -/
theorem cadence_confidence {cSat p g : Nat} {c : Ctx} (h : c.confidence ≤ cSat) :
    (c.cadence cSat p g).confidence ≤ cSat := by
  unfold Ctx.cadence cadenceConfidence
  dsimp only
  split_ifs <;> omega

theorem calm_admitKept (s : State) (r : Report) (k g : Nat) (residual : Int) (mark : Bool) :
    Calm s (s.admitKept r k g residual mark) := by
  have h : Calm s (s.setCtx k ((s.ctx k).cadence s.params.cSat (s.cadencePeriod k) g)) := calm_setCtx cadence_confidence
  unfold State.admitKept
  dsimp only
  split
  · exact h.trans (calm_discard _ _ _)
  · exact h.trans (calm_intake _ _)

theorem calm_admitKnown (s : State) (r : Report) (k : Nat) : Calm s (s.admitKnown r k) := by
  unfold State.admitKnown
  split
  · exact calm_discard s _ _
  split
  · exact calm_discard s _ _
  split
  · exact calm_engineDiscard s _
  split
  · exact calm_discard s _ _
  · exact calm_discard s _ _
  · exact calm_admitKept s r k _ _ _

theorem calm_handDirective (s : State) (f : InFrame) : Calm s (s.handDirective f) := by
  unfold State.handDirective
  split
  · exact calm_of_eq rfl rfl rfl rfl rfl
  · exact calm_intake s _

theorem calm_admitReport (s : State) (bytes : List Byte) : Calm s (s.admitReport bytes) := by
  unfold State.admitReport
  split
  · exact calm_intake s _
  · split
    · exact calm_intake s _
    · exact calm_admitKnown s _ _

theorem calm_workOn (s : State) (f : InFrame) : Calm s (s.workOn f) := by
  unfold State.workOn
  split
  · exact calm_intake s _
  split
  · exact calm_admitReport s _
  · exact calm_handDirective s f
  · exact calm_intake s _

theorem calm_setLinkIn (s : State) (l : Link) (x : LinkIn) : Calm s (s.setLinkIn l x) := by
  rw [setLinkIn_only]
  exact calm_intake s _

theorem calm_takeFrame (s : State) : Calm s s.takeFrame := by
  unfold State.takeFrame
  split
  · split
    · exact .refl s
    · exact (calm_workOn _ _).after ((calm_intake _ _).after (calm_setLinkIn s _ _))
  · exact .refl s

/-! ### Composition and holding lists -/

theorem calm_formBatch (s : State) (n : Nat) : Calm s (s.formBatch n) := by
  unfold State.formBatch
  dsimp only
  split
  · exact .refl s
  · exact calm_of_eq rfl rfl rfl rfl rfl

theorem calm_formAllBatches (s : State) : Calm s s.formAllBatches := calm_foldl calm_formBatch _ s

theorem calm_holdSet (s : State) (n : Nat) (bytes : List Byte) : Calm s (s.holdSet n bytes) := by
  unfold State.holdSet
  extract_lets h s1 h1 h2 s2
  have hs1 : Calm s s1 := by
    dsimp only [s1]
    split
    · exact calm_formBatch s n
    · exact .refl s
  have hs2 : Calm s s2 := (calm_composer _ _).after hs1
  split
  · exact hs2.trans (calm_formBatch s2 n)
  · exact hs2

theorem calm_handOn (s : State) (n : Nat) (bytes : List Byte) : Calm s (s.handOn n bytes) := by
  unfold State.handOn
  dsimp only
  split
  · exact calm_composer _ _
  · exact calm_holdSet s n bytes

theorem calm_profileTurn (s : State) (n : Nat) (x : Slot) : Calm s (s.profileTurn n x) := by
  unfold State.profileTurn
  dsimp only
  split
  · exact (calm_handOn _ _ _).after (calm_composer s _)
  · exact .refl s

theorem calm_considerNext (s : State) (w : Composing) : Calm s (s.considerNext w) := by
  unfold State.considerNext
  dsimp only
  split
  · exact (calm_profileTurn s _ _).trans (calm_composer _ _)
  · exact .refl s

theorem calm_finishIfComposed (s : State) : Calm s s.finishIfComposed := by
  unfold State.finishIfComposed
  split
  · exact .refl s
  split
  · unfold State.composed
    dsimp only
    refine (calm_release _).after ((calm_composer _ _).after ?_)
    split
    · exact calm_formAllBatches s
    · exact .refl s
  · exact .refl s

theorem calm_composeStep (s : State) : Calm s s.composeStep := by
  unfold State.composeStep
  split
  · exact .refl s
  split
  · exact (((calm_considerNext s _).trans (calm_settleAndJudge _)).trans (calm_finishIfComposed _)).trans
      (calm_settleAndJudge _)
  · exact .refl s

theorem calm_holdExpire (s : State) (n : Nat) : Calm s (s.holdExpire n) :=
  (calm_formBatch s n).trans (calm_composer _ _)

theorem calm_holdExpireDue (s : State) : Calm s s.holdExpireDue := by
  refine calm_foldl (fun s n => ?_) _ s
  split
  · exact calm_holdExpire s n
  · exact .refl s

theorem calm_takeHoldExpiry (s : State) (n : Nat) : Calm s (s.takeHoldExpiry n) :=
  (calm_holdExpire s n).trans (calm_settleAndJudge _)

theorem calm_truLocked (s : State) : Calm s s.truLocked := by
  unfold State.truLocked
  split
  · exact calm_enterRunning s
  · exact .refl s

end Sys2Proof.Proofs.Ranges
end

/-! ## The Time Reference Unit within its ranges (O54, O59) -/

section
namespace Sys2Proof.Proofs.Ranges
open Sys2Proof Sys2Proof.Machine Sys2Proof.Laws Sys2Proof.Proofs.Slew

/-! ### The TRU's transitions keep its ranges -/

theorem holdoverWithin_of_ne {p : Params} {t : Tru} (h : t.state ≠ .holdover) : HoldoverWithin p t := fun hs => absurd hs h

theorem TruWithin.elapse {p : Params} {t : Tru} (h : TruWithin p t) (dt : Nat) : TruWithin p (t.elapse dt) := by
  have hphase := elapse_slewPhase_lt t dt
  rw [elapse_eq]
  exact { h with slewPhase := hphase }

theorem TruWithin.takeTod {p : Params} {t : Tru} (h : TruWithin p t) (m : List Byte) : TruWithin p (t.takeTod m) := by
  have hq : (byteAt m 1).toNat % 16 ≤ 15 := by omega
  unfold Tru.takeTod
  dsimp only
  split
  · split
    · exact { h with qualified := Nat.succ_pos 2, clockQuality := hq, holdover := holdoverWithin_of_ne nofun }
    · exact { h with clockQuality := hq }
  · exact { h with clockQuality := hq }

theorem TruWithin.todByte {p : Params} {t : Tru} (h : TruWithin p t) (b : Byte) : TruWithin p (t.todByte b) := by
  have hbuf := h.todBuf
  unfold Tru.todByte
  split
  · exact h
  dsimp only
  split
  · next hm => exact { h with todBuf := hm }
  split
  · exact { h.takeTod _ with todBuf := Nat.succ_pos 7 }
  · refine { h with todBuf := lt_of_le_of_lt (List.length_dropWhile_le _ _) ?_ }
    rw [List.length_tail, List.length_append, List.length_singleton]
    omega

theorem TruWithin.todBytes {p : Params} {t : Tru} (h : TruWithin p t) (bs : List Byte) : TruWithin p (t.todBytes bs) := by
  unfold Tru.todBytes
  induction bs generalizing t with
  | nil => exact h
  | cons b bs ih => exact ih (h.todByte b)

theorem TruWithin.enterHoldover {p : Params} {t : Tru} (h : TruWithin p { t with unqualifiedRun := 0, mismatchRun := 0 }) :
    TruWithin p (Tru.enterHoldover p.hMax t) := by
  refine { h with
    qualified := Nat.succ_pos 2, unqualifiedRun := Nat.succ_pos 2, mismatchRun := Nat.succ_pos 2, elapsed := Nat.zero_le _
    holdover := fun hs => ?_ }
  have hmax : p.hMax ≠ 0 := fun h0 => by
    rw [Tru.enterHoldover, if_pos h0] at hs
    cases hs
  exact ⟨Nat.pos_of_ne_zero hmax, (by decide : 100 ≤ uncertaintyLimit)⟩

/-- A locked TRU meets every law but what it carries over. -/
theorem TruWithin.locked {p : Params} {t u : Tru} (h : TruWithin p t) (hs : u.state = .locked) (hq : u.qualified = 0)
    (hr : u.unqualifiedRun = 0) (hm : u.mismatchRun = 0) (hc : u.clockQuality = t.clockQuality)
    (he : u.elapsedHoldover = 0) (hp : u.slewPhase = 0) (hb : u.todBuf = t.todBuf) : TruWithin p u :=
  ⟨by omega, by omega, by omega, hc ▸ h.clockQuality, by omega, hp ▸ Nat.succ_pos 9999, hb ▸ h.todBuf,
    holdoverWithin_of_ne (by rw [hs]; decide)⟩

theorem TruWithin.relock {p : Params} {t : Tru} (h : TruWithin p t) (rate a : Nat) :
    TruWithin p (Tru.relock rate a t).1 := by
  unfold Tru.relock
  dsimp only
  split <;> exact h.locked rfl rfl rfl rfl rfl rfl rfl rfl

/-- A qualified edge short of the third (R27). -/
theorem TruWithin.counted {p : Params} {t : Tru} (h : TruWithin p t) (hq : ¬3 ≤ t.qualified + 1) :
    TruWithin p { t with qualified := t.qualified + 1 } := { h with qualified := Nat.lt_of_not_le hq }

theorem TruWithin.qualifiedEdge {p : Params} {t : Tru} (h : TruWithin p t) (a : Nat) :
    TruWithin p (Tru.qualifiedEdge p a t).1 := by
  unfold Tru.qualifiedEdge
  split
  · exact h
  · split
    · exact h.locked rfl rfl rfl rfl rfl rfl rfl rfl
    · next hq => exact h.counted hq
  · split
    · exact { h with unqualifiedRun := Nat.succ_pos 2, mismatchRun := Nat.succ_pos 2, slewPhase := Nat.succ_pos 9999 }
    · dsimp only
      split
      · exact TruWithin.enterHoldover { h with unqualifiedRun := Nat.succ_pos 2, mismatchRun := Nat.succ_pos 2 }
      · next hm => exact { h with unqualifiedRun := Nat.succ_pos 2, mismatchRun := Nat.lt_of_not_le hm }
  all_goals
    split
    · exact h.relock _ a
    · next hq => exact h.counted hq

theorem TruWithin.unqualifiedEdge {p : Params} {t : Tru} (h : TruWithin p t) : TruWithin p (Tru.unqualifiedEdge p t) := by
  unfold Tru.unqualifiedEdge
  dsimp only
  split
  · exact h
  · exact { h with qualified := Nat.succ_pos 2 }
  · split
    · exact TruWithin.enterHoldover { h with unqualifiedRun := Nat.succ_pos 2, mismatchRun := Nat.succ_pos 2 }
    · next hr => exact { h with unqualifiedRun := Nat.lt_of_not_le hr, mismatchRun := Nat.succ_pos 2 }
  · exact { h with qualified := Nat.succ_pos 2 }
  · exact { h with qualified := Nat.succ_pos 2 }

theorem TruWithin.edge {p : Params} {t : Tru} (h : TruWithin p t) : TruWithin p (Tru.edge p t).1 := by
  unfold Tru.edge
  split
  · exact h
  split
  · exact { h.qualifiedEdge _ with }
  · exact { h.unqualifiedEdge with }

theorem TruWithin.edgeTimerExpire {p : Params} {t : Tru} (h : TruWithin p t) : TruWithin p (Tru.edgeTimerExpire p t) := by
  unfold Tru.edgeTimerExpire
  dsimp only
  split
  · exact { h with }
  · exact { h with qualified := Nat.succ_pos 2 }
  · exact TruWithin.enterHoldover { h with unqualifiedRun := Nat.succ_pos 2, mismatchRun := Nat.succ_pos 2 }
  · exact { h with qualified := Nat.succ_pos 2 }
  · exact { h with qualified := Nat.succ_pos 2 }

/-- Judging HOLDOVER against the limits sets it within them (R26). -/
theorem holdoverWithin_limits (p : Params) (t : Tru) : HoldoverWithin p (Tru.holdoverLimits p t) := by
  unfold Tru.holdoverLimits
  split
  · exact holdoverWithin_of_ne nofun
  · next hl =>
    intro hs
    exact ⟨Nat.lt_of_not_le fun h => hl ⟨hs, .inl h⟩, Nat.le_of_not_lt fun h => hl ⟨hs, .inr h⟩⟩

/-- Judging HOLDOVER changes the TRU's state alone. -/
theorem holdoverLimits_eq (p : Params) (t : Tru) :
    Tru.holdoverLimits p t = { t with state := (Tru.holdoverLimits p t).state } := by
  unfold Tru.holdoverLimits
  split <;> rfl

/-- A TRU in range but for the holdover limits, once they are judged. -/
theorem TruWithin.holdoverLimits {p q : Params} {t : Tru} (h : TruWithin q t) :
    TruWithin p (Tru.holdoverLimits p t) := by
  have hl := holdoverWithin_limits p t
  rw [holdoverLimits_eq] at hl ⊢
  exact ⟨h.qualified, h.unqualifiedRun, h.mismatchRun, h.clockQuality, h.elapsed, h.slewPhase, h.todBuf, hl⟩

theorem TruWithin.holdoverSecond {p : Params} {t : Tru} (hp : p.hMax ≤ 86400) (h : TruWithin p t) :
    TruWithin p (Tru.holdoverSecond p t) := by
  have hl := holdoverWithin_limits p { t with elapsedHoldover := t.elapsedHoldover + 1, secondMark := t.secondMark + 1 }
  unfold Tru.holdoverSecond
  split
  · next hs =>
    have hbelow := (h.holdover hs).1
    rw [holdoverLimits_eq] at hl ⊢
    exact ⟨h.qualified, h.unqualifiedRun, h.mismatchRun, h.clockQuality, show t.elapsedHoldover + 1 ≤ 86400 by omega,
      h.slewPhase, h.todBuf, hl⟩
  · exact h

/-! ### Which transitions set the clocks -/

theorem todByte_clocks (t : Tru) (b : Byte) : (t.todByte b).osc = t.osc ∧ (t.todByte b).now = t.now := by
  unfold Tru.todByte Tru.takeTod
  dsimp only
  split_ifs <;> exact ⟨rfl, rfl⟩

theorem todBytes_clocks (t : Tru) (bs : List Byte) : (t.todBytes bs).osc = t.osc ∧ (t.todBytes bs).now = t.now := by
  unfold Tru.todBytes
  induction bs generalizing t with
  | nil => exact ⟨rfl, rfl⟩
  | cons b bs ih =>
    obtain ⟨hosc, hnow⟩ := todByte_clocks t b
    obtain ⟨ihosc, ihnow⟩ := ih (t.todByte b)
    exact ⟨ihosc.trans hosc, ihnow.trans hnow⟩

theorem unqualifiedEdge_clocks (p : Params) (t : Tru) :
    (Tru.unqualifiedEdge p t).osc = t.osc ∧ (Tru.unqualifiedEdge p t).now = t.now := by
  unfold Tru.unqualifiedEdge
  dsimp only
  split
  case h_3 => split <;> exact ⟨rfl, rfl⟩
  all_goals exact ⟨rfl, rfl⟩

/-- A qualified edge sets local time only as the TRU enters LOCKED. -/
theorem qualifiedEdge_clocks (p : Params) (a : Nat) (t : Tru) :
    (Tru.qualifiedEdge p a t).1.osc = t.osc
      ∧ ((Tru.qualifiedEdge p a t).1.now = t.now ∨ (t.state ≠ .locked ∧ (Tru.qualifiedEdge p a t).1.state = .locked)) := by
  have hrelock : (Tru.relock p.rate a t).1.osc = t.osc ∧ (Tru.relock p.rate a t).1.state = .locked := by
    unfold Tru.relock
    dsimp only
    split <;> exact ⟨rfl, rfl⟩
  unfold Tru.qualifiedEdge
  split
  · exact ⟨rfl, .inl rfl⟩
  · next hs =>
    split
    · exact ⟨rfl, .inr ⟨by rw [hs]; decide, rfl⟩⟩
    · exact ⟨rfl, .inl rfl⟩
  · split
    · exact ⟨rfl, .inl rfl⟩
    · dsimp only
      split <;> exact ⟨rfl, .inl rfl⟩
  all_goals
    next hs =>
    split
    · exact ⟨hrelock.1, .inr ⟨by rw [hs]; decide, hrelock.2⟩⟩
    · exact ⟨rfl, .inl rfl⟩

/-- An edge sets local time only as the TRU enters LOCKED (R23, R28). -/
theorem edge_clocks (p : Params) (t : Tru) :
    (Tru.edge p t).1.osc = t.osc
      ∧ ((Tru.edge p t).1.now = t.now ∨ (t.state ≠ .locked ∧ (Tru.edge p t).1.state = .locked)) := by
  unfold Tru.edge
  split
  · exact ⟨rfl, .inl rfl⟩
  split
  · exact qualifiedEdge_clocks p _ t
  · obtain ⟨hosc, hnow⟩ := unqualifiedEdge_clocks p t
    exact ⟨hosc, .inl hnow⟩

theorem edgeTimerExpire_clocks (p : Params) (t : Tru) :
    (Tru.edgeTimerExpire p t).osc = t.osc ∧ (Tru.edgeTimerExpire p t).now = t.now := by
  unfold Tru.edgeTimerExpire
  dsimp only
  split <;> exact ⟨rfl, rfl⟩

theorem holdoverLimits_clocks (p : Params) (t : Tru) :
    (Tru.holdoverLimits p t).osc = t.osc ∧ (Tru.holdoverLimits p t).now = t.now := by
  rw [holdoverLimits_eq]
  exact ⟨rfl, rfl⟩

theorem holdoverSecond_clocks (p : Params) (t : Tru) :
    (Tru.holdoverSecond p t).osc = t.osc ∧ (Tru.holdoverSecond p t).now = t.now := by
  unfold Tru.holdoverSecond
  split
  · exact holdoverLimits_clocks p _
  · exact ⟨rfl, rfl⟩

/-! ### Operations that keep the ranges and let nothing fall -/

/-- t is in range where s is, and neither clock nor H_low has fallen. -/
structure Kept (s t : State) : Prop where
  ranged : Ranged s → Ranged t
  now : s.tru.now ≤ t.tru.now
  osc : s.tru.osc ≤ t.tru.osc
  low : s.store.hLow ≤ t.store.hLow

theorem Kept.refl (s : State) : Kept s s := ⟨id, le_rfl, le_rfl, le_rfl⟩

theorem Kept.trans {s t u : State} (h : Kept s t) (k : Kept t u) : Kept s u :=
  ⟨k.ranged ∘ h.ranged, h.now.trans k.now, h.osc.trans k.osc, h.low.trans k.low⟩

theorem Calm.ranged {s t : State} (h : Calm s t) (hs : Ranged s) : Ranged t := by
  obtain ⟨hwf, hconf⟩ := h.ctxs hs.wfCtxs hs.confidence
  exact ⟨hwf, h.params ▸ hs.params, h.params ▸ h.window hs.params.window.2.1 hs.window, fun k => h.params ▸ hconf k,
    h.params ▸ h.tru ▸ hs.tru⟩

theorem Calm.kept {s t : State} (h : Calm s t) : Kept s t :=
  ⟨h.ranged, by rw [h.tru], by rw [h.tru], h.low⟩

/-- The TRU alone has changed, within its ranges and without its clocks. -/
theorem kept_tru {s : State} {x : Tru} (h : ParamsWithin s.params → TruWithin s.params s.tru → TruWithin s.params x)
    (hc : x.osc = s.tru.osc ∧ x.now = s.tru.now) : Kept s { s with tru := x } :=
  ⟨fun hs => { hs with tru := h hs.params hs.tru }, hc.2.ge, hc.1.ge, le_rfl⟩

theorem ranged_elapse {s : State} (h : Ranged s) (dt : Nat) : Ranged (s.elapse dt) := { h with tru := h.tru.elapse dt }

theorem kept_elapse {s : State} (h : s.tru.slewPhase < 10000) (dt : Nat) : Kept s (s.elapse dt) :=
  ⟨fun hs => ranged_elapse hs dt, now_le_elapse h dt, by
    change s.tru.osc ≤ (s.tru.elapse dt).osc
    rw [elapse_osc]
    exact Nat.le_add_right _ _, le_rfl⟩

theorem kept_takeInstant (s : State) : Kept s s.takeInstant := by
  have hnext : Kept s { s with tru := { s.tru with nextInstant := s.tru.nextInstant + 1 } } :=
    kept_tru (fun _ h => { h with }) ⟨rfl, rfl⟩
  unfold State.takeInstant
  exact hnext.trans (calm_storeInstant _ _).kept

theorem kept_takeEdgeTimer (s : State) : Kept s s.takeEdgeTimer :=
  kept_tru (fun _ h => h.edgeTimerExpire) (edgeTimerExpire_clocks _ _)

theorem kept_takeSecond (s : State) : Kept s s.takeSecond :=
  kept_tru (fun hp h => h.holdoverSecond hp.hMax) (holdoverSecond_clocks _ _)

/-- A fold of operations that keep the ranges keeps them. -/
theorem kept_foldl {α : Type} {f : State → α → State} (hf : ∀ s a, Kept s (f s a)) (l : List α) (s : State) :
    Kept s (l.foldl f s) := by
  induction l generalizing s with
  | nil => exact .refl s
  | cons a l ih => exact (hf s a).trans (ih _)

/-- A tick is a nanosecond and the time limits it reaches. -/
theorem kept_tick (s : State) : Kept (s.elapse 1) s.tick := by
  unfold State.tick
  extract_lets s1 s2 s3 s4 s5
  have h2 : Kept s1 s2 := by
    dsimp only [s2]
    split
    · exact kept_takeSecond _
    · exact .refl _
  have h3 : Kept s2 s3 := by
    dsimp only [s3]
    split
    · exact .refl _
    · split
      · exact kept_takeEdgeTimer _
      · exact .refl _
  have h4 : Kept s3 s4 := by
    dsimp only [s4]
    split
    · exact kept_takeInstant _
    · exact .refl _
  have h5 : Kept s4 s5 := (calm_foldl calm_expireIfDue _ _).kept
  refine (((h2.trans h3).trans h4).trans h5).trans (kept_foldl (fun s n => ?_) _ _)
  split
  · exact (calm_takeHoldExpiry s n).kept
  · exact .refl s

end Sys2Proof.Proofs.Ranges
end

/-! ## Directives, commands and steps within the ranges (O54, O59) -/

section
namespace Sys2Proof.Proofs.Ranges
open Sys2Proof Sys2Proof.Machine Sys2Proof.Laws Sys2Proof.Proofs.Slew
open Sys2Proof.Proofs.StreamsKept (exec_directive)

/-! ### The write of each Engine Parameter (R159) -/

/-- A change of no clock and not of H_low keeps the ranges where it does. -/
theorem kept_of_ranged {s t : State} (h : Ranged s → Ranged t) (hn : t.tru.now = s.tru.now) (ho : t.tru.osc = s.tru.osc)
    (hl : t.store.hLow = s.store.hLow) : Kept s t := ⟨h, hn.ge, ho.ge, hl.ge⟩

/-- Parameters replaced, but for those that bound the window, the confidences and HOLDOVER. -/
theorem kept_setParams {s : State} {p : Params} (h : ParamsWithin s.params → ParamsWithin p)
    (hmin : p.wMin = s.params.wMin) (hmax : p.wMax = s.params.wMax) (hc : p.cSat = s.params.cSat)
    (hh : p.hMax = s.params.hMax) (hd : p.drift = s.params.drift) : Kept s (s.setParams p) := by
  refine kept_of_ranged (fun hs => ?_) rfl rfl rfl
  obtain ⟨hctx, hparams, hwindow, hconf, htru⟩ := hs
  have hw : WindowWithin p s.window := { hwindow with lower := hmin ▸ hwindow.lower, upper := hmax ▸ hwindow.upper }
  have ht : TruWithin p s.tru := { htru with holdover := fun hs => by rw [hh, hd]; exact htru.holdover hs }
  exact ⟨hctx, h hparams, hw, fun k => hc ▸ hconf k, ht⟩

theorem kept_setCSat {s : State} {x : Nat} (hx : 1 ≤ x ∧ x ≤ 15) :
    Kept s (s.setParams { s.params with cSat := x }).clampConfidence := by
  refine kept_of_ranged (fun hs => ?_) rfl rfl rfl
  refine ⟨wf_update _ hs.wfCtxs, { hs.params with cSat := hx }, { hs.window with }, fun k => ?_, { hs.tru with }⟩
  have hget : ((s.setParams { s.params with cSat := x }).clampConfidence).ctx k =
      { s.ctx k with confidence := min (s.ctx k).confidence x } :=
    get_update (fun _ => by simp [Ctx.zero]) hs.wfCtxs k
  rw [hget]
  exact min_le_right _ _

/-- The window's limits replaced and W_q clamped into them (R112). -/
theorem kept_setLimits {s : State} {p : Params}
    (h : ParamsWithin s.params → ParamsWithin p) (hc : p.cSat = s.params.cSat)
    (hh : p.hMax = s.params.hMax) (hd : p.drift = s.params.drift) : Kept s (s.setParams p).reclampWq := by
  refine kept_of_ranged (fun hs => ?_) rfl rfl rfl
  obtain ⟨hctx, hparams, hwindow, hconf, htru⟩ := hs
  have hw := clampWq_within (h hparams).window.2.1 s.window.wq
  have ht : TruWithin p s.tru := { htru with holdover := fun hs => by rw [hh, hd]; exact htru.holdover hs }
  exact ⟨hctx, h hparams, { hwindow with lower := hw.1, upper := hw.2 }, fun k => hc ▸ hconf k, ht⟩

/-- The holdover parameters replaced and HOLDOVER judged against them (R26). -/
theorem kept_setHoldover {s : State} {p : Params} (h : ParamsWithin s.params → ParamsWithin p)
    (hmin : p.wMin = s.params.wMin) (hmax : p.wMax = s.params.wMax) (hc : p.cSat = s.params.cSat) :
    Kept s (s.setParams p).judgeHoldover := by
  obtain ⟨hosc, hnow⟩ := holdoverLimits_clocks p s.tru
  refine kept_of_ranged (fun hs => ?_) hnow hosc rfl
  obtain ⟨hctx, hparams, hwindow, hconf, htru⟩ := hs
  have hw : WindowWithin p s.window := { hwindow with lower := hmin ▸ hwindow.lower, upper := hmax ▸ hwindow.upper }
  exact ⟨hctx, h hparams, hw, fun k => hc ▸ hconf k, htru.holdoverLimits⟩

/-- A write that fails leaves the state, and one that is made keeps the ranges. -/
def WriteKept (s : State) : WriteResult → Prop
  | .fails _ => True
  | .written t _ => Kept s t

theorem writeKept_enumerated {α : Type} {s : State} {v : Option α} {k : α → WriteResult}
    (h : ∀ x, v = some x → WriteKept s (k x)) : WriteKept s (enumerated v k) := by
  cases v with
  | none => trivial
  | some x => exact h x rfl

theorem writeKept_member {s : State} {l : List Nat} {v : Nat} {k : Nat → WriteResult}
    (h : ∀ x ∈ l, WriteKept s (k x)) : WriteKept s (enumerated (memberOf l v) k) := by
  refine writeKept_enumerated fun x hx => ?_
  unfold memberOf at hx
  split at hx
  · next hv => cases hx; exact h v hv
  · cases hx

theorem writeKept_structural {s : State} {r : WriteResult} (h : WriteKept s r) : WriteKept s (s.structural r) := by
  unfold State.structural
  split
  · trivial
  · exact h

theorem writeKept_numeric {s : State} {lo hi v : Nat} {k : Nat → Bool → WriteResult}
    (h : ∀ x c, (lo ≤ hi → lo ≤ x ∧ x ≤ hi) → WriteKept s (k x c)) : WriteKept s (numeric lo hi v k) :=
  h _ _ fun hle => clampNat_within hle v

theorem writeKept_unless {s : State} {p : Prop} [Decidable p] {c : OutcomeCode} {r : WriteResult}
    (h : ¬p → WriteKept s r) : WriteKept s (if p then .fails c else r) := by
  split
  · trivial
  · next hp => exact h hp

theorem writeKept_written {s t : State} {c : Bool} (h : Kept s t) : WriteKept s (.written t c) := h

theorem writeKept_rate {s : State} {r : Nat} (hr : r ∈ rates) : WriteKept s (s.writeRate r) := by
  unfold State.writeRate
  split
  · trivial
  · refine writeKept_unless fun _ => writeKept_unless fun _ => writeKept_written ?_
    refine kept_of_ranged (fun hs => ?_) rfl rfl rfl
    exact ⟨hs.wfCtxs, { hs.params with rate := hr }, { hs.window with }, hs.confidence, { hs.tru with }⟩

theorem writeKept_param (s : State) (i v : Nat) : WriteKept s (s.writeParam i v) := by
  match i with
  | 0 =>
    rw [writeParam_rate]
    exact writeKept_member fun x hx => writeKept_rate hx
  | 1 =>
    rw [writeParam_mapSelect]
    refine writeKept_enumerated fun x _ => writeKept_structural ?_
    cases s.mapOccupied with
    | true => trivial
    | false => exact kept_setParams (p := { s.params with mapSelect := x }) (fun h => { h with }) rfl rfl rfl rfl rfl
  | 2 =>
    rw [writeParam_mgmtId]
    exact writeKept_structural (writeKept_numeric fun x _ hx =>
      kept_setParams (fun h => { h with mgmtId := (hx (by decide)).2 }) rfl rfl rfl rfl rfl)
  | 3 =>
    rw [writeParam_lead]
    exact writeKept_structural (writeKept_numeric fun x _ hx =>
      kept_setParams (fun h => { h with lead := (hx (by decide)).2 }) rfl rfl rfl rfl rfl)
  | 4 =>
    rw [writeParam_ppsEdge]
    exact writeKept_enumerated fun x _ => writeKept_structural
      (kept_setParams (fun h => { h with }) rfl rfl rfl rfl rfl)
  | 5 =>
    rw [writeParam_cSat]
    exact writeKept_numeric fun x _ hx => kept_setCSat (hx (by decide))
  | 6 =>
    rw [writeParam_cAwait]
    exact writeKept_numeric fun x _ hx =>
      kept_setParams (fun h => { h with cAwait := (hx (by decide)).2 }) rfl rfl rfl rfl rfl
  | 7 =>
    rw [writeParam_wMin]
    exact writeKept_numeric fun x _ hx => writeKept_unless fun hle => kept_setLimits
      (fun h => { h with window := ⟨(hx (by decide)).1, Nat.le_of_not_lt hle, h.window.2.2⟩ }) rfl rfl rfl
  | 8 =>
    rw [writeParam_wMax]
    exact writeKept_numeric fun x _ hx => writeKept_unless fun hle => kept_setLimits
      (fun h => { h with window := ⟨h.window.1, Nat.le_of_not_lt hle, (hx (by decide)).2⟩ }) rfl rfl rfl
  | 9 =>
    rw [writeParam_w0]
    exact writeKept_numeric fun x _ hx =>
      kept_setParams (fun h => { h with w0 := hx (by decide) }) rfl rfl rfl rfl rfl
  | 10 =>
    rw [writeParam_adaptation]
    exact writeKept_enumerated fun x _ => kept_setParams (fun h => { h with }) rfl rfl rfl rfl rfl
  | 11 =>
    rw [writeParam_theta]
    exact writeKept_member fun x hx => kept_setParams (fun h => { h with theta := hx }) rfl rfl rfl rfl rfl
  | 12 =>
    rw [writeParam_upStep]
    exact writeKept_member fun x hx => kept_setParams (fun h => { h with upStep := hx }) rfl rfl rfl rfl rfl
  | 13 =>
    rw [writeParam_downStep]
    exact writeKept_member fun x hx => kept_setParams (fun h => { h with downStep := hx }) rfl rfl rfl rfl rfl
  | 14 =>
    rw [writeParam_wq]
    refine writeKept_numeric fun x _ hx => (calm_window fun hp h => ?_).kept
    obtain ⟨hlower, hupper⟩ := hx (Nat.mul_le_mul_left 16 hp)
    exact { h with lower := hlower, upper := hupper }
  | 15 =>
    rw [writeParam_wm1]
    exact writeKept_numeric fun x _ hx => writeKept_unless fun hle => kept_setParams
      (fun h => { h with watermarks := ⟨Nat.le_of_not_lt hle, (hx (by decide)).2⟩ }) rfl rfl rfl rfl rfl
  | 16 =>
    rw [writeParam_wm2]
    exact writeKept_numeric fun x _ _ => writeKept_unless fun hle => kept_setParams
      (fun h => { h with watermarks := ⟨Nat.le_of_not_lt hle, h.watermarks.2⟩ }) rfl rfl rfl rfl rfl
  | 17 =>
    rw [writeParam_hMax]
    exact writeKept_numeric fun x _ hx =>
      kept_setHoldover (fun h => { h with hMax := (hx (by decide)).2 }) rfl rfl rfl
  | 18 =>
    rw [writeParam_drift]
    exact writeKept_numeric fun x _ hx => kept_setHoldover (fun h => { h with drift := hx (by decide) }) rfl rfl rfl
  | 19 =>
    rw [writeParam_holdLimit]
    refine writeKept_numeric fun x _ hx => writeKept_written ?_
    have hset : Kept s (s.setParams { s.params with holdLimit := x }) :=
      kept_setParams (fun h => { h with holdLimit := hx (by decide) }) rfl rfl rfl rfl rfl
    exact hset.trans (calm_holdExpireDue _).kept
  | 20 =>
    rw [writeParam_promotion]
    exact writeKept_numeric fun x _ hx =>
      kept_setParams (fun h => { h with promotion := hx (by decide) }) rfl rfl rfl rfl rfl
  | 21 =>
    rw [writeParam_highBypassMax]
    exact writeKept_numeric fun x _ hx =>
      kept_setParams (fun h => { h with highBypass := hx (by decide) }) rfl rfl rfl rfl rfl
  | _ + 22 =>
    exact writeKept_numeric (k := fun x c => .written (s.setParams { s.params with lowBypassMax := x }) c) fun x _ hx =>
      kept_setParams (fun h => { h with lowBypass := hx (by decide) }) rfl rfl rfl rfl rfl

/-! ### Transfers -/

theorem calm_setExec (s : State) (e : Execution) : Calm s (s.setExec e) := calm_mgmt s _

theorem calm_nextFree (s : State) : Calm s s.nextFree := calm_of_eq rfl rfl rfl rfl rfl

theorem calm_setWay (s : State) (i : Nat) (b : Option Binding) : Calm s (s.setWay i b) := calm_of_eq rfl rfl rfl rfl rfl

theorem calm_setProfile (s : State) (n : Nat) (x : Profile) : Calm s (s.setProfile n x) := calm_of_eq rfl rfl rfl rfl rfl

/-- One entry of any table, written or refused (R158). -/
theorem writeKept_entry (s : State) (table : Nat) (i : Int) (cls : Nat) (e : List Byte) :
    WriteKept s (s.writeEntry table i cls e) := by
  have other : ∀ {t : State}, Calm s t → Kept s t := fun h => h.kept
  match table with
  | 0 => exact writeKept_unless fun _ => writeKept_unless fun _ => writeKept_param s _ _
  | 1 =>
    change WriteKept s (s.writeMapEntry i cls)
    unfold State.writeMapEntry
    split <;> trivial
  | 2 =>
    change WriteKept s (s.writeCtxEntry i cls e)
    unfold State.writeCtxEntry
    split
    · trivial
    · exact writeKept_unless fun _ => writeKept_enumerated fun d _ => other (calm_setCtx id)
  | 3 =>
    change WriteKept s (s.writeConversionEntry i cls e)
    unfold State.writeConversionEntry
    split
    · trivial
    · exact writeKept_enumerated fun d _ => other (calm_of_eq rfl rfl rfl rfl rfl)
  | 4 =>
    change WriteKept s (s.writeProfileEntry i cls e)
    unfold State.writeProfileEntry
    split
    · trivial
    · exact writeKept_unless fun _ => writeKept_enumerated fun d _ => other (calm_setProfile s _ _)
  | 5 =>
    change WriteKept s (s.writeMemberEntry i cls e)
    unfold State.writeMemberEntry
    split
    · trivial
    · exact writeKept_unless fun _ => writeKept_unless fun _ => other (calm_of_eq rfl rfl rfl rfl rfl)
  | 6 =>
    change WriteKept s (s.writeManagerEntry i cls e)
    unfold State.writeManagerEntry
    split
    · trivial
    · exact writeKept_enumerated fun d _ => writeKept_unless fun _ => other (calm_mgmt s _)
  | _ + 7 =>
    change WriteKept s (s.writeAccessEntry i cls e)
    unfold State.writeAccessEntry
    split
    · trivial
    · exact writeKept_enumerated fun d _ => other (calm_mgmt s _)

theorem kept_writeTransfer (table cls : Nat) (step : Int) (es : List (List Byte)) (i : Int) (n : Nat) (cl : Bool)
    (s : State) : Kept s (writeTransfer table cls step es i n cl s).1 := by
  induction es generalizing i n cl s with
  | nil => exact .refl s
  | cons e es ih =>
    have he := writeKept_entry s table i cls e
    unfold writeTransfer
    split
    · exact .refl s
    · next t c hw =>
      rw [hw] at he
      exact Kept.trans he (ih _ _ _ t)

/-! ### The other directives' own work -/

theorem calm_bindWork (s : State) (k : Nat) (sid : Half) : Calm s (s.bindWork k sid).1 := by
  unfold State.bindWork
  iterate 4 (split; · exact .refl s)
  split
  · exact .refl s
  · exact (calm_setWay s _ _).trans (calm_setCtx id)

theorem calm_unbindWork (s : State) (k : Nat) : Calm s (s.unbindWork k).1 := by
  unfold State.unbindWork
  iterate 3 (split; · exact .refl s)
  dsimp only
  split
  · exact calm_setCtx id
  · exact (calm_setWay s _ _).trans (calm_setCtx id)

theorem calm_enableWork (s : State) (k : Nat) : Calm s (s.enableWork k).1 := by
  unfold State.enableWork
  iterate 4 (split; · exact .refl s)
  exact calm_setCtx fun _ => Nat.zero_le _

theorem calm_disableWork (s : State) (k : Nat) : Calm s (s.disableWork k).1 := by
  unfold State.disableWork
  iterate 2 (split; · exact .refl s)
  have hoff : Calm s (s.setCtx k { s.ctx k with enabled := false }) := calm_setCtx id
  dsimp only
  exact hoff.trans (calm_clearAwaited _ k)

theorem calm_enableProfileWork (s : State) (n : Nat) : Calm s (s.enableProfileWork n).1 := by
  unfold State.enableProfileWork
  split; · exact .refl s
  dsimp only
  iterate 5 (split; · exact .refl s)
  exact calm_setProfile s _ _

theorem calm_disableProfileWork (s : State) (n : Nat) : Calm s (s.disableProfileWork n).1 := by
  unfold State.disableProfileWork
  iterate 2 (split; · exact .refl s)
  exact (calm_setProfile s _ _).trans (calm_formBatch _ n)

theorem calm_setEngine (s : State) (e : EngineState) : Calm s (s.setEngine e) := calm_mgmt s _

theorem calm_enterDraining (s : State) : Calm s s.enterDraining := by
  unfold State.enterDraining
  exact (calm_judgeDrain _).after ((calm_offer _).after ((calm_formAllBatches _).after (calm_setEngine s _)))

theorem calm_resumeWork (s : State) : Calm s s.resumeWork.1 := by
  unfold State.resumeWork
  split
  · split
    · dsimp only
      exact calm_enterRunning s
    · exact calm_setEngine s _
  · exact .refl s

theorem calm_pauseWork (s : State) : Calm s s.pauseWork.1 := by
  unfold State.pauseWork
  split
  · dsimp only
    exact calm_enterDraining s
  · exact calm_setEngine s _
  all_goals exact .refl s

theorem calm_pauseNowWork (s : State) : Calm s s.pauseNowWork.1 := by
  unfold State.pauseNowWork
  split
  · dsimp only
    exact (calm_enterDraining _).after ((calm_closeAll _ _).after (calm_setEngine s _))
  · exact calm_setEngine s _
  all_goals exact .refl s

theorem calm_flushWork (s : State) (d : Directive) : Calm s (s.flushWork d).1 := by
  unfold State.flushWork
  iterate 2 (split; · exact .refl s)
  dsimp only
  exact (calm_mgmt _ _).after ((calm_composer _ _).after (calm_formAllBatches s))

theorem calm_statusWork (s : State) (d : Directive) : Calm s (s.statusWork d).1 := by
  unfold State.statusWork State.clearFlags
  dsimp only
  split
  · split
    · exact calm_of_eq rfl rfl rfl rfl rfl
    · exact calm_intake s _
    · exact calm_of_eq rfl rfl rfl rfl rfl
    · exact .refl s
  · exact .refl s

theorem kept_clearCounts (s : State) : Kept s s.clearCounts := by
  refine kept_of_ranged (fun hs => ?_) rfl rfl rfl
  refine ⟨wf_update _ hs.wfCtxs, hs.params, { hs.window with }, fun k => ?_, { hs.tru with }⟩
  have hget : s.clearCounts.ctx k = (s.ctx k).clearCounts := get_update (fun _ => rfl) hs.wfCtxs k
  rw [hget]
  exact hs.confidence k

/-! ### ENGINE_RESET -/

/-- t is in range where s is, no clock has fallen, and the engine has entered RESETTING. -/
structure EngineReset (s t : State) : Prop where
  ranged : Ranged s → Ranged t
  now : s.tru.now ≤ t.tru.now
  osc : s.tru.osc ≤ t.tru.osc
  before : s.mgmt.engine ≠ .resetting
  after : t.mgmt.engine = .resetting

theorem ranged_resetBlocks {s : State} (hs : Ranged s) : Ranged s.resetBlocks := by
  unfold State.resetBlocks
  refine (calm_of_aside (flushEnded_agree _).1).ranged ?_
  have hwq := clampWq_within hs.params.window.2.1 (16 * s.params.w0)
  refine ⟨wf_update _ hs.wfCtxs, hs.params, ⟨hwq.1, hwq.2, le_rfl, Nat.zero_le _, Nat.succ_pos 15, Nat.succ_pos 15⟩,
    fun k => ?_, hs.tru⟩
  have hget : ∀ k, Tbl.get Ctx.zero (Tbl.update Ctx.zero (fun _ c => c.afterReset) s.ctxs) k = (s.ctx k).afterReset :=
    get_update (fun _ => rfl) hs.wfCtxs
  exact (congrArg Ctx.confidence (hget k)).trans_le (Nat.zero_le _)

theorem engineReset_work {s : State} (d : Directive) (h : s.mgmt.engine ≠ .resetting) :
    EngineReset s (s.engineResetWork d) := by
  have htru : s.resetBlocks.tru = s.tru := by
    unfold State.resetBlocks
    exact (aside_tru (flushEnded_agree _).1).trans rfl
  refine ⟨fun hs => (calm_mgmt _ _).ranged (ranged_resetBlocks hs), ?_, ?_, h, (flushEnded_agree _).2.1⟩
  · exact (congrArg Tru.now htru).ge
  · exact (congrArg Tru.osc htru).ge

/-- A reset and then an operation in which no time passes and RESETTING is not left. -/
theorem EngineReset.calm {s t u : State} (h : EngineReset s t) (k : Calm t u) (he : u.mgmt.engine = t.mgmt.engine) :
    EngineReset s u :=
  ⟨k.ranged ∘ h.ranged, h.now.trans k.kept.now, h.osc.trans k.kept.osc, h.before, he.trans h.after⟩

/-- An operation that keeps the ranges, in an engine state other than RESETTING, and then a reset. -/
theorem EngineReset.of_kept {s t u : State} (h : Kept s t) (he : s.mgmt.engine ≠ .resetting) (k : EngineReset t u) :
    EngineReset s u :=
  ⟨k.ranged ∘ h.ranged, h.now.trans k.now, h.osc.trans k.osc, he, k.after⟩

theorem settleAndJudge_resetting {s : State} (h : s.mgmt.engine = .resetting) :
    s.settleAndJudge.mgmt.engine = s.mgmt.engine := by
  rcases settleAndJudge_engine s with he | ⟨hd, -⟩
  · exact he
  · rw [h] at hd; cases hd

theorem EngineReset.settle {s t : State} (h : EngineReset s t) : EngineReset s t.settleAndJudge :=
  h.calm (calm_settleAndJudge t) (settleAndJudge_resetting h.after)

/-! ### Directives -/

/-- A directive's own work keeps the ranges, but for ENGINE_RESET. -/
theorem kept_ownWork (s : State) (cls : Nat) {c : DirectiveCode} (hc : c ≠ .engineReset) (d : Directive) :
    Kept s (s.ownWork cls c d).1 := by
  unfold State.ownWork
  cases c with
  | readEntries => exact .refl s
  | writeEntries => exact kept_writeTransfer _ _ _ _ _ _ _ s
  | bindStream => exact (calm_bindWork s _ _).kept
  | unbindStream => exact (calm_unbindWork s _).kept
  | setStreamState =>
    dsimp only
    split
    · exact (calm_enableWork s _).kept
    · exact (calm_disableWork s _).kept
  | enableProfile => exact (calm_enableProfileWork s _).kept
  | disableProfile => exact (calm_disableProfileWork s _).kept
  | resume => exact (calm_resumeWork s).kept
  | pause => exact (calm_pauseWork s).kept
  | pauseNow => exact (calm_pauseNowWork s).kept
  | engineReset => exact absurd rfl hc
  | flushBatches => exact (calm_flushWork s d).kept
  | clearCounters => exact kept_clearCounts s
  | lockConfig => exact (calm_mgmt s _).kept
  | readStatus => exact (calm_statusWork s d).kept

/-- A directive that passes its checks in RESETTING is READ_STATUS (R154). -/
theorem checkKnown_none {s : State} {cls : Nat} {c : DirectiveCode} {d : Directive} (h : s.checkKnown cls c d = none)
    (hc : c ≠ .readStatus) : s.mgmt.engine ≠ .resetting := fun he => by
  unfold State.checkKnown at h
  split at h; · cases h
  split at h; · cases h
  split at h; · cases h
  rw [if_pos ⟨he, hc⟩] at h
  cases h

theorem directiveWork_cases (s : State) (cls : Nat) (d : Directive) :
    Kept s (s.directiveWork cls d).1 ∨ EngineReset s (s.directiveWork cls d).1 := by
  unfold State.directiveWork
  split
  · exact .inl (.refl s)
  next c _ =>
  split
  · exact .inl (.refl s)
  next hk =>
  by_cases hc : c = .engineReset
  · subst hc
    exact .inr (engineReset_work d (checkKnown_none hk (by decide)))
  · exact .inl (kept_ownWork s cls hc d)

/-- What is left of a directive's execution once its work is done: the answer, and the engine state as it stands. -/
theorem finishDirective_calm (s : State) (d : Directive) (r : Option Reply) :
    Calm s (s.finishDirective d r)
      ∧ (s.mgmt.engine = .resetting → (s.finishDirective d r).mgmt.engine = s.mgmt.engine) := by
  unfold State.finishDirective
  cases r with
  | none => exact ⟨(calm_settleAndJudge _).after ((calm_setExec s _).trans (calm_nextFree _)),
      fun h => settleAndJudge_resetting (s := (s.setExec .idle).nextFree) h⟩
  | some r =>
    have hoffer := offerAnswer_agree (s.countAnswer r) (s.formAnswer d.source d.tag (d.code.getD 0) r)
    have hengine : (((s.countAnswer r).offerAnswer
        (s.formAnswer d.source d.tag (d.code.getD 0) r)).nextFree).mgmt.engine = s.mgmt.engine := hoffer.2.1
    refine ⟨(calm_settleAndJudge _).after (calm_of_aside ?_), fun h => ?_⟩
    · rw [nextFree_aside, hoffer.1, countAnswer_aside]
    · rw [settleAndJudge_resetting (hengine.trans h), hengine]

theorem executeDirective_cases (s : State) (d : Directive) :
    Kept s (s.executeDirective d) ∨ EngineReset s (s.executeDirective d) := by
  unfold State.executeDirective
  split
  · exact .inl ((calm_mgmt s _).trans (calm_nextFree _)).kept
  · next cls _ =>
    have hexec : Kept s (s.setExec .executing) := (calm_mgmt s _).kept
    dsimp only
    obtain ⟨hcalm, hengine⟩ := finishDirective_calm
      ((s.setExec .executing).directiveWork cls d).1.settleAndJudge d ((s.setExec .executing).directiveWork cls d).2
    rcases directiveWork_cases (s.setExec .executing) cls d with h | h
    · exact .inl ((hexec.trans h).trans ((calm_settleAndJudge _).kept.trans hcalm.kept))
    · have hreset := EngineReset.of_kept hexec h.before h
      exact .inr (hreset.settle.calm hcalm (hengine hreset.settle.after))

/-- In RESETTING a placement request is discarded, and the engine state stands. -/
theorem takePlacement_resetting {s : State} (h : s.mgmt.engine = .resetting) :
    s.takePlacement.mgmt.engine = .resetting := by
  unfold State.takePlacement
  split
  · exact h
  · rw [if_pos h]; exact h

theorem runDirective_cases (s : State) (d : Directive) :
    Kept s (s.runDirective d) ∨ EngineReset s (s.runDirective d) := by
  have hplace : Kept s s.takePlacement := (calm_takePlacement s).kept
  rcases executeDirective_cases s.takePlacement d with h | h
  · exact .inl (hplace.trans h)
  · exact .inr (.of_kept hplace (fun he => h.before (takePlacement_resetting he)) h)

/-! ### Commands -/

/-- t is in range where s is, the oscillator and H_low have not fallen, and local time only as the TRU entered LOCKED. -/
structure EdgeKept (s t : State) : Prop where
  ranged : Ranged s → Ranged t
  now : s.tru.now ≤ t.tru.now ∨ (s.tru.state ≠ .locked ∧ t.tru.state = .locked)
  osc : s.tru.osc ≤ t.tru.osc
  low : s.store.hLow ≤ t.store.hLow

/-- What a command other than POWER_ON_RESET can do, with or without oscillator time passing before it: an edge may set local
time, ENGINE_RESET clears the ring, and nothing else lets a clock or H_low fall. -/
inductive Moves (edge : Prop) (s t : State) : Prop
  | still (h : Kept s t)
  | waited (dt : Nat) (h : Kept (s.elapse dt) t)
  | edged (dt : Nat) (he : edge) (h : EdgeKept (s.elapse dt) t)
  | reset (h : EngineReset s t)

theorem Moves.of_cases {edge : Prop} {s t : State} (h : Kept s t ∨ EngineReset s t) : Moves edge s t :=
  h.elim .still .reset

theorem Moves.ranged {edge : Prop} {s t : State} (h : Moves edge s t) (hs : Ranged s) : Ranged t := by
  cases h with
  | still h => exact h.ranged hs
  | waited dt h => exact h.ranged (ranged_elapse hs dt)
  | edged dt he h => exact h.ranged (ranged_elapse hs dt)
  | reset h => exact h.ranged hs

/-- An edge, with the events it raises. -/
theorem edgeKept_takeEdge (s : State) : EdgeKept s s.takeEdge := by
  obtain ⟨hosc, hnow⟩ := edge_clocks s.params s.tru
  have hedge : EdgeKept s { s with tru := (Tru.edge s.params s.tru).1 } :=
    ⟨fun hs => { hs with tru := hs.tru.edge }, hnow.imp Eq.ge id, hosc.ge, le_rfl⟩
  have hcalm : ∀ {t : State}, Calm { s with tru := (Tru.edge s.params s.tru).1 } t → EdgeKept s t := fun h =>
    ⟨h.ranged ∘ hedge.ranged, by rw [h.tru]; exact hedge.now, by rw [h.tru]; exact hedge.osc, hedge.low.trans h.low⟩
  unfold State.takeEdge
  dsimp only
  split
  · exact hedge
  · exact hcalm (calm_truLocked _)
  · exact hcalm ((calm_takeTimeStep _).trans (calm_truLocked _))

theorem kept_scrubDone (s : State) : Kept s s.scrubDone := by
  have hdone : Calm s { s with
      store := s.store.scrubbed, mgmt := { s.mgmt with engine := .paused, deferredReset := none } } :=
    calm_of_eq rfl rfl rfl rfl rfl
  refine Calm.kept ?_
  unfold State.scrubDone
  dsimp only
  split
  · exact hdone
  · exact hdone.trans (calm_of_aside (formDeferred_agree _ _ _).1)

/-- The commands that are events. -/
theorem moves_event {c : Instr} {s t : State} (hc : directiveOf c = none) (hp : ∀ pins, c ≠ .powerOnReset pins)
    (h : exec c s = .next t) : Moves (∃ after e, c = .ppsEdge after e) s t := by
  cases c with
  | powerOnReset pins => exact absurd rfl (hp pins)
  | frameArrival after link source frame => cases h; exact .waited after (calm_setLinkIn _ _ _).kept
  | frameTake => cases h; exact .still (calm_takeFrame s).kept
  | placementRequest => cases h; exact .still (calm_takePlacement s).kept
  | instantEvent => cases h; exact .waited _ (kept_takeInstant _)
  | deadlineExpiry g =>
    cases h
    split
    · exact .waited _ (calm_expire _ g).kept
    · exact .still (.refl s)
  | compositionStep => cases h; exact .still (calm_composeStep s).kept
  | holdExpiry profile =>
    cases h
    split
    · exact .still (.refl s)
    · exact .waited _ (calm_takeHoldExpiry _ _).kept
  | readyIndication after =>
    cases h
    have hready : Calm (s.elapse after) { s.elapse after with egress := (s.elapse after).egress.readyIndicated } :=
      calm_of_eq rfl rfl rfl rfl rfl
    exact .waited after (hready.trans (calm_settleAndJudge _)).kept
  | completionIndication after =>
    cases h
    have hdone : Calm (s.elapse after) { s.elapse after with egress := (s.elapse after).egress.completionIndicated } :=
      calm_of_eq rfl rfl rfl rfl rfl
    exact .waited after hdone.kept
  | todMessage after bytes =>
    cases h
    exact .waited after (kept_tru (fun _ ht => ht.todBytes bytes) (todBytes_clocks _ _))
  | ppsEdge after polarity =>
    cases h
    split
    · exact .edged after ⟨after, polarity, rfl⟩ (edgeKept_takeEdge _)
    · exact .waited after (.refl _)
  | edgeTimerExpiry =>
    cases h
    split
    · exact .still (.refl s)
    · exact .waited _ (kept_takeEdgeTimer _)
  | holdoverSecond =>
    cases h
    split
    · exact .waited _ (kept_takeSecond _)
    · exact .still (.refl s)
  | directiveTake =>
    cases h
    split
    · next f rest _ _ =>
      have hqueue : Kept s { s with mgmt := { s.mgmt with queue := rest } } := (calm_mgmt s _).kept
      refine .of_cases ((runDirective_cases _ _).imp hqueue.trans fun hr => ?_)
      exact EngineReset.of_kept hqueue hr.before hr
    · exact .still (.refl s)
  | scrubCompletion =>
    cases h
    split
    · exact .still ((kept_scrubDone s).trans (calm_settleAndJudge _).kept)
    · exact .still (.refl s)
  | writeWindowLimits r limit v => cases limit <;> cases hc
  | writeWatermark r mark v => cases mark <;> cases hc
  | writeHoldoverParameter r param v => cases param <;> cases hc
  | _ => cases hc

theorem moves_exec {c : Instr} {s t : State} (hp : ∀ pins, c ≠ .powerOnReset pins) (h : exec c s = .next t) :
    Moves (∃ after e, c = .ppsEdge after e) s t := by
  cases hc : directiveOf c with
  | none => exact moves_event hc hp h
  | some x =>
    obtain ⟨r, k, d⟩ := x
    rw [exec_directive hc] at h
    cases h
    unfold State.takeDirective
    split
    · exact .of_cases (runDirective_cases s d)
    · exact .still (.refl s)

/-! ### Steps -/

/-- A step is a tick, or a command on the queue's rest. -/
theorem step_cases {s t : State} (h : step s = .next t) :
    (s.pending = [] ∧ t = s.tick) ∨ ∃ c rest, s.pending = c :: rest ∧ exec c { s with pending := rest } = .next t := by
  unfold step at h
  split at h
  · next hq =>
    rw [Host.Outcome.next.injEq] at h
    exact .inl ⟨hq, h.symm⟩
  · next c rest hq => exact .inr ⟨c, rest, hq, h⟩

theorem ranged_reset : Ranged State.reset :=
  ⟨rfl, (inRange_iff _).1 (by unfold Params.inRange; decide),
    (windowInLimits_iff State.reset).1 ⟨by decide, by decide, by decide, by decide, by decide, by decide⟩,
    fun _ => Nat.zero_le _,
    (truInRange_iff State.reset).1
      ⟨by decide, by decide, by decide, by decide, by decide, by decide, by decide, by decide⟩⟩

theorem ranged_powerOn (pins : BitVec 4) (f : Nat) (q : List Instr) :
    Ranged { State.reset with
      params := { State.reset.params with mgmtId := 0xE000 + pins.toNat }, free := f, pending := q } := by
  have hid : 0xE000 + pins.toNat ≤ 65535 := by
    have := pins.isLt
    omega
  obtain ⟨hwf, hparams, hwindow, hconf, htru⟩ := ranged_reset
  exact ⟨hwf, { hparams with mgmtId := hid }, { hwindow with }, hconf, { htru with }⟩

theorem ranged_step {s t : State} (hs : Ranged s) (h : step s = .next t) : Ranged t := by
  rcases step_cases h with ⟨-, ht⟩ | ⟨c, rest, -, h⟩
  · exact ht ▸ (kept_tick s).ranged (ranged_elapse hs 1)
  · by_cases hp : ∀ pins, c ≠ .powerOnReset pins
    · exact (moves_exec hp h).ranged { hs with }
    · push Not at hp
      obtain ⟨pins, rfl⟩ := hp
      cases h
      exact ranged_powerOn pins _ _

/-- Settles O54: whatever a command does, it keeps the ranges. -/
theorem parametersStayInRange : Obligations.ParametersStayInRange := by
  intro s t hs hparams hwindow hconf htru h
  obtain ⟨-, hctxs, -⟩ := hs
  have ht := ranged_step
    ⟨hctxs, (inRange_iff _).1 hparams, (windowInLimits_iff s).1 hwindow, hconf, (truInRange_iff s).1 htru⟩ h
  exact ⟨(inRange_iff _).2 ht.params, (windowInLimits_iff t).2 ht.window, ht.confidence, (truInRange_iff t).2 ht.tru⟩

/-- Settles O59: only an edge that locks the TRU sets local time, and only ENGINE_RESET sets H_low back. -/
theorem timeAndLowestSlotNeverFall : Obligations.TimeAndLowestSlotNeverFall := by
  unfold Obligations.TimeAndLowestSlotNeverFall
  intro rises
  have hkept : ∀ {edge : Prop} {s t : State}, Kept s t → rises edge s t := fun h => ⟨.inl h.now, h.osc, .inl h.low⟩
  have hmoves : ∀ {edge : Prop} {s t : State}, s.tru.slewPhase < 10000 → Moves edge s t → rises edge s t := by
    intro edge s t hphase h
    cases h with
    | still h => exact hkept h
    | waited dt h => exact hkept ((kept_elapse hphase dt).trans h)
    | edged dt he h =>
      obtain ⟨-, hnow, hosc, hlow⟩ := kept_elapse hphase dt
      have hstate : (s.elapse dt).tru.state = s.tru.state := elapse_state _ _
      exact ⟨h.now.imp hnow.trans fun hl => ⟨he, hstate ▸ hl.1, hl.2⟩, hosc.trans h.osc, .inl (hlow.trans h.low)⟩
    | reset h => exact ⟨.inl h.now, h.osc, .inr ⟨h.before, h.after⟩⟩
  refine ⟨fun c s t hphase hp h => hmoves hphase (moves_exec hp h), fun s t hphase hp h => ?_⟩
  rcases step_cases h with ⟨-, ht⟩ | ⟨c, rest, hq, h⟩
  · exact ht ▸ hkept ((kept_elapse hphase 1).trans (kept_tick s))
  · rw [hq, List.head?_cons] at hp ⊢
    have hc : ∀ pins, c ≠ .powerOnReset pins := fun pins hpins => hp pins (congrArg some hpins)
    have hedge : ∀ {a : Nat} {e : PpsEdge}, c = .ppsEdge a e → some c = some (.ppsEdge a e) := congrArg some
    obtain ⟨hnow, hosc, hlow⟩ := hmoves (s := { s with pending := rest }) hphase (moves_exec hc h)
    exact ⟨hnow.imp id fun ⟨⟨a, e, he⟩, hl⟩ => ⟨⟨a, e, hedge he⟩, hl⟩, hosc, hlow⟩

end Sys2Proof.Proofs.Ranges
end

/-! ## Writes of one Engine Parameter (O2, O5) -/

section
namespace Sys2Proof.Proofs.ParamWrites
open Sys2Proof Sys2Proof.Machine Sys2Proof.Laws

/-! ### From a parameter's own tests to its command -/

section
variable {s : State} {r : Request} {cls : Nat} {c : Instr} {i : Nat} {v : Word}

/-- A command that writes parameter i completes as the parameter's own tests come out. -/
theorem completes_param (hc : exec c s = .next (s.takeDirective (paramDirective r i v))) (hi : i ≤ 22)
    (hcan : s.canRun r cls) (hp : (s.access 0).permits cls = true) :
    (∀ o, (s.setExec .executing).writeParam i v.toNat = .fails o →
      Completes s c r .writeEntries s (refusedEntry o))
    ∧ (∀ u b, (s.setExec .executing).writeParam i v.toNat = .written (u.setExec .executing) b →
      Completes s c r .writeEntries u (wrote b)) := by
  obtain ⟨hfail, hwrite⟩ := param_carried v hcan hi hp
  exact ⟨fun o h => ⟨_, hc, hfail o h⟩, fun u b h => ⟨_, hc, hwrite u b h⟩⟩

theorem structural_locked (hl : s.mgmt.lock = true) (w : WriteResult) : s.structural w = .fails .locked := by
  unfold State.structural State.structuralGuard
  rw [if_pos hl]

theorem structural_notPaused (hl : s.mgmt.lock = false) (he : s.mgmt.engine ≠ .paused) (w : WriteResult) :
    s.structural w = .fails .notPaused := by
  unfold State.structural State.structuralGuard
  rw [if_neg (by simp [hl]), if_pos he]

theorem structural_paused (hl : s.mgmt.lock = false) (he : s.mgmt.engine = .paused) (w : WriteResult) :
    s.structural w = w := by
  unfold State.structural State.structuralGuard
  rw [if_neg (by simp [hl]), if_neg (by simp [he])]

/-- A structural parameter's write whose tests after the structural ones are w (R159). -/
theorem structuralWrite_param (hc : exec c s = .next (s.takeDirective (paramDirective r i v))) (hi : i ≤ 22)
    (hcan : s.canRun r cls) (hp : (s.access 0).permits cls = true) {w : WriteResult}
    (hw : (s.setExec .executing).writeParam i v.toNat = (s.setExec .executing).structural w) :
    (∀ o, w = .fails o → StructuralWrite s c r s (refusedEntry o))
    ∧ (∀ u b, w = .written (u.setExec .executing) b → StructuralWrite s c r u (wrote b)) := by
  obtain ⟨hfail, hwrite⟩ := completes_param hc hi hcan hp
  have hlocked : s.mgmt.lock = true → Completes s c r .writeEntries s (refusedEntry .locked) := fun hl =>
    hfail _ (hw.trans (structural_locked (s := s.setExec .executing) hl w))
  have hrunning : s.mgmt.lock = false → s.mgmt.engine ≠ .paused →
      Completes s c r .writeEntries s (refusedEntry .notPaused) := fun hl he =>
    hfail _ (hw.trans (structural_notPaused (s := s.setExec .executing) hl he w))
  have hpaused : s.mgmt.lock = false → s.mgmt.engine = .paused →
      (s.setExec .executing).writeParam i v.toNat = w := fun hl he =>
    hw.trans (structural_paused (s := s.setExec .executing) hl he w)
  exact ⟨fun o ho => ⟨hlocked, hrunning, fun hl he => hfail o ((hpaused hl he).trans ho)⟩,
    fun u b hu => ⟨hlocked, hrunning, fun hl he => hwrite u b ((hpaused hl he).trans hu)⟩⟩

end

/-! ### Enumerated values -/

theorem mapSelectOf_code (f : MapSelect) : mapSelectOf (mapSelectCode f) = some f := by cases f <;> rfl

theorem mapSelectOf_none {v : Nat} (h : 4 ≤ v) : mapSelectOf v = none := by
  unfold mapSelectOf
  rw [if_neg (by omega), if_neg (by omega), if_neg (by omega), if_neg (by omega)]

theorem ppsEdgeOf_code (e : PpsEdge) : ppsEdgeOf (ppsEdgeCode e) = some e := by cases e <;> rfl

theorem ppsEdgeOf_none {v : Nat} (h : 2 ≤ v) : ppsEdgeOf v = none := by
  unfold ppsEdgeOf
  rw [if_neg (by omega), if_neg (by omega)]

theorem mapOccupied_iff (s : State) : s.mapOccupied = true ↔ ∃ i, i < 1024 ∧ (s.way i).isSome = true := by
  unfold State.mapOccupied
  simp only [List.any_eq_true, List.mem_range]

/-- A numeric value, by whether it exceeds a range that begins at 0. -/
theorem numeric_zero (hi v : Nat) (k : Nat → Bool → WriteResult) :
    numeric 0 hi v k = k (min v hi) (decide (hi < v)) := by
  unfold numeric
  rw [clampNat_zero_ne, clampNat_zero]

theorem numeric_clamp {lo hi : Nat} (h : lo ≤ hi) (v : Nat) (k : Nat → Bool → WriteResult) :
    numeric lo hi v k = k (clampNat lo hi v) (decide (v < lo ∨ hi < v)) := by
  unfold numeric
  rw [clampNat_ne v h]

/-- Settles O2: each parameter's own tests, in their order. -/
theorem structuralParameterWrites : Obligations.StructuralParameterWrites := by
  intro s r cls v hcan hp
  have hmap := completes_param (c := .writeMapSelect r v) (i := 1) (v := v) rfl (by decide) hcan hp
  have hedge := completes_param (c := .writePpsEdge r v) (i := 4) (v := v) rfl (by decide) hcan hp
  refine ⟨fun hv => hmap.1 _ ?noSelect, fun f hf => ?select, fun hv => hedge.1 _ ?noEdge,
    fun e he => ?edge, ?identifier, ?lead⟩
  case noSelect => rw [writeParam_mapSelect, mapSelectOf_none hv]; rfl
  case noEdge => rw [writeParam_ppsEdge, ppsEdgeOf_none hv]; rfl
  case select =>
    have hwrite := structuralWrite_param (c := .writeMapSelect r v) (i := 1) (v := v) rfl (by decide) hcan hp
      (w := if s.mapOccupied = true then .fails .mapNotEmpty
        else .written ({ s with params := { s.params with mapSelect := f } }.setExec .executing) false)
      (by rw [writeParam_mapSelect, hf, mapSelectOf_code]; rfl)
    refine ⟨fun ho => hwrite.1 _ (if_pos ((mapOccupied_iff s).2 ho)), fun hfree =>
      hwrite.2 _ _ (if_neg fun ho => ?_)⟩
    obtain ⟨i, hi, hsome⟩ := (mapOccupied_iff s).1 ho
    rw [hfree i hi] at hsome
    cases hsome
  case edge =>
    exact (structuralWrite_param rfl (by decide) hcan hp
      (by rw [writeParam_ppsEdge, he, ppsEdgeOf_code]; rfl)).2 _ _ rfl
  case identifier =>
    exact (structuralWrite_param rfl (by decide) hcan hp (by rw [writeParam_mgmtId, numeric_zero]; rfl)).2 _ _ rfl
  case lead =>
    exact (structuralWrite_param (i := 3) rfl (by decide) hcan hp
      (by rw [writeParam_lead, numeric_zero]; rfl)).2 _ _ rfl

/-! ### Watermarks and holdover parameters -/

/-- The state the holdover limits of R26 leave. -/
theorem holdoverLimits_state (p : Params) (t : Tru) :
    Tru.holdoverLimits p t = { t with state :=
      if t.state = .holdover ∧ (p.hMax ≤ t.elapsedHoldover ∨ 1638400 < 100 + p.drift * t.elapsedHoldover) then .freerun
      else t.state } := by
  unfold Tru.holdoverLimits uncertaintyLimit holdoverUncertainty
  split <;> rfl

/-- Parameters replaced, with HOLDOVER judged against them (R26). -/
theorem judgeHoldover_setParams (s : State) (p : Params) :
    (s.setParams p).judgeHoldover =
      { s with
        params := p
        tru := { s.tru with state :=
          if s.tru.state = .holdover
              ∧ (p.hMax ≤ s.tru.elapsedHoldover ∨ 1638400 < 100 + p.drift * s.tru.elapsedHoldover) then .freerun
          else s.tru.state } } := by
  unfold State.judgeHoldover State.setParams
  dsimp only
  rw [holdoverLimits_state]

/-- Settles O5: each watermark is tested against the other, and HOLDOVER is judged on the write. -/
theorem watermarkAndHoldoverWrites : Obligations.WatermarkAndHoldoverWrites := by
  intro s r cls v hcan hp judged p1 p2 x b
  obtain ⟨hfail1, hwrite1⟩ :=
    completes_param (c := .writeWatermark r .wm1 v) (i := 15) (v := v) rfl (by decide) hcan hp
  obtain ⟨hfail2, hwrite2⟩ :=
    completes_param (c := .writeWatermark r .wm2 v) (i := 16) (v := v) rfl (by decide) hcan hp
  obtain ⟨-, hhMax⟩ :=
    completes_param (c := .writeHoldoverParameter r .hMax v) (i := 17) (v := v) rfl (by decide) hcan hp
  obtain ⟨-, hdrift⟩ :=
    completes_param (c := .writeHoldoverParameter r .drift v) (i := 18) (v := v) rfl (by decide) hcan hp
  refine ⟨fun h => hfail1 _ ?_, fun h => hwrite1 _ _ ?_, fun h => hfail2 _ ?_, fun h => hwrite2 _ _ ?_, hhMax _ _ ?_,
    hdrift _ _ ?_⟩
  · rw [writeParam_wm1, numeric_zero]
    exact if_pos h
  · rw [writeParam_wm1, numeric_zero]
    exact if_neg (Nat.not_lt.2 h)
  · rw [writeParam_wm2, numeric_zero]
    exact if_pos h
  · rw [writeParam_wm2, numeric_zero]
    exact if_neg (Nat.not_lt.2 h)
  · rw [writeParam_hMax, numeric_zero, judgeHoldover_setParams]
    rfl
  · rw [writeParam_drift, numeric_clamp (by decide), judgeHoldover_setParams]
    rfl

end Sys2Proof.Proofs.ParamWrites
end

/-! ## PPS edges, the edge timer and HOLDOVER seconds (O13, O14, O15, O16) -/

section
namespace Sys2Proof.Proofs.Edges
open Sys2Proof Sys2Proof.Machine Sys2Proof.Laws

/-! ### What an edge is judged by (R21, R24) -/

theorem edgeQualified_iff (t : Tru) :
    t.edgeQualified = true ↔ ∃ a, t.held = some a ∧ ∀ p, t.prevEdge = some p →
      (t.qualified = 0 ∧ (t.state = .acquiring ∨ t.state = .holdover ∨ t.state = .freerun))
        ∨ (999980000 ≤ t.osc - p ∧ t.osc - p ≤ 1000020000) := by
  unfold Tru.edgeQualified
  cases t.held with
  | none => simp
  | some a =>
    cases t.prevEdge with
    | none => simp
    | some p => simp [or_assoc]

/-- Until relock the interval is waived at a count of 0. -/
theorem edgeQualified_counting {t : Tru} (h : t.state = .acquiring ∨ t.state = .holdover ∨ t.state = .freerun) :
    t.edgeQualified = true ↔ ∃ a, t.held = some a ∧ ∀ p, t.prevEdge = some p →
      t.qualified = 0 ∨ (999980000 ≤ t.osc - p ∧ t.osc - p ≤ 1000020000) := by
  rw [edgeQualified_iff]
  simp only [h, and_true]

theorem edgeQualified_locked {t : Tru} (h : t.state = .locked) :
    t.edgeQualified = true ↔ ∃ a, t.held = some a ∧ ∀ p, t.prevEdge = some p →
      999980000 ≤ t.osc - p ∧ t.osc - p ≤ 1000020000 := by
  rw [edgeQualified_iff]
  simp [h]

theorem edgeSecond_eq (t : Tru) : t.edgeSecond = (t.now + 500000000) / 1000000000 := by
  unfold Tru.edgeSecond secondNs
  split <;> omega

theorem edgeOffset_eq (t : Tru) (a : Nat) : t.edgeOffset a = (a : Int) * 1000000000 - t.now := by
  unfold Tru.edgeOffset secondNs
  omega

/-- A whole second of local time is the instant of a slot (R32). -/
theorem currentSlot_second {rate : Nat} (h : rate ∈ rates) (a : Nat) : currentSlot rate (a * secondNs) = a * rate := by
  obtain ⟨hlo, hhi⟩ := Grid.rates_bounds rate h
  rw [Grid.currentSlot_eq (by omega)]
  unfold secondNs
  have hsplit : (a * 1000000000 + 1) * rate - 1 = (a * rate) * 1000000000 + (rate - 1) := by
    have : (a * 1000000000 + 1) * rate = (a * rate) * 1000000000 + rate := by ring
    omega
  rw [hsplit]
  omega

theorem setTime_eq {rate : Nat} (h : rate ∈ rates) (a : Nat) (t : Tru) :
    Tru.setTime rate a t =
      { t with slew := 0, slewPhase := 0, now := a * 1000000000, nextInstant := a * rate + 1 } := by
  unfold Tru.setTime
  rw [currentSlot_second h]
  rfl

/-! ### An edge on the TRU -/

section
variable {p : Params} {t : Tru} {a : Nat}

theorem edge_unqualified (hs : t.state ≠ .unset) (hq : t.edgeQualified = false) :
    Tru.edge p t = ((Tru.unqualifiedEdge p t).edgeTaken, .none) := by
  unfold Tru.edge
  rw [if_neg hs, hq]

theorem edge_qualified (hs : t.state ≠ .unset) (hq : t.edgeQualified = true) (ha : t.held = some a) :
    Tru.edge p t = ((Tru.qualifiedEdge p a t).1.edgeTaken, (Tru.qualifiedEdge p a t).2) := by
  unfold Tru.edge
  rw [if_neg hs, hq, ha]

/-- Until relock an unqualified edge returns the count to 0 (R23, R27). -/
theorem unqualifiedEdge_counting (h : t.state = .acquiring ∨ t.state = .holdover ∨ t.state = .freerun) :
    Tru.unqualifiedEdge p t =
      { t with qualified := 0
               counts := { t.counts with unqualifiedEdges := satInc t.counts.unqualifiedEdges } } := by
  unfold Tru.unqualifiedEdge
  rcases h with h | h | h <;> rw [h]

/-- Until relock the first two qualified edges are counted (R23, R27). -/
theorem qualifiedEdge_counting (h : t.state = .acquiring ∨ t.state = .holdover ∨ t.state = .freerun)
    (hq : t.qualified < 2) : Tru.qualifiedEdge p a t = ({ t with qualified := t.qualified + 1 }, .none) := by
  unfold Tru.qualifiedEdge
  rcases h with h | h | h <;> rw [h] <;> exact if_neg (by omega)

theorem qualifiedEdge_firstLock (h : t.state = .acquiring) (hq : 2 ≤ t.qualified) :
    Tru.qualifiedEdge p a t = (Tru.setTime p.rate a t.lockedAgain, .locked) := by
  unfold Tru.qualifiedEdge
  rw [h]
  exact if_pos (by omega)

theorem qualifiedEdge_relock (h : t.state = .holdover ∨ t.state = .freerun) (hq : 2 ≤ t.qualified) :
    Tru.qualifiedEdge p a t = Tru.relock p.rate a t := by
  unfold Tru.qualifiedEdge
  rcases h with h | h <;> rw [h] <;> exact if_pos (by omega)

theorem qualifiedEdge_matching (h : t.state = .locked) (ha : a = t.edgeSecond) :
    Tru.qualifiedEdge p a t =
      ({ (t.setSlew (t.edgeOffset a)) with unqualifiedRun := 0, mismatchRun := 0 }, .none) := by
  unfold Tru.qualifiedEdge
  rw [h]
  exact if_pos ha

theorem qualifiedEdge_mismatching (h : t.state = .locked) (ha : a ≠ t.edgeSecond) (hrun : t.mismatchRun < 2) :
    Tru.qualifiedEdge p a t =
      ({ t with unqualifiedRun := 0, mismatchRun := t.mismatchRun + 1
                counts := { t.counts with mismatchedEdges := satInc t.counts.mismatchedEdges } }, .none) := by
  unfold Tru.qualifiedEdge
  rw [h]
  refine (if_neg ha).trans ?_
  dsimp only
  rw [if_neg (by omega)]

theorem qualifiedEdge_mismatchLost (h : t.state = .locked) (ha : a ≠ t.edgeSecond) (hrun : 2 ≤ t.mismatchRun) :
    Tru.qualifiedEdge p a t =
      (Tru.enterHoldover p.hMax
        { t with unqualifiedRun := 0, mismatchRun := t.mismatchRun + 1
                 counts := { t.counts with mismatchedEdges := satInc t.counts.mismatchedEdges } }, .none) := by
  unfold Tru.qualifiedEdge
  rw [h]
  refine (if_neg ha).trans ?_
  dsimp only
  rw [if_pos (by omega)]

theorem unqualifiedEdge_locked (h : t.state = .locked) (hrun : t.unqualifiedRun < 2) :
    Tru.unqualifiedEdge p t =
      { t with unqualifiedRun := t.unqualifiedRun + 1, mismatchRun := 0
               counts := { t.counts with unqualifiedEdges := satInc t.counts.unqualifiedEdges } } := by
  unfold Tru.unqualifiedEdge
  rw [h]
  exact if_neg (by dsimp only; omega)

theorem unqualifiedEdge_lost (h : t.state = .locked) (hrun : 2 ≤ t.unqualifiedRun) :
    Tru.unqualifiedEdge p t =
      Tru.enterHoldover p.hMax
        { t with unqualifiedRun := t.unqualifiedRun + 1, mismatchRun := 0
                 counts := { t.counts with unqualifiedEdges := satInc t.counts.unqualifiedEdges } } := by
  unfold Tru.unqualifiedEdge
  rw [h]
  exact if_pos (by dsimp only; omega)

theorem relock_slewed {rate : Nat} (h : (t.edgeOffset a).natAbs ≤ 1000000) :
    Tru.relock rate a t =
      ({ (t.lockedAgain.setSlew (t.edgeOffset a)) with
          counts := { t.counts with slewedRelocks := satInc t.counts.slewedRelocks } }, .locked) := if_pos h

theorem relock_stepped {rate : Nat} (h : 1000000 < (t.edgeOffset a).natAbs) :
    Tru.relock rate a t =
      ({ (Tru.setTime rate a t.lockedAgain) with
          counts := { t.counts with steppedRelocks := satInc t.counts.steppedRelocks
                                    timeSteps := satInc t.counts.timeSteps } }, .stepped) := if_neg (by omega)

end

/-! ### An edge on the part -/

section
variable {s : State} {after : Nat} {e : PpsEdge}

theorem exec_otherEdge (h : e ≠ s.params.ppsEdge) : exec (.ppsEdge after e) s = .next (s.elapse after) :=
  congrArg Host.Outcome.next (if_neg h)

theorem exec_activeEdge (h : e = s.params.ppsEdge) : exec (.ppsEdge after e) s = .next (s.elapse after).takeEdge :=
  congrArg Host.Outcome.next (if_pos h)

end

section
variable {s : State} {t : Tru} {a : Nat}

theorem takeEdge_unset (h : s.tru.state = .unset) : s.takeEdge = s := by
  unfold State.takeEdge Tru.edge
  rw [if_pos h]

theorem takeEdge_unqualified (hs : s.tru.state ≠ .unset) (hq : s.tru.edgeQualified = false)
    (h : Tru.unqualifiedEdge s.params s.tru = t) : s.takeEdge = { s with tru := t.edgeTaken } := by
  unfold State.takeEdge
  rw [edge_unqualified hs hq, h]

theorem takeEdge_counted (hs : s.tru.state ≠ .unset) (hq : s.tru.edgeQualified = true) (ha : s.tru.held = some a)
    (h : Tru.qualifiedEdge s.params a s.tru = (t, .none)) : s.takeEdge = { s with tru := t.edgeTaken } := by
  unfold State.takeEdge
  rw [edge_qualified hs hq ha, h]

theorem takeEdge_locked (hs : s.tru.state ≠ .unset) (hq : s.tru.edgeQualified = true) (ha : s.tru.held = some a)
    (h : Tru.qualifiedEdge s.params a s.tru = (t, .locked)) :
    s.takeEdge = ({ s with tru := t.edgeTaken } : State).truLocked := by
  unfold State.takeEdge
  rw [edge_qualified hs hq ha, h]

theorem takeEdge_stepped (hs : s.tru.state ≠ .unset) (hq : s.tru.edgeQualified = true) (ha : s.tru.held = some a)
    (h : Tru.qualifiedEdge s.params a s.tru = (t, .stepped)) :
    s.takeEdge = ({ s with tru := t.edgeTaken } : State).takeTimeStep.truLocked := by
  unfold State.takeEdge
  rw [edge_qualified hs hq ha, h]

theorem truLocked_waiting (h : s.mgmt.engine = .waitTime) : s.truLocked = s.enterRunning := if_pos h

theorem truLocked_other (h : s.mgmt.engine ≠ .waitTime) : s.truLocked = s := if_neg h

end

/-! ### Until the first lock -/

/-- Settles O13: each kind of edge in ACQUIRING, through the TRU's own transition. -/
theorem edgesUntilFirstLock : Obligations.EdgesUntilFirstLock := by
  intro s after e hrate u v
  have hstate : u.tru.state = s.tru.state := elapse_state _ _
  refine ⟨?_, fun he hacq => ?_⟩
  · rintro (hother | hunset)
    · exact exec_otherEdge hother
    · by_cases he : e = s.params.ppsEdge
      · rw [exec_activeEdge he, takeEdge_unset (hstate.trans hunset)]
      · exact exec_otherEdge he
  · have hacq' : u.tru.state = .acquiring := hstate.trans hacq
    have hset : u.tru.state ≠ .unset := by rw [hacq']; decide
    rw [exec_activeEdge he]
    refine ⟨edgeQualified_counting (.inl hacq'), fun hq => ?_, fun hq hlt => ?_, fun a hq hge ha => ?_⟩
    · rw [takeEdge_unqualified hset hq (unqualifiedEdge_counting (.inl hacq'))]
      rfl
    · obtain ⟨a, ha, -⟩ := (edgeQualified_iff u.tru).1 hq
      rw [takeEdge_counted hset hq ha (qualifiedEdge_counting (.inl hacq') hlt)]
      rfl
    · rw [takeEdge_locked hset hq ha (qualifiedEdge_firstLock hacq' hge),
        setTime_eq (rate := u.params.rate) hrate]
      exact ⟨fun hw => congrArg Host.Outcome.next (truLocked_other hw),
        fun hw => congrArg Host.Outcome.next (truLocked_waiting hw)⟩

/-- Settles O14: each kind of edge in LOCKED, through the TRU's own transition. -/
theorem edgesInLocked : Obligations.EdgesInLocked := by
  intro s after e he hlocked u v second lost c1 c2
  have hstate : u.tru.state = .locked := (elapse_state _ _).trans hlocked
  have hset : u.tru.state ≠ .unset := by rw [hstate]; decide
  have hsecond : u.tru.edgeSecond = second := edgeSecond_eq _
  rw [exec_activeEdge he]
  refine ⟨edgeQualified_locked hstate, fun a hq ha => ⟨fun hm => ?_, fun hm hlt => ?_, fun hm hge => ?_⟩,
    fun hq => ⟨fun hlt => ?_, fun hge => ?_⟩⟩
  · rw [takeEdge_counted hset hq ha (qualifiedEdge_matching hstate (hm.trans hsecond.symm)), edgeOffset_eq]
    rfl
  · rw [takeEdge_counted hset hq ha (qualifiedEdge_mismatching hstate (hsecond.symm ▸ hm) hlt)]
    rfl
  · rw [takeEdge_counted hset hq ha (qualifiedEdge_mismatchLost hstate (hsecond.symm ▸ hm) hge)]
    rfl
  · rw [takeEdge_unqualified hset hq (unqualifiedEdge_locked hstate hlt)]
    rfl
  · rw [takeEdge_unqualified hset hq (unqualifiedEdge_lost hstate hge)]
    rfl

/-- Settles O15: each kind of edge until relock, and the two relocks. -/
theorem relockBySlewOrStep : Obligations.RelockBySlewOrStep := by
  intro s after e he hrate hlost u v w
  have hstate : u.tru.state = .holdover ∨ u.tru.state = .freerun := by
    rw [show u.tru.state = s.tru.state from elapse_state _ _]
    exact hlost
  have hset : u.tru.state ≠ .unset := by rcases hstate with h | h <;> rw [h] <;> decide
  rw [exec_activeEdge he]
  refine ⟨edgeQualified_counting (.inr hstate), fun hq => ?_, fun hq hlt => ?_, fun a hq hge ha => ?_⟩
  · rw [takeEdge_unqualified hset hq (unqualifiedEdge_counting (.inr hstate))]
    rfl
  · obtain ⟨a, ha, -⟩ := (edgeQualified_iff u.tru).1 hq
    rw [takeEdge_counted hset hq ha (qualifiedEdge_counting (.inr hstate) hlt)]
    rfl
  · intro offset slewed stepped
    have hoffset : u.tru.edgeOffset a = offset := edgeOffset_eq _ _
    have hrelock := qualifiedEdge_relock (p := s.params) (a := a) hstate hge
    have hslew (h : offset.natAbs ≤ 1000000) : u.takeEdge = slewed.truLocked := by
      rw [takeEdge_locked hset hq ha (hrelock.trans (relock_slewed (by rw [hoffset]; exact h))), hoffset]
      rfl
    have hstep (h : 1000000 < offset.natAbs) : u.takeEdge = stepped.takeTimeStep.truLocked := by
      rw [takeEdge_stepped hset hq ha (hrelock.trans (relock_stepped (by rw [hoffset]; exact h))), setTime_eq hrate]
      rfl
    have hengine : stepped.takeTimeStep.mgmt.engine = s.mgmt.engine :=
      congrArg Mgmt.engine (takeTimeStep_only stepped).mgmt
    refine ⟨fun h hw => ?_, fun h hw => ?_, fun h hw => ?_, fun h hw => ?_⟩
    · rw [hslew h, truLocked_other (show slewed.mgmt.engine ≠ _ from hw)]
    · rw [hslew h, truLocked_waiting (show slewed.mgmt.engine = _ from hw)]
    · rw [hstep h, truLocked_other fun hwait => hw (hengine.symm.trans hwait)]
    · rw [hstep h, truLocked_waiting (hengine.trans hw)]

/-! ### The edge timer and the seconds of HOLDOVER -/

theorem exec_edgeTimerExpiry {s : State} {t : Nat} (h : s.tru.edgeTimer = some t) :
    exec .edgeTimerExpiry s = .next (s.elapse (t + 1500000000 - s.tru.osc)).takeEdgeTimer := by
  change Host.Outcome.next (match s.tru.edgeTimer with | none => s | some t => _) = _
  rw [h]
  rfl

theorem exec_holdoverSecond {s : State} (h : s.tru.state = .holdover) :
    exec .holdoverSecond s = .next (s.waitLocal ((s.tru.secondMark + 1) * 1000000000)).takeSecond :=
  congrArg Host.Outcome.next (if_pos h)

theorem holdoverSecond_eq {p : Params} {t : Tru} (h : t.state = .holdover) :
    Tru.holdoverSecond p t =
      { t with elapsedHoldover := t.elapsedHoldover + 1, secondMark := t.secondMark + 1
               state := if p.hMax ≤ t.elapsedHoldover + 1
                          ∨ 1638400 < 100 + p.drift * (t.elapsedHoldover + 1) then .freerun
                        else .holdover } := by
  unfold Tru.holdoverSecond
  rw [if_pos h, ParamWrites.holdoverLimits_state]
  simp only [h, true_and]

/-- What every expiry of the edge timer leaves (R22). -/
def timedOut (t : Tru) : Tru :=
  { t with prevEdge := none, edgeTimer := some t.osc
           counts := { t.counts with edgeTimeouts := satInc t.counts.edgeTimeouts } }

section
variable {p : Params} {t : Tru}

theorem edgeTimerExpire_unset (h : t.state = .unset) : Tru.edgeTimerExpire p t = timedOut t := by
  unfold Tru.edgeTimerExpire timedOut
  rw [h]

theorem edgeTimerExpire_counting (h : t.state = .acquiring ∨ t.state = .holdover ∨ t.state = .freerun) :
    Tru.edgeTimerExpire p t = { timedOut t with qualified := 0 } := by
  unfold Tru.edgeTimerExpire timedOut
  rcases h with h | h | h <;> rw [h]

theorem edgeTimerExpire_locked (h : t.state = .locked) :
    Tru.edgeTimerExpire p t = Tru.enterHoldover p.hMax (timedOut t) := by
  unfold Tru.edgeTimerExpire timedOut
  rw [h]

end

/-- Settles O16: the timer's expiry by state, and the second's limits. -/
theorem edgeTimerAndHoldoverSecond : Obligations.EdgeTimerAndHoldoverSecond := by
  intro s
  refine ⟨fun hnone => ?_, fun t hsome => ?_, fun hother => congrArg Host.Outcome.next (if_neg hother), fun hhold => ?_⟩
  · change Host.Outcome.next (match s.tru.edgeTimer with | none => s | some t => _) = _
    rw [hnone]
  · intro u v
    rw [exec_edgeTimerExpiry hsome]
    have hstate : u.tru.state = s.tru.state := elapse_state _ _
    unfold State.takeEdgeTimer
    refine ⟨fun h => ?_, fun h => ?_, fun h => ?_⟩
    · rw [edgeTimerExpire_unset (hstate.trans h)]
      rfl
    · rw [edgeTimerExpire_counting (by rw [hstate]; exact h)]
      rfl
    · rw [edgeTimerExpire_locked (hstate.trans h)]
      rfl
  · intro u n
    have hstate : u.tru.state = .holdover := (elapse_state _ _).trans hhold
    rw [exec_holdoverSecond hhold]
    unfold State.takeSecond
    rw [holdoverSecond_eq hstate]
    rfl

end Sys2Proof.Proofs.Edges
end

/-! ## Time-of-day messages, the own quality code and frame arrivals (O12, O10, O17) -/

section
namespace Sys2Proof.Proofs.TimeOfDay
open Sys2Proof Sys2Proof.Machine Sys2Proof.Laws

/-! ### The bytes of a message (R172) -/

theorem todLayoutOk_iff (m : List Byte) :
    todLayoutOk m = true ↔
      byteAt m 0 = 0xA5 ∧ (byteAt m 1 &&& 0x70) = 0 ∧ byteAt m 6 = 0 ∧ (m.map BitVec.toNat).sum % 256 = 0 := by
  unfold todLayoutOk
  simp only [Bool.and_eq_true, beq_iff_eq, decide_eq_true_eq, and_assoc]

/-- A byte is of a message: none is hunted for, one has begun, or this byte is the sync byte. -/
def Starts (t : Tru) (b : Byte) : Prop := t.todHunting = false ∨ t.todBuf ≠ [] ∨ b = 0xA5

/-- The end of a message m (R172): it is taken, or rejected with the hunt resumed at the byte after its byte 0. -/
def messageEnd (t : Tru) (m : List Byte) : Tru :=
  if todLayoutOk m then { t.takeTod m with todBuf := [], todHunting := false }
  else
    { t with todBuf := m.tail.dropWhile (fun x => x != 0xA5), todHunting := true
             counts := { t.counts with rejectedTod := satInc t.counts.rejectedTod } }

theorem todByte_starts {t : Tru} {b : Byte} (h : Starts t b) :
    t.todByte b = if (t.todBuf ++ [b]).length < 8 then { t with todBuf := t.todBuf ++ [b] }
      else messageEnd t (t.todBuf ++ [b]) := by
  unfold Tru.todByte messageEnd
  refine if_neg ?_
  rcases h with h | h | h <;> simp [h]

theorem todByte_skips {t : Tru} {b : Byte} (hh : t.todHunting = true) (hb : t.todBuf = []) (h : b ≠ 0xA5) :
    t.todByte b = t := by
  unfold Tru.todByte
  exact if_pos (by rw [hh, hb, bne_iff_ne.2 h]; rfl)

theorem todBytes_append (t : Tru) (p q : List Byte) : t.todBytes (p ++ q) = (t.todBytes p).todBytes q :=
  List.foldl_append

/-- The bytes of a message that is not whole are held. -/
theorem todBytes_held {bs : List Byte} {t : Tru} (h : Starts t (byteAt bs 0)) (hl : (t.todBuf ++ bs).length < 8) :
    t.todBytes bs = { t with todBuf := t.todBuf ++ bs } := by
  induction bs generalizing t with
  | nil => rw [List.append_nil]; rfl
  | cons b bs ih =>
    have hone : t.todByte b = { t with todBuf := t.todBuf ++ [b] } := by
      refine (todByte_starts h).trans (if_pos ?_)
      simp only [List.length_append, List.length_cons, List.length_nil] at hl ⊢
      omega
    change (t.todByte b).todBytes bs = _
    rw [hone, ih (.inr (.inl (by simp))) (by simpa using hl)]
    simp

theorem messageEnd_buf (t : Tru) (x m : List Byte) : messageEnd { t with todBuf := x } m = messageEnd t m := by
  unfold messageEnd Tru.takeTod
  dsimp only
  split
  · split
    · split <;> rfl
    · rfl
  · rfl

/-- The eighth byte ends the message. -/
theorem todBytes_whole {bs : List Byte} {t : Tru} (h : Starts t (byteAt bs 0)) (hne : bs ≠ [])
    (hl : (t.todBuf ++ bs).length = 8) : t.todBytes bs = messageEnd t (t.todBuf ++ bs) := by
  rcases List.eq_nil_or_concat bs with rfl | ⟨init, b, rfl⟩
  · exact absurd rfl hne
  · rw [List.concat_eq_append] at *
    have hinit : t.todBytes init = { t with todBuf := t.todBuf ++ init }
        ∧ Starts { t with todBuf := t.todBuf ++ init } b := by
      cases init with
      | nil =>
        rw [List.append_nil]
        exact ⟨rfl, h⟩
      | cons c rest => exact ⟨todBytes_held h (by simp at hl ⊢; omega), .inr (.inl (by simp))⟩
    rw [todBytes_append, hinit.1]
    change Tru.todByte _ b = _
    rw [todByte_starts hinit.2, messageEnd_buf]
    dsimp only
    rw [List.append_assoc, if_neg (by omega)]

/-- A hunting TRU passes over the bytes that are no sync byte. -/
theorem todBytes_skips {p : List Byte} {t : Tru} (hh : t.todHunting = true) (hb : t.todBuf = [])
    (hp : ∀ x ∈ p, x ≠ 0xA5) : t.todBytes p = t := by
  induction p with
  | nil => rfl
  | cons x p ih =>
    obtain ⟨hx, hrest⟩ := List.forall_mem_cons.1 hp
    change (t.todByte x).todBytes p = t
    rw [todByte_skips hh hb hx, ih hrest]

/-- The bytes kept of a rejected message begin at its next sync byte. -/
theorem dropWhile_sync {p q : List Byte} (hp : ∀ x ∈ p, x ≠ 0xA5) (hq : q = [] ∨ byteAt q 0 = 0xA5) :
    (p ++ q).dropWhile (fun x => x != 0xA5) = q := by
  rw [List.dropWhile_append_of_pos (fun x hx => bne_iff_ne.2 (hp x hx))]
  cases q with
  | nil => rfl
  | cons b q =>
    have hb : b = 0xA5 := hq.resolve_left (List.cons_ne_nil _ _)
    exact List.dropWhile_cons_of_neg (by simp [hb])

/-! ### A message taken (R19) -/

section
variable {t : Tru} {m : List Byte}

theorem takeTod_valid (h : (byteAt m 1).getLsbD 7 = true) (hs : t.state ≠ .unset) :
    t.takeTod m = { t with held := some (field m 2 4), clockQuality := (byteAt m 1).toNat % 16 } := by
  unfold Tru.takeTod
  rw [if_pos h, if_neg hs]

theorem takeTod_first (h : (byteAt m 1).getLsbD 7 = true) (hs : t.state = .unset) :
    t.takeTod m = { t with held := some (field m 2 4), clockQuality := (byteAt m 1).toNat % 16, state := .acquiring
                           qualified := 0, edgeTimer := some t.osc } := by
  unfold Tru.takeTod
  rw [if_pos h, if_pos hs]

theorem takeTod_stale (h : (byteAt m 1).getLsbD 7 = false) :
    t.takeTod m = { t with held := none, clockQuality := (byteAt m 1).toNat % 16 } := by
  unfold Tru.takeTod
  rw [h]
  rfl

end

/-! ### No time between two commands (log entry 3) -/

/-- What the passing of no time leaves as it is: the slew phase is that of a remainder not yet cleared. -/
def Settled (t : Tru) : Prop := t.slewPhase < 10000 ∧ (t.slew = 0 → t.slewPhase = 0)

theorem settled_elapse (t : Tru) (dt : Nat) : Settled (t.elapse dt) := by
  refine ⟨Slew.elapse_slewPhase_lt t dt, fun h => ?_⟩
  have hle := Slew.worked_le t dt
  rw [Slew.elapse_slew] at h
  rw [Slew.elapse_slewPhase]
  exact if_pos (by split at h <;> omega)

theorem elapse_zero {t : Tru} (h : Settled t) : t.elapse 0 = t := by
  obtain ⟨hlt, hphase⟩ := h
  have hworked : Slew.worked t 0 = 0 := by
    unfold Slew.worked
    omega
  have hslew : (t.elapse 0).slew = t.slew := by
    rw [Slew.elapse_slew, hworked]
    split <;> omega
  have hnow : (t.elapse 0).now = t.now := by
    rw [Slew.elapse_now, hworked]
    split <;> omega
  have hkept : (t.elapse 0).slewPhase = t.slewPhase := by
    rw [Slew.elapse_slewPhase, hworked]
    split
    · exact (hphase (by omega)).symm
    · exact Nat.mod_eq_of_lt hlt
  rw [elapse_eq, hslew, hnow, hkept]
  rfl

theorem todByte_slew (t : Tru) (b : Byte) : (t.todByte b).slew = t.slew ∧ (t.todByte b).slewPhase = t.slewPhase := by
  unfold Tru.todByte Tru.takeTod
  dsimp only
  split
  · exact ⟨rfl, rfl⟩
  · split
    · exact ⟨rfl, rfl⟩
    · split
      · split
        · split <;> exact ⟨rfl, rfl⟩
        · exact ⟨rfl, rfl⟩
      · exact ⟨rfl, rfl⟩

theorem settled_todBytes {t : Tru} (h : Settled t) (bs : List Byte) : Settled (t.todBytes bs) := by
  induction bs generalizing t with
  | nil => exact h
  | cons b bs ih =>
    obtain ⟨hslew, hphase⟩ := todByte_slew t b
    refine ih ⟨hphase ▸ h.1, fun hz => ?_⟩
    rw [hphase]
    exact h.2 (hslew ▸ hz)

/-! ### The command -/

theorem exec_todMessage (after : Nat) (bytes : List Byte) (s : State) :
    exec (.todMessage after bytes) s = .next { s.elapse after with tru := (s.tru.elapse after).todBytes bytes } := rfl

/-- A command whose bytes end a message. -/
theorem exec_todMessage_whole {s : State} {after : Nat} {bytes : List Byte} (hne : bytes ≠ [])
    (hl : (s.tru.todBuf ++ bytes).length = 8) (h : Starts s.tru (byteAt bytes 0)) :
    exec (.todMessage after bytes) s =
      .next { s.elapse after with tru := messageEnd (s.tru.elapse after) (s.tru.todBuf ++ bytes) } := by
  rw [exec_todMessage, todBytes_whole (t := s.tru.elapse after) (by simpa [Starts] using h) hne (by simpa using hl),
    elapse_todBuf]

/-- A command whose bytes leave a message that is not whole. -/
theorem exec_todMessage_held {s : State} {after : Nat} {bytes : List Byte} (h : Starts s.tru (byteAt bytes 0))
    (hl : (s.tru.todBuf ++ bytes).length < 8) :
    exec (.todMessage after bytes) s = .next { s.elapse after with
      tru := { s.tru.elapse after with todBuf := s.tru.todBuf ++ bytes } } := by
  rw [exec_todMessage, todBytes_held (t := s.tru.elapse after) (by simpa [Starts] using h) (by simpa using hl),
    elapse_todBuf]

/-- A message of right layout begins with its sync byte. -/
theorem starts_of_layout {t : Tru} {bytes : List Byte} (h : todLayoutOk (t.todBuf ++ bytes) = true) :
    Starts t (byteAt bytes 0) := by
  by_cases hb : t.todBuf = []
  · rw [hb, List.nil_append] at h
    exact .inr (.inr ((todLayoutOk_iff _).1 h).1)
  · exact .inr (.inl hb)

/-- Settles O12: the bytes one at a time, and the message they end. -/
theorem todMessageTaken : Obligations.TodMessageTaken := by
  refine ⟨todLayoutOk_iff, fun s after bytes => ?_⟩
  intro u m starts
  refine ⟨fun hne hl hok => ?taken, fun hne hl hs hbad p q hpq hp hq => ?rejected, fun hl hs => ?held,
    fun hh hb p q hpq hp => ?hunting, fun p q hpq => ⟨_, rfl, ?split⟩⟩
  case taken =>
    intro v
    have hend : messageEnd u.tru m = { u.tru.takeTod m with todBuf := [], todHunting := false } := if_pos hok
    rw [exec_todMessage_whole hne hl (starts_of_layout hok), show messageEnd (s.tru.elapse after) _ = _ from hend]
    refine ⟨fun h7 hs => ?_, fun h7 hs => ?_, fun h7 => ?_⟩
    · rw [takeTod_valid h7 hs]
    · rw [takeTod_first h7 hs]
    · rw [takeTod_stale h7]
  case rejected =>
    have hend : messageEnd u.tru m = _ := if_neg (by simp [hbad])
    rw [hpq, dropWhile_sync hp hq] at hend
    rw [exec_todMessage_whole hne hl hs, show messageEnd (s.tru.elapse after) _ = _ from hend]
  case held =>
    exact exec_todMessage_held hs hl
  case hunting =>
    have hskip : (s.tru.elapse after).todBytes bytes = (s.tru.elapse after).todBytes q := by
      rw [hpq, todBytes_append, todBytes_skips (by simpa using hh) (by simpa using hb) hp]
    refine ⟨fun hq => ?_, ?_⟩
    · rw [exec_todMessage, hskip, hq]
      rfl
    · rw [exec_todMessage, exec_todMessage, hskip]
  case split =>
    have hnone := elapse_zero (settled_todBytes (settled_elapse s.tru after) p)
    rw [exec_todMessage, exec_todMessage, hpq, todBytes_append]
    unfold State.elapse
    dsimp only
    rw [hnone]

/-! ### The own quality code (R31) -/

/-- The least code whose limit holds an uncertainty, or 15. -/
theorem qualityOf_least (u : Nat) :
    qualityOf u ≤ 15 ∧ (qualityOf u < 15 → u ≤ 100 * 2 ^ qualityOf u) ∧ ∀ p, p < qualityOf u → 100 * 2 ^ p < u := by
  unfold qualityOf
  cases hfind : (List.range 15).find? (fun q => decide (u ≤ 100 * 2 ^ q)) with
  | none =>
    rw [List.find?_range_eq_none] at hfind
    refine ⟨le_rfl, fun h => absurd h (lt_irrefl 15), fun p hp => ?_⟩
    simpa using hfind p hp
  | some q =>
    obtain ⟨hholds, hmem, hleast⟩ := List.find?_range_eq_some.1 hfind
    refine ⟨(List.mem_range.1 hmem).le, fun _ => of_decide_eq_true hholds, fun p hp => ?_⟩
    simpa using hleast p hp

theorem quality_le (t : Tru) (d : Nat) : t.quality d ≤ 15 := by
  unfold Tru.quality
  split
  · exact le_rfl
  · exact le_rfl
  · exact (qualityOf_least _).1
  · exact (qualityOf_least _).1
  · exact le_rfl

/-- Settles O10: by TRU state; the sample is taken as the slot leaves OPEN, and a code fits a byte. -/
theorem ownQualityCode : Obligations.OwnQualityCode := by
  refine ⟨fun t d => ⟨fun hstate => ?_, fun u hu => ?_⟩, fun s g c hcan hopen => ?_, fun s => ?_⟩
  · unfold Tru.quality
    rcases hstate with h | h | h <;> rw [h]
  · have hquality : t.quality d = qualityOf u := by
      unfold Tru.quality
      rcases hu with ⟨h, hu⟩ | ⟨h, hu⟩ <;> rw [h, hu]
      rfl
    rw [hquality]
    exact qualityOf_least u
  · obtain ⟨-, -, -, hring, -⟩ := hcan
    rw [slot_leaveOpen_self hring (by rw [hopen]; decide)]
    cases c <;> rfl
  · have hbyte : byteAt (s.statusRecord 1) 1 = BitVec.ofNat 8 (s.tru.quality s.params.drift) := rfl
    have hle := quality_le s.tru s.params.drift
    rw [hbyte, BitVec.toNat_ofNat]
    exact Nat.mod_eq_of_lt (by omega)

/-! ### Frames at a link (R54 to R56) -/

theorem satInc_eq_min (n : Nat) : satInc n = min (n + 1) 4294967295 := by
  unfold satInc countLimit
  split <;> omega

theorem exec_frameArrival (after : Nat) (link : Link) (source : Word) (frame : List Byte) (s : State) :
    exec (.frameArrival after link source frame) s =
      .next ((s.elapse after).setLinkIn link ((s.linkIn link).arrive { source := source, bytes := frame })) := by
  cases link <;> rfl

section
variable {l : LinkIn} {f : InFrame}

theorem arrive_oversize (h : 2048 < f.bytes.length) : l.arrive f = { l with oversize := satInc l.oversize } := if_pos h

theorem arrive_joins (h : f.bytes.length ≤ 2048) (hl : l.fifo.length < 16) :
    l.arrive f = { l with fifo := l.fifo ++ [f], received := satInc l.received } :=
  (if_neg (by omega)).trans (if_pos hl)

theorem arrive_lost (h : f.bytes.length ≤ 2048) (hl : 16 ≤ l.fifo.length) :
    l.arrive f = { l with overflow := satInc l.overflow, overflowFlag := true } :=
  (if_neg (by omega)).trans (if_neg (by omega))

end

/-- Settles O17: the three fates of a frame. -/
theorem frameArrivalAtLink : Obligations.FrameArrivalAtLink := by
  refine ⟨satInc_eq_min, fun s after link source frame => ?_⟩
  intro u l
  rw [exec_frameArrival]
  refine ⟨fun h => ?_, fun h hl => ?_, fun h hl => ?_⟩
  · rw [arrive_oversize h]
  · rw [arrive_joins h hl]
  · rw [arrive_lost h hl]

end Sys2Proof.Proofs.TimeOfDay
end

/-! ## The instant event, the step and power-on reset (O25, O51, O52) -/

section
namespace Sys2Proof.Proofs.Instants
open Sys2Proof Sys2Proof.Machine Sys2Proof.Laws

/-! ### The store's instant event by where the slot stands (R88) -/

section
variable {s : State} {g : Nat}

theorem storeInstant_below (h : g < s.store.hLow ∨ g < s.store.floor) : s.storeInstant g = s := if_pos h

/-- Within the ring the slot's state decides. -/
theorem storeInstant_within (hlow : s.store.hLow ≤ g) (hfloor : s.store.floor ≤ g) (h : g ≤ s.store.hLow + 63) :
    s.storeInstant g =
      match (s.slot g).state with
      | .free => if s.mgmt.engine = .running then s.openSlotNow g else s
      | .opened => s.evaluate g
      | .complete => s
      | .closed => s
      | .emitting => s :=
  (if_neg (by omega)).trans (if_pos (by omega))

theorem storeInstant_held (hlow : s.store.hLow ≤ g) (hfloor : s.store.floor ≤ g) (h : g ≤ s.store.hLow + 63)
    (hs : (s.slot g).state = .complete ∨ (s.slot g).state = .closed ∨ (s.slot g).state = .emitting) :
    s.storeInstant g = s := by
  rw [storeInstant_within hlow hfloor h]
  rcases hs with hs | hs | hs <;> rw [hs]

theorem storeInstant_free (hlow : s.store.hLow ≤ g) (hfloor : s.store.floor ≤ g) (h : g ≤ s.store.hLow + 63)
    (hs : (s.slot g).state = .free) :
    s.storeInstant g = if s.mgmt.engine = .running then s.openSlotNow g else s := by
  rw [storeInstant_within hlow hfloor h, hs]

theorem storeInstant_opened (hlow : s.store.hLow ≤ g) (hfloor : s.store.floor ≤ g) (h : g ≤ s.store.hLow + 63)
    (hs : (s.slot g).state = .opened) : s.storeInstant g = s.evaluate g := by
  rw [storeInstant_within hlow hfloor h, hs]

theorem storeInstant_beyond (hfloor : s.store.floor ≤ g) (h : s.store.hLow + 64 ≤ g) :
    s.storeInstant g = if s.mgmt.engine = .running then s.forceRing else s :=
  (if_neg (by omega)).trans (if_neg (by omega))

theorem forceRing_opened (h : (s.slot s.store.hLow).state = .opened) :
    s.forceRing =
      ({ s.leaveOpen s.store.hLow .forcedRing with
        store := { (s.leaveOpen s.store.hLow .forcedRing).store with ringForced := true } } : State).offer := if_pos h

theorem forceRing_other (h : (s.slot s.store.hLow).state ≠ .opened) : s.forceRing = s := if_neg h

end

/-- The instant event: local time reaches the instant, and the store takes the event for the slot (R32). -/
theorem exec_instantEvent (s : State) :
    let w := s.waitLocal (s.instant s.tru.nextInstant)
    exec .instantEvent s =
      .next (({ w with tru := { w.tru with nextInstant := s.tru.nextInstant + 1 } } : State).storeInstant
        s.tru.nextInstant) := by
  intro w
  have hnext : w.tru.nextInstant = s.tru.nextInstant := elapse_nextInstant _ _
  change Host.Outcome.next w.takeInstant = _
  unfold State.takeInstant
  rw [hnext]

/-- Settles O25: by where the next instant slot stands. -/
theorem instantEventTaken : Obligations.InstantEventTaken := by
  intro s g w u x low
  rw [exec_instantEvent]
  have hslot (h : Nat) : u.slot h = s.slot h := rfl
  refine ⟨fun h => ?below, fun hlow hfloor hring => ?within, fun hbeyond hfloor => ?beyond⟩
  case below => exact congrArg Host.Outcome.next (storeInstant_below (s := u) h)
  case within =>
    have hfree (h : x.state = .free) := storeInstant_free (s := u) hlow hfloor hring h
    have hopened (h : x.state = .opened) := storeInstant_opened (s := u) hlow hfloor hring h
    refine ⟨fun h => ?_, fun h he => ?_, fun h he => ?_, fun h hm => ?_, fun h hm hi => ?_⟩
    · exact congrArg Host.Outcome.next (storeInstant_held (s := u) hlow hfloor hring h)
    · exact congrArg Host.Outcome.next ((hfree h).trans (if_neg he))
    · exact congrArg Host.Outcome.next ((hfree h).trans (if_pos he))
    · exact congrArg Host.Outcome.next ((hopened h).trans (evaluate_stays (s := u) (.inr (.inl hm))))
    · exact congrArg Host.Outcome.next ((hopened h).trans (evaluate_open (s := u) h hm hi))
  case beyond =>
    have hforce := storeInstant_beyond (s := u) hfloor hbeyond
    refine ⟨fun h => congrArg Host.Outcome.next (hforce.trans ?_), fun he hl => ?_⟩
    · by_cases he : s.mgmt.engine = .running
      · exact (if_pos he).trans (forceRing_other (s := u) (h.resolve_left (not_not_intro he)))
      · exact if_neg he
    · exact congrArg Host.Outcome.next (hforce.trans ((if_pos he).trans (forceRing_opened (s := u) hl)))

/-! ### The tick (log entry 4) -/

theorem expireIfDue_early {s : State} {g : Nat} (h : (s.slot g).state = .opened → s.tru.now < (s.slot g).deadline) :
    s.expireIfDue g = s :=
  if_neg fun ⟨hs, hdue⟩ => absurd hdue (Nat.not_le.2 (h hs))

theorem holdDue_early {s : State} {n : Nat}
    (h : ∀ t, (s.holding n).timer = some t → s.tru.osc < t + s.params.holdLimit * 1000000) : s.holdDue n = false := by
  unfold State.holdDue
  split
  · rfl
  · next t ht => exact decide_eq_false (Nat.not_le.2 (h t ht))

/-- A tick that reaches no time limit lets one nanosecond pass. -/
theorem tick_early {s : State}
    (hsecond : s.tru.state = .holdover → (s.elapse 1).tru.now < (s.tru.secondMark + 1) * 1000000000)
    (hedge : ∀ t, s.tru.edgeTimer = some t → (s.elapse 1).tru.osc < t + 1500000000)
    (hinstant : (s.elapse 1).tru.now < s.instant s.tru.nextInstant)
    (hdeadline : ∀ g, (s.slot g).state = .opened → (s.elapse 1).tru.now < (s.slot g).deadline)
    (hhold : ∀ n t, (s.holding n).timer = some t → (s.elapse 1).tru.osc < t + s.params.holdLimit * 1000000) :
    s.tick = s.elapse 1 := by
  have hno_second : ¬((s.elapse 1).tru.state = .holdover
      ∧ ((s.elapse 1).tru.secondMark + 1) * secondNs ≤ (s.elapse 1).tru.now) := fun ⟨hs, hle⟩ =>
    absurd (hsecond ((elapse_state _ _).symm.trans hs)) (Nat.not_lt.2 ((elapse_secondMark s.tru 1) ▸ hle))
  have hpoint : (s.elapse 1).instant (s.elapse 1).tru.nextInstant = s.instant s.tru.nextInstant :=
    congrArg s.instant (elapse_nextInstant s.tru 1)
  have hno_instant : ¬(s.elapse 1).instant (s.elapse 1).tru.nextInstant ≤ (s.elapse 1).tru.now := by
    rw [hpoint]
    exact Nat.not_le.2 hinstant
  have hno_expiry : (s.elapse 1).span.foldl State.expireIfDue (s.elapse 1) = s.elapse 1 :=
    List.foldl_fixed' (fun g => expireIfDue_early (s := s.elapse 1) (hdeadline g)) _
  have hno_hold : (List.range 8).foldl (fun t n => if t.holdDue n then t.takeHoldExpiry n else t) (s.elapse 1)
      = s.elapse 1 :=
    List.foldl_fixed' (fun n => if_neg (by rw [holdDue_early (s := s.elapse 1) (hhold n)]; decide)) _
  unfold State.tick
  dsimp only
  rw [if_neg hno_second]
  cases htimer : (s.elapse 1).tru.edgeTimer with
  | none =>
    dsimp only
    rw [if_neg hno_instant, hno_expiry, hno_hold]
  | some t =>
    have hno_edge : ¬t + edgeTimeout ≤ (s.elapse 1).tru.osc :=
      Nat.not_le.2 (hedge t ((elapse_edgeTimer _ _).symm.trans htimer))
    simp only [if_neg hno_edge, if_neg hno_instant, hno_expiry, hno_hold]

/-- Settles O51: the queue's front, and a tick that reaches no time limit. -/
theorem stepRunsFrontCommand : Obligations.StepRunsFrontCommand := by
  refine ⟨fun c rest s => rfl, fun s h => ?_, fun s => tick_early⟩
  unfold step
  rw [h]

/-! ### Power-on reset -/

theorem reset_slot (g : Nat) : State.reset.slot g = Slot.empty := by
  unfold State.slot
  exact if_neg fun h => h.1 rfl

theorem canonical_reset : State.reset.canonical := ⟨rfl, rfl, rfl, rfl, rfl, rfl, rfl, rfl, rfl, rfl⟩

theorem bounded_reset : State.reset.bounded :=
  ⟨⟨Nat.zero_le _, fun _ h => (nomatch h)⟩, ⟨Nat.zero_le _, fun _ h => (nomatch h)⟩, Nat.zero_le _, Nat.zero_le _,
    fun _ h => (nomatch h)⟩

theorem mapLawful_reset : State.reset.mapLawful :=
  ⟨fun _ _ h => (nomatch h), fun _ _ _ _ h => (nomatch h), fun _ _ h => (nomatch h)⟩

theorem ringLawful_reset : State.reset.ringLawful :=
  ⟨fun _ h => absurd rfl h, fun _ _ => rfl, .inr (.inr fun _ => rfl),
    fun g h => absurd ((congrArg Slot.state (reset_slot g)).symm.trans h) (by decide), fun _ h => (nomatch h),
    fun h => (nomatch h), by rw [reset_slot]; decide, by rw [reset_slot]; decide⟩

theorem cellsConserved_reset : State.reset.cellsConserved := by
  have hnone : State.reset.store.ring.flatMap (fun e => e.2.cells) = [] := rfl
  unfold State.cellsConserved
  rw [hnone, List.append_nil, reset_freeList]

theorem awaitedEnabled_reset : State.reset.awaitedEnabled := by
  intro i k h
  have hnone : CtxSet.has (0 : CtxSet) k = true := h
  rw [Opening.has_zero] at hnone
  cases hnone

/-- Settles O52: every block's power-on state, and the laws of a state by the ranges and the empty tables. -/
theorem powerOnResetState : Obligations.PowerOnResetState := by
  obtain ⟨-, hparams, hwindow, hconf, htru⟩ := Ranges.ranged_reset
  refine ⟨fun pins s => ⟨_, rfl, rfl⟩, ?_⟩
  refine ⟨⟨rfl, rfl, rfl, rfl, rfl, rfl, rfl, rfl⟩, rfl, fun _ => rfl, fun _ => ⟨rfl, rfl, rfl, rfl, rfl, rfl⟩,
    fun _ => rfl, fun g => by rw [reset_slot]; rfl, reset_freeList, rfl, rfl, fun _ => ⟨rfl, rfl, rfl⟩, fun _ => rfl,
    fun _ => rfl, rfl, rfl, rfl, rfl, rfl, rfl, rfl, rfl, ?_⟩
  exact ⟨canonical_reset, bounded_reset, (Ranges.inRange_iff _).2 hparams, (Ranges.windowInLimits_iff State.reset).2 hwindow,
    hconf, (Ranges.truInRange_iff State.reset).2 htru, mapLawful_reset, fun _ h => (nomatch h), fun _ h => (nomatch h),
    ringLawful_reset, cellsConserved_reset, awaitedEnabled_reset⟩

end Sys2Proof.Proofs.Instants
end

/-! ## The time step's closing of the waiting slots (O27) -/

section
namespace Sys2Proof.Proofs.TimeStep
open Sys2Proof Sys2Proof.Machine Sys2Proof.Laws Sys2Proof.Proofs.StreamState

/-! ### Closing one slot (R99, R104) -/

/-- A slot record as it is closed for a cause: OPEN with the time state of s sampled, COMPLETE with its own sample kept. -/
def closedRecord (s : State) (c : Cause) (x : Slot) : Slot :=
  match x.state with
  | .opened => { x with state := .closed, cause := some c, sampled := some (s.tru.state, s.tru.quality s.params.drift) }
  | .complete => { x with state := .closed, cause := some c }
  | _ => x

/-- Whether a record is of a slot that a time step or a forced drain closes. -/
def waits (x : Slot) : Bool := decide (x.state = .opened) || decide (x.state = .complete)

/-- Whether closing a record charges context k a miss (R47). -/
def misses (k : Nat) (x : Slot) : Bool := decide (x.state = .opened) && CtxSet.has x.missing k

/-- t is s with the waiting slots of a list closed for a cause, and nothing else changed. -/
structure ClosedAlong (c : Cause) (l : List Nat) (s t : State) : Prop where
  only : t = { s with ctxs := t.ctxs
                      store := { s.store with ring := t.store.ring, closeCounts := t.store.closeCounts } }
  wfRing : Tbl.wf Slot.empty t.store.ring = true
  wfCtxs : Tbl.wf Ctx.zero t.ctxs = true
  slot : ∀ g, t.slot g = if g ∈ l then closedRecord s c (s.slot g) else s.slot g
  ctx : ∀ k, t.ctx k =
    { s.ctx k with confidence := (s.ctx k).confidence - (l.filter fun g => misses k (s.slot g)).length }
  counted : t.store.closeCounts = (fun x => x.bump c)^[(l.filter fun g => waits (s.slot g)).length] s.store.closeCounts

section
variable {c : Cause} {s t u : State} {l m : List Nat} {g : Nat}

theorem ClosedAlong.tru (h : ClosedAlong c l s t) : t.tru = s.tru := by rw [h.only]
theorem ClosedAlong.params (h : ClosedAlong c l s t) : t.params = s.params := by rw [h.only]

/-- The slots of one list and then those of another are closed along the two. -/
theorem ClosedAlong.append (h : ClosedAlong c l s t) (k : ClosedAlong c m t u) (hd : ∀ g ∈ m, g ∉ l) :
    ClosedAlong c (l ++ m) s u := by
  have hstands : ∀ g ∈ m, t.slot g = s.slot g := fun g hg => by rw [h.slot, if_neg (hd g hg)]
  have hsame (x : Slot) : closedRecord t c x = closedRecord s c x := by
    unfold closedRecord
    rw [h.tru, h.params]
  have hcount (f : Slot → Bool) : ((l ++ m).filter fun g => f (s.slot g)).length =
      (l.filter fun g => f (s.slot g)).length + (m.filter fun g => f (t.slot g)).length := by
    have hm : m.filter (fun g => f (t.slot g)) = m.filter fun g => f (s.slot g) :=
      List.filter_congr fun g hg => by rw [hstands g hg]
    rw [List.filter_append, List.length_append, hm]
  refine ⟨?_, k.wfRing, k.wfCtxs, fun g => ?_, fun j => ?_, ?_⟩
  · have hu := k.only
    rw [h.only] at hu
    exact hu
  · rw [k.slot]
    by_cases hgm : g ∈ m
    · rw [if_pos hgm, if_pos (List.mem_append_right _ hgm), hstands g hgm, hsame]
    · rw [if_neg hgm, h.slot]
      exact if_congr (by rw [List.mem_append, or_iff_left hgm]) rfl rfl
  · rw [k.ctx, h.ctx, hcount, Nat.sub_sub]
  · rw [k.counted, h.counted, hcount, Nat.add_comm, Function.iterate_add_apply]

theorem closedAlong_none (hw : Tbl.wf Slot.empty s.store.ring = true) (hc : Tbl.wf Ctx.zero s.ctxs = true)
    (hs : waits (s.slot g) = false) : ClosedAlong c [g] s s := by
  have hwaits : ¬((s.slot g).state = .opened ∨ (s.slot g).state = .complete) := by
    simpa [waits] using hs
  have hmiss (k : Nat) : misses k (s.slot g) = false := by
    unfold misses
    rw [decide_eq_false (fun h => hwaits (.inl h)), Bool.false_and]
  have hclosed : closedRecord s c (s.slot g) = s.slot g := by
    unfold closedRecord
    split
    · next h => exact absurd (.inl h) hwaits
    · next h => exact absurd (.inr h) hwaits
    · rfl
  refine ⟨rfl, hw, hc, fun j => ?_, fun k => ?_, ?_⟩
  · split
    · next hj => rw [List.mem_singleton.1 hj, hclosed]
    · rfl
  · rw [List.filter_singleton, hmiss]
    rfl
  · rw [List.filter_singleton, hs]
    rfl

theorem closedAlong_opened (hw : Tbl.wf Slot.empty s.store.ring = true) (hc : Tbl.wf Ctx.zero s.ctxs = true)
    (hs : (s.slot g).state = .opened) (hcause : c ≠ .complete ∧ c ≠ .deadline) :
    ClosedAlong c [g] s (s.leaveOpen g c) := by
  have hheld : (s.slot g).state ≠ .free := by rw [hs]; decide
  have hleave : (s.slot g).leave c (s.tru.state, s.tru.quality s.params.drift) = closedRecord s c (s.slot g) := by
    unfold closedRecord Slot.leave
    rw [hs]
    cases c <;> simp at hcause ⊢
  have hring : (s.leaveOpen g c).store.ring =
      (s.setSlot g ((s.slot g).leave c (s.tru.state, s.tru.quality s.params.drift))).store.ring := by
    rw [leaveOpen_eq]; rfl
  refine ⟨?_, leaveOpen_wf hw, ?_, fun j => ?_, fun k => ?_, ?_⟩
  · rw [leaveOpen_eq]
    unfold windowAfter
    rw [if_neg (by tauto)]
  · rw [leaveOpen_eq]
    exact wf_update _ hc
  · rw [slot_congr hring, slot_setSlot_held hw hheld (by rw [leave_g]; exact slot_g hheld) (leave_ne_free _ _ _),
      hleave]
    by_cases hj : j = g
    · rw [if_pos hj, if_pos (List.mem_singleton.2 hj), hj]
    · rw [if_neg hj, if_neg (fun h => hj (List.mem_singleton.1 h))]
  · have hctxs : (s.leaveOpen g c).ctx k = (s.chargeMisses (s.slot g).missing).ctx k := by
      rw [leaveOpen_eq]; rfl
    have hmiss : misses k (s.slot g) = CtxSet.has (s.slot g).missing k := by
      unfold misses
      rw [decide_eq_true hs, Bool.true_and]
    rw [hctxs, ctx_chargeMisses hc, List.filter_singleton, hmiss]
    cases CtxSet.has (s.slot g).missing k <;> rfl
  · have hwaits : waits (s.slot g) = true := by
      unfold waits
      rw [decide_eq_true hs, Bool.true_or]
    rw [List.filter_singleton, hwaits, leaveOpen_eq]
    rfl

theorem closedAlong_complete (hw : Tbl.wf Slot.empty s.store.ring = true) (hc : Tbl.wf Ctx.zero s.ctxs = true)
    (hs : (s.slot g).state = .complete) :
    ClosedAlong c [g] s ((s.setSlot g { s.slot g with state := .closed, cause := some c }).countClose c) := by
  have hheld : (s.slot g).state ≠ .free := by rw [hs]; decide
  refine ⟨rfl, setSlot_wf hw, hc, fun j => ?_, fun k => ?_, ?_⟩
  · have hread := slot_setSlot_held (x := { s.slot g with state := .closed, cause := some c }) hw hheld (slot_g hheld)
      nofun j
    refine Eq.trans hread ?_
    have hclosed : closedRecord s c (s.slot g) = { s.slot g with state := .closed, cause := some c } := by
      unfold closedRecord
      rw [hs]
    by_cases hj : j = g
    · rw [if_pos hj, if_pos (List.mem_singleton.2 hj), hj, hclosed]
    · rw [if_neg hj, if_neg (fun h => hj (List.mem_singleton.1 h))]
  · have hmiss : misses k (s.slot g) = false := by
      unfold misses
      rw [hs]
      rfl
    rw [List.filter_singleton, hmiss]
    rfl
  · have hwaits : waits (s.slot g) = true := by
      unfold waits
      rw [hs]
      rfl
    rw [List.filter_singleton, hwaits]
    rfl

/-- One slot is closed as it waits. -/
theorem closedAlong_closeFor (hw : Tbl.wf Slot.empty s.store.ring = true) (hc : Tbl.wf Ctx.zero s.ctxs = true)
    (hcause : c ≠ .complete ∧ c ≠ .deadline) (g : Nat) : ClosedAlong c [g] s (s.closeFor c g) := by
  have hnone (h : waits (s.slot g) = false) := closedAlong_none (c := c) hw hc h
  unfold State.closeFor
  dsimp only
  split
  · next h => exact closedAlong_opened hw hc h hcause
  · next h => exact closedAlong_complete hw hc h
  all_goals next h => exact hnone (by unfold waits; rw [h]; rfl)

theorem closedAlong_foldl (hcause : c ≠ .complete ∧ c ≠ .deadline) (hw : Tbl.wf Slot.empty s.store.ring = true)
    (hc : Tbl.wf Ctx.zero s.ctxs = true) (hd : l.Nodup) :
    ClosedAlong c l s (l.foldl (fun t g => t.closeFor c g) s) := by
  induction l generalizing s with
  | nil => exact ⟨rfl, hw, hc, fun _ => rfl, fun _ => rfl, rfl⟩
  | cons g l ih =>
    obtain ⟨hg, hl⟩ := List.nodup_cons.1 hd
    have hone := closedAlong_closeFor hw hc hcause g
    exact hone.append (ih hone.wfRing hone.wfCtxs hl) fun j hj hjg => hg (List.mem_singleton.1 hjg ▸ hj)

/-- What closing every waiting slot does. -/
theorem closedAlong_closeAll (hcause : c ≠ .complete ∧ c ≠ .deadline) (hcan : s.canonical) :
    ClosedAlong c s.span s (s.closeAll c) := by
  obtain ⟨-, hctxs, -, hring, -⟩ := hcan
  exact closedAlong_foldl hcause hring hctxs (span_nodup s)

end

/-! ### The span and the ring's records -/

/-- In a lawful ring a slot of the span reads the record at its position. -/
theorem slot_of_mem_span {s : State} (hl : s.ringLawful) {g : Nat} (hg : g ∈ s.span) :
    s.slot g = Tbl.get Slot.empty s.store.ring (g % 64) := by
  obtain ⟨hheld, hfree, -⟩ := hl
  obtain ⟨i, hi, rfl⟩ := List.mem_map.1 hg
  have hi64 := List.mem_range.1 hi
  unfold State.slot
  dsimp only
  split
  · rfl
  · next h =>
    refine (hfree _ ?_).symm
    by_contra hne
    obtain ⟨hpos, hlow, hhigh⟩ := hheld _ hne
    exact h ⟨hne, by omega⟩

/-- The span visits each position of the ring once. -/
theorem span_positions (s : State) : (s.span.map fun g => g % 64).Perm (List.range 64) := by
  have hnodup : (s.span.map fun g => g % 64).Nodup := by
    refine (List.nodup_map_iff_inj_on (span_nodup s)).2 fun a ha b hb hab => ?_
    obtain ⟨i, hi, rfl⟩ := List.mem_map.1 ha
    obtain ⟨j, hj, rfl⟩ := List.mem_map.1 hb
    have := List.mem_range.1 hi
    have := List.mem_range.1 hj
    omega
  refine (List.perm_ext_iff_of_nodup hnodup List.nodup_range).2 fun i => ?_
  rw [List.mem_range, List.mem_map]
  constructor
  · rintro ⟨g, -, rfl⟩
    exact Nat.mod_lt g (by decide)
  · intro hi
    exact ⟨s.store.hLow + (i + 64 - s.store.hLow % 64) % 64,
      List.mem_map.2 ⟨_, List.mem_range.2 (Nat.mod_lt _ (by decide)), rfl⟩, by omega⟩

/-- What is counted along the span is counted over the ring's records. -/
theorem span_count {s : State} (hl : s.ringLawful) (f : Slot → Bool) :
    (s.span.filter fun g => f (s.slot g)).length =
      ((List.range 64).filter fun i => f (Tbl.get Slot.empty s.store.ring i)).length := by
  have hrecords : s.span.filter (fun g => f (s.slot g)) =
      s.span.filter fun g => f (Tbl.get Slot.empty s.store.ring (g % 64)) :=
    List.filter_congr fun g hg => by rw [slot_of_mem_span hl hg]
  have hperm := (span_positions s).filter fun i => f (Tbl.get Slot.empty s.store.ring i)
  rw [hrecords, ← hperm.length_eq, List.filter_map, List.length_map]
  rfl

theorem span_misses {s : State} (hl : s.ringLawful) (k : Nat) :
    (s.span.filter fun g => misses k (s.slot g)).length = s.openMisses k := span_count hl (misses k)

/-- Two tests that never both hold count together what either counts. -/
theorem length_filter_or {α : Type} {p q : α → Bool} (h : ∀ x, p x = true → q x = false) (l : List α) :
    (l.filter fun x => p x || q x).length = (l.filter p).length + (l.filter q).length := by
  induction l with
  | nil => rfl
  | cons x l ih =>
    rw [List.filter_cons, List.filter_cons, List.filter_cons]
    cases hp : p x with
    | true =>
      rw [h x hp]
      simp only [Bool.true_or, if_true, List.length_cons, ih, Bool.false_eq_true, if_false]
      omega
    | false =>
      cases q x with
      | true => simp [ih, Nat.add_assoc]
      | false => simpa using ih

theorem span_waits {s : State} (hl : s.ringLawful) :
    (s.span.filter fun g => waits (s.slot g)).length = s.waitingSlots := by
  rw [span_count hl waits]
  exact length_filter_or (p := fun i => decide ((Tbl.get Slot.empty s.store.ring i).state = .opened))
    (q := fun i => decide ((Tbl.get Slot.empty s.store.ring i).state = .complete))
    (fun i h => decide_eq_false (by rw [of_decide_eq_true h]; decide)) _

/-! ### The slots closed, and slot H_low offered -/

/-- Every waiting slot of s stands closed for a cause in v, H_low maybe moved, and no slot offered yet. -/
structure Closed (c : Cause) (s v : State) : Prop where
  only : v = { s with ctxs := v.ctxs
                      store := { s.store with ring := v.store.ring, closeCounts := v.store.closeCounts
                                              hLow := v.store.hLow, floor := v.store.floor } }
  wfRing : Tbl.wf Slot.empty v.store.ring = true
  slot : ∀ g, v.slot g = closedRecord s c (s.slot g)
  ctx : ∀ k, v.ctx k = { s.ctx k with confidence := (s.ctx k).confidence - s.openMisses k }
  counted : v.store.closeCounts = (fun x => x.bump c)^[s.waitingSlots] s.store.closeCounts

theorem closed_closeAll {c : Cause} {s : State} (hcause : c ≠ .complete ∧ c ≠ .deadline) (hcan : s.canonical)
    (hl : s.ringLawful) : Closed c s (s.closeAll c) := by
  have h := closedAlong_closeAll hcause hcan
  refine ⟨?_, h.wfRing, fun g => ?_, fun k => ?_, ?_⟩
  · generalize s.closeAll c = v at h ⊢
    rw [h.only]
  · rw [h.slot]
    split
    · rfl
    · next hg =>
      have hfree : (s.slot g).state = .free := by
        by_contra hne
        exact hg (mem_span hl hne)
      unfold closedRecord
      rw [hfree]
  · rw [h.ctx, span_misses hl]
  · rw [h.counted, span_waits hl]

theorem closedRecord_free {s : State} {c : Cause} {x : Slot} :
    (closedRecord s c x).state = .free ↔ x.state = .free := by
  unfold closedRecord
  split <;> simp_all

/-- No slot is left COMPLETE, and the closed ones are those that were OPEN, COMPLETE or CLOSED. -/
theorem closedRecord_state (s : State) (c : Cause) (x : Slot) :
    (closedRecord s c x).state =
      if x.state = .opened ∨ x.state = .complete ∨ x.state = .closed then .closed else x.state := by
  unfold closedRecord
  cases h : x.state <;> simp [h]

section
variable {c : Cause} {s v : State}

/-- The slots once H_low is offered. -/
theorem Closed.slot_offer (h : Closed c s v) (g : Nat) :
    v.offer.slot g =
      if g = v.store.hLow ∧ (v.slot g).state = .closed then { v.slot g with state := .emitting } else v.slot g := by
  have hncomplete : (v.slot v.store.hLow).state ≠ .complete := by
    rw [h.slot, closedRecord_state]
    split
    · decide
    · tauto
  by_cases hlow : (v.slot v.store.hLow).state = .closed
  · have hheld : (v.slot v.store.hLow).state ≠ .free := by rw [hlow]; decide
    have hread := slot_setSlot_held (x := { v.slot v.store.hLow with state := .emitting }) h.wfRing hheld (slot_g hheld)
      nofun g
    rw [offer_some (.inr hlow)]
    refine Eq.trans hread ?_
    by_cases hg : g = v.store.hLow
    · rw [if_pos hg, if_pos ⟨hg, hg ▸ hlow⟩, hg]
    · rw [if_neg hg, if_neg (not_and_of_not_left _ hg)]
  · rw [offer_none hncomplete hlow, if_neg]
    rintro ⟨rfl, hs⟩
    exact hlow hs

theorem offer_low (s : State) : s.offer.store.hLow = s.store.hLow := by
  unfold State.offer
  dsimp only
  split <;> rfl

theorem Closed.working_offer (h : Closed c s v) :
    v.offer.composer.working =
      if (v.slot v.store.hLow).state = .closed then some { g := v.store.hLow, next := 0 } else s.composer.working := by
  have hncomplete : (v.slot v.store.hLow).state ≠ .complete := by
    rw [h.slot, closedRecord_state]
    split
    · decide
    · tauto
  split
  · next hlow => rw [offer_some (.inr hlow)]
  · next hlow => rw [offer_none hncomplete hlow, h.only]

/-- With slot H_low offered the waiting slots have the forced close. -/
theorem Closed.forcedClose (h : Closed c s v) : ForcedClose c s v.offer := by
  have hlow := offer_low v
  have hclosed {g : Nat} (hs : (v.slot g).state = .closed) :
      v.offer.slot g = { v.slot g with state := if g = v.offer.store.hLow then .emitting else .closed } := by
    rw [h.slot_offer, hlow]
    by_cases hg : g = v.store.hLow
    · rw [if_pos ⟨hg, hs⟩, if_pos hg]
    · rw [if_neg (not_and_of_not_left _ hg), if_neg hg, ← hs]
  have hstate (g : Nat) : (v.slot g).state =
      if (s.slot g).state = .opened ∨ (s.slot g).state = .complete ∨ (s.slot g).state = .closed then .closed
      else (s.slot g).state := by rw [h.slot, closedRecord_state]
  refine ⟨fun g hg => ?_, fun g hg => ?_, fun g hg => ?_, fun g hg => ?_, fun k => ?_, ?_, ?_⟩
  · rw [hclosed (by rw [hstate, if_pos (.inl hg)]), h.slot]
    unfold closedRecord
    rw [hg]
  · rw [hclosed (by rw [hstate, if_pos (.inr (.inl hg))]), h.slot]
    unfold closedRecord
    rw [hg]
  · rw [hclosed (by rw [hstate, if_pos (.inr (.inr hg))]), h.slot]
    unfold closedRecord
    rw [hg]
  · have hvg : v.slot g = s.slot g := by
      rw [h.slot]
      unfold closedRecord
      rcases hg with hg | hg <;> rw [hg]
    rw [h.slot_offer, if_neg, hvg]
    rintro ⟨-, hs⟩
    rw [hvg] at hs
    rcases hg with hg | hg <;> rw [hg] at hs <;> cases hs
  · have hctx : v.offer.ctx k = v.ctx k := by
      unfold State.offer
      dsimp only
      split <;> rfl
    rw [hctx, h.ctx]
  · have hcounts : v.offer.store.closeCounts = v.store.closeCounts := by
      unfold State.offer
      dsimp only
      split <;> rfl
    rw [hcounts, h.counted]
  · rw [h.working_offer, hlow]
    refine if_congr ?_ rfl rfl
    rw [h.slot_offer, hstate]
    cases hs : (s.slot v.store.hLow).state <;> simp [hstate, hs]

end

/-- What the offer adds to the slots closed: slot H_low's record and the slot the composer works on. -/
theorem Closed.offer_only {c : Cause} {s v : State} (h : Closed c s v) :
    v.offer = { s with
      ctxs := v.offer.ctxs
      store := { s.store with ring := v.offer.store.ring, closeCounts := v.offer.store.closeCounts
                              hLow := v.store.hLow, floor := v.store.floor }
      composer := { s.composer with working := v.offer.composer.working } } := by
  have honly := h.only
  by_cases hs : (v.slot v.store.hLow).state = .complete ∨ (v.slot v.store.hLow).state = .closed
  · rw [offer_some hs, honly]
  · obtain ⟨hcomplete, hclosed⟩ := not_or.1 hs
    rw [offer_none hcomplete hclosed, honly]

/-- Slot H_low, once offered, waits for no offer. -/
theorem Closed.offered {c : Cause} {s v : State} (h : Closed c s v) :
    (v.offer.slot v.offer.store.hLow).state ≠ .complete ∧ (v.offer.slot v.offer.store.hLow).state ≠ .closed := by
  rw [offer_low, h.slot_offer]
  by_cases hlow : (v.slot v.store.hLow).state = .closed
  · rw [if_pos ⟨rfl, hlow⟩]
    exact ⟨nofun, nofun⟩
  · rw [if_neg (not_and_of_not_right _ hlow)]
    refine ⟨?_, hlow⟩
    rw [h.slot, closedRecord_state]
    split
    · decide
    · tauto

/-! ### Where H_low advances to (R102) -/

section
variable {s : State}

theorem nextLow_eq_or_held (s : State) :
    s.nextLow = max (s.store.hLow + 1) s.store.floor ∨ (s.slot s.nextLow).state ≠ .free := by
  unfold State.nextLow
  dsimp only
  split
  · exact .inl rfl
  · next g hg =>
    rcases le_total g (max (s.store.hLow + 1) s.store.floor) with h | h
    · rw [min_eq_left h]
      exact .inr (of_decide_eq_true (List.find?_some (p := fun g => decide ((s.slot g).state ≠ .free)) hg))
    · exact .inl (min_eq_right h)

theorem nextLow_le_bare (s : State) : s.nextLow ≤ max (s.store.hLow + 1) s.store.floor := by
  unfold State.nextLow
  dsimp only
  split
  · exact le_rfl
  · exact min_le_right _ _

theorem span_pairwise (s : State) : s.span.Pairwise (· < ·) :=
  List.pairwise_map.2 (List.pairwise_lt_range.imp fun h => Nat.add_lt_add_left h _)

/-- H_low advances past no held slot. -/
theorem nextLow_le_held {g : Nat} (hg : g ∈ s.span) (hlow : s.store.hLow < g) (hs : (s.slot g).state ≠ .free) :
    s.nextLow ≤ g := by
  have hspan : s.span = s.store.hLow :: s.span.tail := rfl
  have htail : g ∈ s.span.tail := by
    rw [hspan] at hg
    exact (List.mem_cons.1 hg).resolve_left (by omega)
  have hfirst : ∃ a, s.heldAbove = some a ∧ a ≤ g := by
    cases hfind : s.heldAbove with
    | none => exact absurd (decide_eq_true hs) (List.find?_eq_none.1 hfind g htail)
    | some a =>
      refine ⟨a, rfl, ?_⟩
      obtain ⟨-, before, after, hsplit, hbefore⟩ := List.find?_eq_some_iff_append.1 hfind
      have hsorted := (span_pairwise s).tail
      rw [hsplit] at hsorted htail
      obtain ⟨-, hsorted, -⟩ := List.pairwise_append.1 hsorted
      rcases List.mem_append.1 htail with hmem | hmem
      · have := hbefore g hmem
        simp [hs] at this
      · rcases List.mem_cons.1 hmem with rfl | hmem
        · exact le_rfl
        · exact ((List.pairwise_cons.1 hsorted).1 g hmem).le
  obtain ⟨a, hfind, hle⟩ := hfirst
  unfold State.nextLow
  rw [hfind]
  exact (min_le_left _ _).trans hle

end

/-! ### The time step -/

/-- With a new floor, H_low may pass a FREE slot below it, and nothing else changes (R104). -/
theorem passFloor_setFloor (s : State) (f : Nat) :
    (s.setFloor f).passFloor =
      { s with store := { s.store with
          floor := f
          hLow := if (s.slot s.store.hLow).state = .free ∧ s.store.hLow < f then (s.setFloor f).nextLow
                  else s.store.hLow } } := by
  by_cases h : (s.slot s.store.hLow).state = .free ∧ s.store.hLow < f
  · have hpass : (s.setFloor f).passFloor = (s.setFloor f).advanceLow := if_pos h
    rw [if_pos h, hpass]
    rfl
  · have hstay : (s.setFloor f).passFloor = s.setFloor f := if_neg h
    rw [if_neg h, hstay]
    rfl

/-- Where the floor lies beyond Gnow, a catch-up opens no slot. -/
theorem catchUp_beyond {s : State} (hfloor : s.gnow < s.store.floor)
    (hs : (s.slot s.store.hLow).state ≠ .complete) (hc : (s.slot s.store.hLow).state ≠ .closed) : s.catchUp = s := by
  have hnone (g : Nat) : s.catchesUp g = false := by
    unfold State.catchesUp
    by_cases hg : s.store.floor ≤ g
    · rw [decide_eq_false (show ¬g ≤ s.gnow by omega), Bool.and_false, Bool.false_and]
    · rw [decide_eq_false hg, Bool.false_and, Bool.false_and]
  have hfold : s.span.foldl (fun t g => if t.catchesUp g then t.openSlotNow g else t) s = s :=
    List.foldl_fixed' (fun g => if_neg (by rw [hnone]; decide)) _
  unfold State.catchUp
  split
  · rw [hfold, offer_none hs hc]
  · rfl

theorem Closed.passFloor {c : Cause} {s v : State} (h : Closed c s v) (f : Nat) :
    Closed c s (v.setFloor f).passFloor := by
  have honly := h.only
  rw [passFloor_setFloor]
  exact ⟨by rw [honly], h.wfRing, h.slot, h.ctx, h.counted⟩

/-- The time step closes the waiting slots, sets the floor, passes it and offers slot H_low; its catch-up finds no slot at
or above the floor. -/
theorem takeTimeStep_eq {s v : State} (h : Closed .timeStep s v) (hv : s.closeAll .timeStep = v) :
    s.takeTimeStep = (v.setFloor (s.gnow + 1)).passFloor.offer := by
  have hstepped := h.passFloor (s.gnow + 1)
  have hfloor : (v.setFloor (s.gnow + 1)).passFloor.store.floor = s.gnow + 1 := by rw [passFloor_setFloor]
  unfold State.takeTimeStep
  rw [hv]
  generalize (v.setFloor (s.gnow + 1)).passFloor = w at hstepped hfloor ⊢
  obtain ⟨hcomplete, hclosed⟩ := hstepped.offered
  refine catchUp_beyond ?_ hcomplete hclosed
  have hgnow : w.offer.gnow = s.gnow := by
    unfold State.gnow
    rw [hstepped.offer_only]
  have hlater : w.offer.store.floor = w.store.floor := by rw [hstepped.offer_only]
  omega

/-- Past a FREE slot below the floor, H_low advances to the floor or to the least held slot before it. -/
theorem Closed.nextLow_setFloor {c : Cause} {s v : State} {f : Nat} (h : Closed c s v) (hl : s.ringLawful)
    (hvlow : v.store.hLow = s.store.hLow) (hbelow : s.store.hLow < f) :
    s.store.hLow < (v.setFloor f).nextLow ∧ (v.setFloor f).nextLow ≤ f
      ∧ (∀ g, s.store.hLow < g → (s.slot g).state ≠ .free → (v.setFloor f).nextLow ≤ g)
      ∧ ((v.setFloor f).nextLow = f ∨ (s.slot (v.setFloor f).nextLow).state ≠ .free) := by
  have hheld (g : Nat) : ((v.setFloor f).slot g).state ≠ .free ↔ (s.slot g).state ≠ .free := by
    have hslot : (v.setFloor f).slot g = v.slot g := rfl
    rw [hslot, h.slot, Ne, closedRecord_free]
  have hlow : (v.setFloor f).store.hLow = s.store.hLow := hvlow
  have hbare : max ((v.setFloor f).store.hLow + 1) (v.setFloor f).store.floor = f := by
    rw [hlow]
    exact max_eq_right hbelow
  refine ⟨hlow ▸ Ranges.low_lt_nextLow (v.setFloor f), (nextLow_le_bare (v.setFloor f)).trans_eq hbare,
    fun g hg hs => ?_, ?_⟩
  · have hspan : (v.setFloor f).span = s.span := by
      unfold State.span
      rw [hlow]
    exact nextLow_le_held (by rw [hspan]; exact mem_span hl hs) (by rw [hlow]; exact hg) ((hheld g).2 hs)
  · rw [← hheld]
    exact (nextLow_eq_or_held (v.setFloor f)).imp_left fun h => h.trans hbare

/-- Settles O27: the waiting slots closed along the span, then the floor, the pass and the offer. -/
theorem timeStepClosesSlots : Obligations.TimeStepClosesSlots := by
  intro s hcan hl t
  have hclosed := closed_closeAll (c := .timeStep) ⟨by decide, by decide⟩ hcan hl
  have hvlow : (s.closeAll .timeStep).store.hLow = s.store.hLow := by
    rw [(closedAlong_closeAll (c := .timeStep) ⟨by decide, by decide⟩ hcan).only]
  have ht : t = _ := takeTimeStep_eq hclosed rfl
  clear_value t
  generalize s.closeAll .timeStep = v at hclosed hvlow ht
  have hstepped := hclosed.passFloor (s.gnow + 1)
  have hfloor : (v.setFloor (s.gnow + 1)).passFloor.store.floor = s.gnow + 1 := by rw [passFloor_setFloor]
  have hlow : t.store.hLow = if (s.slot s.store.hLow).state = .free ∧ s.store.hLow < s.gnow + 1
      then (v.setFloor (s.gnow + 1)).nextLow else s.store.hLow := by
    have hfree : (v.slot v.store.hLow).state = .free ↔ (s.slot s.store.hLow).state = .free := by
      rw [hclosed.slot, closedRecord_free, hvlow]
    rw [ht, offer_low, passFloor_setFloor]
    exact if_congr (by rw [hfree, hvlow]) rfl hvlow
  have honly := hstepped.offer_only
  rw [hfloor, ← offer_low, ← ht] at honly
  have hstore : t.store = { s.store with ring := t.store.ring, hLow := t.store.hLow, closeCounts := t.store.closeCounts
                                         floor := s.gnow + 1 } := congrArg State.store honly
  refine ⟨honly.trans (by rw [← hstore]), hstore, ht ▸ hstepped.forcedClose, fun h => ?_, fun hbelow hs => ?_⟩
  · rw [hlow, if_neg]
    rintro ⟨hs, hlt⟩
    exact h.elim (fun h => absurd hlt (Nat.not_lt.2 h)) (fun h => h hs)
  · rw [if_pos ⟨hs, hbelow⟩] at hlow
    rw [hlow]
    exact hclosed.nextLow_setFloor hl hvlow hbelow

end Sys2Proof.Proofs.TimeStep
end

/-! ## Records laid out part by part (11.7) -/

section
namespace Sys2Proof.Proofs.Records
open Sys2Proof Sys2Proof.Machine Sys2Proof.Laws

/-! ### A record's parts and the part at an offset -/

/-- A part of a record: its length in bytes and its bytes. -/
abbrev Part := Nat × List Byte

/-- A number as a part of k bytes. -/
def num (k v : Nat) : Part := (k, beBytes k v)

/-- The record that parts make. -/
def layout (ps : List Part) : List Byte := ps.flatMap Prod.snd

/-- Every part has as many bytes as it says. -/
def Sized (ps : List Part) : Prop := ∀ p ∈ ps, p.2.length = p.1

/-- The part that begins at an offset. -/
def partAt : List Part → Nat → Option Part
  | [], _ => none
  | p :: ps, off => if off = 0 then some p else if off < p.1 then none else partAt ps (off - p.1)

@[simp] theorem num_fst (k v : Nat) : (num k v).1 = k := rfl

theorem sized_nil : Sized [] := fun _ h => (nomatch h)

theorem sized_cons {p : Part} {ps : List Part} : Sized (p :: ps) ↔ p.2.length = p.1 ∧ Sized ps := List.forall_mem_cons

theorem sized_append {ps qs : List Part} : Sized (ps ++ qs) ↔ Sized ps ∧ Sized qs := List.forall_mem_append

theorem sized_map {α : Type} {f : α → Part} (h : ∀ a, (f a).2.length = (f a).1) (l : List α) : Sized (l.map f) := by
  intro p hp
  obtain ⟨a, -, rfl⟩ := List.mem_map.1 hp
  exact h a

theorem num_length (k v : Nat) : (num k v).2.length = (num k v).1 := beBytes_length k v

theorem layout_append (ps qs : List Part) : layout (ps ++ qs) = layout ps ++ layout qs := List.flatMap_append

theorem layout_length {ps : List Part} (h : Sized ps) : (layout ps).length = (ps.map Prod.fst).sum := by
  induction ps with
  | nil => rfl
  | cons p ps ih =>
    obtain ⟨hp, hps⟩ := sized_cons.1 h
    rw [List.map_cons, List.sum_cons, ← ih hps, ← hp]
    exact List.length_append

/-- From a part's offset on the record holds the part's bytes. -/
theorem drop_layout {ps : List Part} (h : Sized ps) {off : Nat} {p : Part} (hp : partAt ps off = some p) :
    (∃ rest, (layout ps).drop off = p.2 ++ rest) ∧ p.2.length = p.1 := by
  induction ps generalizing off with
  | nil => cases hp
  | cons q ps ih =>
    obtain ⟨hq, hps⟩ := sized_cons.1 h
    unfold partAt at hp
    split at hp
    · next hoff =>
      cases hp
      exact ⟨⟨layout ps, by rw [hoff]; rfl⟩, hq⟩
    · split at hp
      · cases hp
      · next hlt =>
        obtain ⟨⟨rest, hrest⟩, hlen⟩ := ih hps hp
        refine ⟨⟨rest, ?_⟩, hlen⟩
        have hdrop : (layout (q :: ps)).drop off = (layout ps).drop (off - q.1) := by
          have happ : layout (q :: ps) = q.2 ++ layout ps := rfl
          rw [happ, List.drop_append, List.drop_of_length_le (by omega), hq]
          rfl
        rw [hdrop, hrest]

section
variable {ps : List Part} {off : Nat} {p : Part}

/-- A field within a part is the part's field. -/
theorem field_layout (h : Sized ps) (hp : partAt ps off = some p) {i len : Nat} (hi : i + len ≤ p.1) :
    field (layout ps) (off + i) len = field p.2 i len := by
  obtain ⟨⟨rest, hrest⟩, hlen⟩ := drop_layout h hp
  unfold field
  rw [← List.drop_drop, hrest, List.drop_append_of_le_length (by omega),
    List.take_append_of_le_length (by rw [List.length_drop]; omega)]

/-- A byte within a part is the part's byte. -/
theorem byteAt_layout (h : Sized ps) (hp : partAt ps off = some p) {i : Nat} (hi : i < p.1) :
    byteAt (layout ps) (off + i) = byteAt p.2 i := by
  obtain ⟨⟨rest, hrest⟩, hlen⟩ := drop_layout h hp
  have hget : (layout ps)[off + i]? = p.2[i]? := by
    rw [← List.getElem?_drop, hrest, List.getElem?_append_left (by omega)]
  unfold byteAt
  rw [List.getD_eq_getElem?_getD, List.getD_eq_getElem?_getD, hget]

theorem field_num (k v : Nat) : field (num k v).2 0 k = v % 256 ^ k := by
  unfold field num
  rw [List.drop_zero, List.take_of_length_le (by rw [beBytes_length]), beNat_beBytes]

/-- A part that is a number is read as it. -/
theorem field_layout_num (h : Sized ps) {k v : Nat} (hp : partAt ps off = some (num k v)) :
    field (layout ps) off k = v % 256 ^ k := by
  have hfield := field_layout h hp (i := 0) (len := k) (by rw [Nat.zero_add]; rfl)
  rw [Nat.add_zero] at hfield
  rw [hfield, field_num]

end

/-! ### Fields of a record -/

theorem partAt_append {ps qs : List Part} {off : Nat} {p : Part} (h : partAt ps off = some p) :
    partAt (ps ++ qs) off = some p := by
  induction ps generalizing off with
  | nil => cases h
  | cons q ps ih =>
    rw [List.cons_append]
    unfold partAt at h ⊢
    split
    · next hoff => rwa [if_pos hoff] at h
    · next hoff =>
      rw [if_neg hoff] at h
      split
      · next hlt => rwa [if_pos hlt] at h
      · next hlt =>
        rw [if_neg hlt] at h
        exact ih h

/-- A run of counts holds each at its place. -/
theorem partAt_counts (cs : List Nat) {i : Nat} (hi : i < cs.length) :
    partAt (cs.map (num 4)) (4 * i) = some (num 4 (cs.getD i 0)) := by
  induction cs generalizing i with
  | nil => cases hi
  | cons c cs ih =>
    rw [List.map_cons]
    unfold partAt
    cases i with
    | zero => rfl
    | succ i =>
      have hsize : (num 4 c).1 = 4 := rfl
      rw [if_neg (by omega), hsize, if_neg (by omega), show 4 * (i + 1) - 4 = 4 * i by omega]
      exact ih (Nat.lt_of_succ_lt_succ hi)

theorem sized_counts (cs : List Nat) : Sized (cs.map (num 4)) := sized_map (num_length 4) cs

/-- A record is the parts of its head and then a run of counts (11.7). -/
structure Record (bs : List Byte) (head : List Part) (cs : List Nat) : Prop where
  eq : bs = layout (head ++ cs.map (num 4))
  sized : Sized head

section
variable {bs : List Byte} {head : List Part} {cs : List Nat} {off : Nat} {p : Part}

theorem Record.sized_all (h : Record bs head cs) : Sized (head ++ cs.map (num 4)) :=
  sized_append.2 ⟨h.sized, sized_counts cs⟩

theorem Record.length (h : Record bs head cs) : bs.length = (head.map Prod.fst).sum + 4 * cs.length := by
  have hcounts : ((cs.map (num 4)).map Prod.fst).sum = 4 * cs.length := by
    clear h
    induction cs with
    | nil => rfl
    | cons c cs ih =>
      rw [List.map_cons, List.map_cons, List.sum_cons, ih, List.length_cons]
      change 4 + 4 * cs.length = _
      omega
  rw [h.eq, layout_length h.sized_all, List.map_append, List.sum_append, hcounts]

/-- A byte of a head part. -/
theorem Record.byte (h : Record bs head cs) (hp : partAt head off = some p) {i : Nat} (hi : i < p.1) :
    byteAt bs (off + i) = byteAt p.2 i := by
  rw [h.eq]
  exact byteAt_layout h.sized_all (partAt_append hp) hi

/-- A field within a head part. -/
theorem Record.fieldWithin (h : Record bs head cs) (hp : partAt head off = some p) {i len : Nat} (hi : i + len ≤ p.1) :
    field bs (off + i) len = field p.2 i len := by
  rw [h.eq]
  exact field_layout h.sized_all (partAt_append hp) hi

/-- A head part that is a number is read as it. -/
theorem Record.field (h : Record bs head cs) {k v : Nat} (hp : partAt head off = some (num k v)) :
    Machine.field bs off k = v % 256 ^ k := by
  rw [h.eq]
  exact field_layout_num h.sized_all (partAt_append hp)

/-- The fields that are head parts. -/
theorem Record.headFields (h : Record bs head cs) {fs : List (Nat × Nat × Nat)}
    (hf : fs.map (fun f => partAt head f.1) = fs.map fun f => some (num f.2.1 f.2.2)) : holdsFields bs fs :=
  fun f hmem => h.field (List.map_inj_left.1 hf f hmem)

/-- The counts that follow a head of off bytes. -/
theorem Record.countFields (h : Record bs head cs) (hoff : (head.map Prod.fst).sum = off) :
    holdsFields bs (Machine.countFields off cs) := by
  intro f hmem
  obtain ⟨i, hi, rfl⟩ := List.mem_map.1 hmem
  have hcount := field_layout_num (sized_counts cs) (partAt_counts cs (List.mem_range.1 hi))
  rw [← hcount, h.eq, layout_append]
  dsimp only
  unfold Machine.field
  rw [← hoff, ← layout_length h.sized, List.drop_append, List.drop_of_length_le (by omega), List.nil_append,
    Nat.add_sub_cancel_left]

/-- Fields that are head parts, and the counts. -/
theorem Record.fields (h : Record bs head cs) (hoff : (head.map Prod.fst).sum = off) {fs : List (Nat × Nat × Nat)}
    (hf : fs.map (fun f => partAt head f.1) = fs.map fun f => some (num f.2.1 f.2.2)) :
    holdsFields bs (fs ++ Machine.countFields off cs) :=
  List.forall_mem_append.2 ⟨h.headFields hf, h.countFields hoff⟩

/-- The fields of a head part that is laid out itself. -/
theorem Record.fieldsWithin (h : Record bs head cs) {qs : List Part} {n : Nat} (hp : partAt head off = some (n, layout qs))
    (hq : Sized qs) {fs : List (Nat × Nat × Nat)} (hlen : ∀ f ∈ fs, f.1 + f.2.1 ≤ n)
    (hf : fs.map (fun f => partAt qs f.1) = fs.map fun f => some (num f.2.1 f.2.2)) :
    holdsFields bs (fs.map fun f => (off + f.1, f.2)) := by
  intro x hx
  obtain ⟨f, hmem, rfl⟩ := List.mem_map.1 hx
  exact (h.fieldWithin hp (hlen f hmem)).trans (field_layout_num hq (List.map_inj_left.1 hf f hmem))

end

end Sys2Proof.Proofs.Records
end

/-! ## The status records and READ_STATUS (O50) -/

section
namespace Sys2Proof.Proofs.Status
open Sys2Proof Sys2Proof.Machine Sys2Proof.Laws Sys2Proof.Proofs.Records

theorem byte1_eq (n : Nat) : byte1 n = (num 1 n).2 := by
  unfold byte1 num beBytes beBytes
  rw [Nat.pow_zero, Nat.div_one]

theorem countBytes_eq (cs : List Nat) : countBytes cs = layout (cs.map (num 4)) := by
  unfold countBytes layout
  rw [List.flatMap_map]
  rfl

theorem mapBytes_length (m : CtxSet) : (mapBytes m).length = 32 := by
  unfold mapBytes
  rw [List.length_map, List.length_range]

/-! ### The records' parts, in their order -/

/-- Whether the Management Unit waits with an answer, as a number. -/
def waitsBit (s : State) : Nat :=
  match s.mgmt.exec with
  | .waiting _ => 1
  | _ => 0

/-- The flag byte of the ENGINE record. -/
def engineFlags (s : State) : Nat :=
  bit s.mgmt.lock + 2 * waitsBit s + 4 * bit s.mgmt.deferredReset.isSome + 8 * bit s.mgmt.deferredFlush.isSome

/-- The parts of the ENGINE record before its counts. -/
def engineHead (s : State) : List Part :=
  [num 1 (engineCode s.mgmt.engine), num 1 (engineFlags s), num 2 s.params.mgmtId, num 1 s.mgmt.queue.length, num 3 0,
    (32, mapBytes s.mgmt.pendingMap)]

/-- The counts of the ENGINE record. -/
def engineCounts (s : State) : List Nat :=
  [s.mgmt.counts.executed, s.mgmt.counts.unknownSource, s.mgmt.counts.denied, s.mgmt.counts.locked, s.mgmt.counts.busy]

theorem engine_record (s : State) : Record (s.statusRecord 0) (engineHead s) (engineCounts s) := by
  have heq : s.engineRecord = layout (engineHead s ++ (engineCounts s).map (num 4)) := by
    unfold State.engineRecord engineHead engineCounts
    simp only [byte1_eq, countBytes_eq, layout_append]
    simp only [layout, List.flatMap_cons, List.flatMap_nil, List.append_assoc, List.append_nil]
    rfl
  exact ⟨heq, by simp [engineHead, sized_cons, sized_nil, num_length, mapBytes_length]⟩

/-- The parts of the TIME record before its counts. -/
def timeHead (s : State) : List Part :=
  let t := s.tru
  [num 1 (truCode t.state), num 1 (t.quality s.params.drift), num 1 t.clockQuality, num 1 t.qualified,
    num 1 t.unqualifiedRun, num 1 t.mismatchRun, num 1 (bit t.held.isSome + 2 * ppsEdgeCode s.params.ppsEdge), num 1 0,
    num 8 (t.now / 1000000000), num 4 (t.now % 1000000000), num 4 t.elapsedHoldover, num 4 (t.slew % 256 ^ 4).toNat,
    num 4 s.params.drift, num 4 s.params.hMax]

/-- The counts of the TIME record. -/
def timeCounts (s : State) : List Nat :=
  let t := s.tru
  [t.counts.unqualifiedEdges, t.counts.mismatchedEdges, t.counts.edgeTimeouts, t.counts.rejectedTod,
    t.counts.holdoverEntries, t.counts.slewedRelocks, t.counts.steppedRelocks, t.counts.timeSteps]

theorem time_record (s : State) : Record (s.statusRecord 1) (timeHead s) (timeCounts s) := by
  have heq : s.timeRecord = layout (timeHead s ++ (timeCounts s).map (num 4)) := by
    unfold State.timeRecord timeHead timeCounts
    simp only [byte1_eq, countBytes_eq, layout_append]
    simp only [layout, List.flatMap_cons, List.flatMap_nil, List.append_assoc, List.append_nil]
    rfl
  exact ⟨heq, by simp [timeHead, sized_cons, sized_nil, num_length]⟩

/-- The deadline that the STORE record shows for slot H_low, 0 where it is FREE. -/
def lowDeadline (s : State) : Nat := if (s.slot s.store.hLow).state = .free then 0 else (s.slot s.store.hLow).deadline

/-- The flag byte of the STORE record. -/
def storeFlags (s : State) : Nat := bit s.store.poolPressure + 2 * bit s.store.ringForced + 4 * bit s.store.scrubbing

/-- The parts of the STORE record before its counts. -/
def storeHead (s : State) : List Part :=
  let x := s.store
  let low := s.slot x.hLow
  [num 6 x.hLow, num 6 x.floor, num 6 x.hLow, num 1 (slotStateCode low.state), num 1 (causeCode low.cause),
    num 1 (s.recordsIn .free), num 1 (s.recordsIn .opened), num 1 (s.recordsIn .complete), num 1 (s.recordsIn .closed),
    num 1 (s.recordsIn .emitting), num 1 (storeFlags s), num 2 x.freeList.length, num 2 x.lowestFree, num 2 s.params.wm1,
    num 2 s.params.wm2, num 1 s.params.lead, num 1 0, num 8 (lowDeadline s / 1000000000),
    num 4 (lowDeadline s % 1000000000)]

/-- The counts of the STORE record. -/
def storeCounts (s : State) : List Nat :=
  let x := s.store
  [x.closeCounts.complete, x.closeCounts.deadline, x.closeCounts.forcedPool, x.closeCounts.forcedRing,
    x.closeCounts.forcedDrain, x.closeCounts.timeStep, x.composed, x.saturatedCells]

theorem store_record (s : State) : Record (s.statusRecord 2) (storeHead s) (storeCounts s) := by
  have heq : s.storeRecord = layout (storeHead s ++ (storeCounts s).map (num 4)) := by
    unfold State.storeRecord storeHead storeCounts
    simp only [byte1_eq, countBytes_eq, layout_append]
    simp only [layout, List.flatMap_cons, List.flatMap_nil, List.append_assoc, List.append_nil]
    rfl
  exact ⟨heq, by simp [storeHead, sized_cons, sized_nil, num_length]⟩

/-- The parts of the WINDOW record before its counts. -/
def windowHead (s : State) : List Part :=
  let w := s.window
  let p := s.params
  [num 4 w.wq, num 2 (w.wq / 16), num 1 (w.wq % 16), num 1 w.j, num 1 w.closings, num 1 (bit p.adaptation), num 1 p.theta,
    num 1 p.upStep, num 1 p.downStep, num 1 0, num 2 w.lastApplied, num 4 w.late, num 4 w.total, num 2 p.wMin, num 2 p.wMax,
    num 2 p.w0, num 2 0]

/-- The counts of the WINDOW record. -/
def windowCounts (s : State) : List Nat :=
  let w := s.window
  [w.counts.evaluations, w.counts.raises, w.counts.lowers, w.counts.holds, w.counts.idle, w.counts.overridden]

theorem window_record (s : State) : Record (s.statusRecord 3) (windowHead s) (windowCounts s) := by
  have heq : s.windowRecord = layout (windowHead s ++ (windowCounts s).map (num 4)) := by
    unfold State.windowRecord windowHead windowCounts
    simp only [byte1_eq, countBytes_eq, layout_append]
    simp only [layout, List.flatMap_cons, List.flatMap_nil, List.append_assoc, List.append_nil]
    rfl
  exact ⟨heq, by simp [windowHead, sized_cons, sized_nil, num_length]⟩

/-- The parts of the INTAKE record before its counts. -/
def intakeHead (s : State) : List Part :=
  let i := s.intake
  [num 1 (linkInCode i.preferred), num 1 (bit i.linkA.overflowFlag + 2 * bit i.linkB.overflowFlag),
    num 1 i.linkA.fifo.length, num 1 i.linkB.fifo.length]

/-- The counts of the INTAKE record. -/
def intakeCounts (s : State) : List Nat :=
  let i := s.intake
  let c := i.counts
  [i.linkA.received, i.linkA.oversize, i.linkA.overflow, i.linkB.received, i.linkB.oversize, i.linkB.overflow,
    c.accepted, c.queued, c.malformed, c.foreign, c.directiveDropped, c.unknownStream, c.disabled, c.layoutMismatch,
    c.paused, c.noTime, c.resetting, c.tagInvalid, c.offGrid, c.duplicate, c.late, c.future, c.outOfRing,
    c.drainingClosed, c.poolExhausted]

theorem intake_record (s : State) : Record (s.statusRecord 4) (intakeHead s) (intakeCounts s) := by
  have heq : s.intakeRecord = layout (intakeHead s ++ (intakeCounts s).map (num 4)) := by
    unfold State.intakeRecord intakeHead intakeCounts
    simp only [byte1_eq, countBytes_eq, layout_append]
    simp only [layout, List.flatMap_cons, List.flatMap_nil, List.map_cons, List.map_nil, List.append_assoc, List.append_nil]
  exact ⟨heq, by simp [intakeHead, sized_cons, sized_nil, num_length]⟩

/-- The flag byte of the EGRESS record. -/
def egressFlags (s : State) : Nat :=
  bit s.egress.shedFlag + 2 * bit s.egress.composerWaits + 4 * waitsBit s + 8 * bit s.composer.flushBusy

/-- The parts of the EGRESS record before its counts. -/
def egressHead (s : State) : List Part :=
  let x := s.egress
  [num 1 x.queue.length, num 1 (s.entriesOfClass .high), num 1 (s.entriesOfClass .medium), num 1 (s.entriesOfClass .low),
    num 1 (linkCode x.link), num 1 (egressFlags s), (3, s.oldestFields.1), num 1 s.params.highBypassMax,
    num 1 s.params.lowBypassMax, num 1 s.composer.outbound.length, num 2 s.params.promotion, (4, s.oldestFields.2),
    (8, s.workingFields)]
    ++ (List.range 8).map (fun n => num 1 (s.holding n).sets.length) ++ [num 2 0]

/-- The counts of the EGRESS record. -/
def egressCounts (s : State) : List Nat :=
  let c := s.egress.counts
  let k := s.composer.counts
  [c.sent, c.answers, c.sets, c.batches, c.promoted, c.limited, c.shed, c.answerWaits, c.highWater,
    k.sets, k.incomplete, k.batches, k.holdExpiries, k.waits]

theorem oldestFields_length (s : State) : s.oldestFields.1.length = 3 ∧ s.oldestFields.2.length = 4 := by
  unfold State.oldestFields
  split
  · exact ⟨rfl, rfl⟩
  · exact ⟨rfl, rfl⟩

theorem workingFields_length (s : State) : s.workingFields.length = 8 := by
  unfold State.workingFields
  split <;> rfl

theorem egress_record (s : State) : Record (s.statusRecord 5) (egressHead s) (egressCounts s) := by
  have heq : s.egressRecord = layout (egressHead s ++ (egressCounts s).map (num 4)) := by
    unfold State.egressRecord egressHead egressCounts
    simp only [byte1_eq, countBytes_eq, layout_append]
    simp only [layout, List.flatMap_map, List.flatMap_cons, List.flatMap_nil, List.append_assoc, List.append_nil]
    rfl
  obtain ⟨hclass, hage⟩ := oldestFields_length s
  exact ⟨heq, sized_append.2 ⟨sized_append.2
    ⟨by simp [sized_cons, sized_nil, num_length, hclass, hage, workingFields_length],
      sized_map (fun n => num_length 1 _) _⟩,
    by simp [sized_cons, sized_nil, num_length]⟩⟩

/-! ### Flag bytes -/

theorem byteAt_flags {bs : List Byte} {head : List Part} {cs : List Nat} {off v : Nat} (h : Record bs head cs)
    (hp : partAt head off = some (num 1 v)) : byteAt bs off = BitVec.ofNat 8 v := by
  have hbyte := h.byte hp (i := 0) Nat.one_pos
  rw [Nat.add_zero, ← byte1_eq] at hbyte
  exact hbyte

theorem bit_le_one (b : Bool) : bit b ≤ 1 := by cases b <;> decide

theorem waitsBit_eq (s : State) : waitsBit s = bit (match s.mgmt.exec with
    | .waiting _ => true
    | _ => false) := by
  unfold waitsBit
  cases s.mgmt.exec <;> rfl

/-- Four flags fit the low half of a byte. -/
theorem fourFlags (a b c d : Bool) :
    (BitVec.ofNat 8 (bit a + 2 * bit b + 4 * bit c + 8 * bit d)).toNat % 16 =
      bit a + 2 * bit b + 4 * bit c + 8 * bit d := by
  have := bit_le_one a
  have := bit_le_one b
  have := bit_le_one c
  have := bit_le_one d
  rw [BitVec.toNat_ofNat]
  omega

theorem threeFlags (a b c : Bool) :
    (BitVec.ofNat 8 (bit a + 2 * bit b + 4 * bit c)).getLsbD 0 = a
      ∧ (BitVec.ofNat 8 (bit a + 2 * bit b + 4 * bit c)).getLsbD 1 = b
      ∧ (BitVec.ofNat 8 (bit a + 2 * bit b + 4 * bit c)).getLsbD 2 = c := by
  revert a b c
  decide

theorem twoFlags (a b : Bool) :
    (BitVec.ofNat 8 (bit a + 2 * bit b)).getLsbD 0 = a ∧ (BitVec.ofNat 8 (bit a + 2 * bit b)).getLsbD 1 = b := by
  revert a b
  decide

end Sys2Proof.Proofs.Status
end

/-! ## The fields of the status records, and READ_STATUS (O50) -/

section
namespace Sys2Proof.Proofs.StatusFields
open Sys2Proof Sys2Proof.Machine Sys2Proof.Laws Sys2Proof.Proofs.Records Sys2Proof.Proofs.Status

/-! ### Lengths -/

theorem statusRecord_lengths (s : State) :
    (s.statusRecord 0).length = 60 ∧ (s.statusRecord 1).length = 68 ∧ (s.statusRecord 2).length = 80
      ∧ (s.statusRecord 3).length = 56 ∧ (s.statusRecord 4).length = 104 ∧ (s.statusRecord 5).length = 92 := by
  rw [(engine_record s).length, (time_record s).length, (store_record s).length, (window_record s).length,
    (intake_record s).length, (egress_record s).length]
  simp [engineHead, timeHead, storeHead, windowHead, intakeHead, egressHead, engineCounts, timeCounts, storeCounts,
    windowCounts, intakeCounts, egressCounts, Function.comp_def]

/-! ### ENGINE -/

theorem engine_fields (s : State) :
    holdsFields (s.statusRecord 0)
      ([(0, 1, engineCode s.mgmt.engine), (2, 2, s.params.mgmtId), (4, 1, s.mgmt.queue.length), (5, 3, 0)]
        ++ countFields 40 [s.mgmt.counts.executed, s.mgmt.counts.unknownSource, s.mgmt.counts.denied,
          s.mgmt.counts.locked, s.mgmt.counts.busy]) := by
  exact (engine_record s).fields (by simp [engineHead]) (by simp [engineHead, partAt])

theorem engine_flags (s : State) : (byteAt (s.statusRecord 0) 1).toNat % 16 = engineFlags s := by
  rw [byteAt_flags (engine_record s) (v := engineFlags s) rfl]
  unfold engineFlags
  rw [waitsBit_eq, fourFlags]

/-- The pending map holds context k at bit k mod 8 of byte floor(k / 8). -/
theorem engine_pending (s : State) {k : Nat} (hk : k < 256) :
    (byteAt (s.statusRecord 0) (8 + k / 8)).getLsbD (k % 8) = CtxSet.has s.mgmt.pendingMap k := by
  have hbyte : byteAt (mapBytes s.mgmt.pendingMap) (k / 8) = s.mgmt.pendingMap.extractLsb' (8 * (k / 8)) 8 := by
    unfold byteAt mapBytes
    rw [List.getD_eq_getElem?_getD, List.getElem?_map, List.getElem?_range (by omega)]
    rfl
  rw [(engine_record s).byte (p := (32, mapBytes s.mgmt.pendingMap)) rfl (by dsimp only; omega), hbyte,
    BitVec.getLsbD_extractLsb', decide_eq_true (by omega), Bool.true_and, Nat.div_add_mod]
  rfl

/-! ### TIME -/

theorem time_fields (s : State) :
    let t := s.tru
    let c := t.counts
    holdsFields (s.statusRecord 1)
      ([(0, 1, truCode t.state), (1, 1, t.quality s.params.drift), (2, 1, t.clockQuality), (3, 1, t.qualified),
        (4, 1, t.unqualifiedRun), (5, 1, t.mismatchRun), (7, 1, 0), (8, 8, t.now / 1000000000),
        (16, 4, t.now % 1000000000), (20, 4, t.elapsedHoldover), (28, 4, s.params.drift), (32, 4, s.params.hMax)]
        ++ countFields 36 [c.unqualifiedEdges, c.mismatchedEdges, c.edgeTimeouts, c.rejectedTod, c.holdoverEntries,
          c.slewedRelocks, c.steppedRelocks, c.timeSteps]) := by
  exact (time_record s).fields (by simp [timeHead]) (by simp [timeHead, partAt])

theorem ppsEdgeCode_eq (e : PpsEdge) : ppsEdgeCode e = bit (decide (e = .falling)) := by cases e <;> rfl

theorem time_flags (s : State) :
    (byteAt (s.statusRecord 1) 6).getLsbD 0 = s.tru.held.isSome
      ∧ (byteAt (s.statusRecord 1) 6).getLsbD 1 = decide (s.params.ppsEdge = .falling) := by
  rw [byteAt_flags (time_record s) (v := bit s.tru.held.isSome + 2 * ppsEdgeCode s.params.ppsEdge) rfl,
    ppsEdgeCode_eq]
  exact twoFlags _ _

/-- The slew remainder in two's complement. -/
theorem time_slew (s : State) (hlo : -2147483648 ≤ s.tru.slew) (hhi : s.tru.slew ≤ 2147483647) :
    signedField (s.statusRecord 1) 24 4 = s.tru.slew := by
  have hfield : field (s.statusRecord 1) 24 4 = (s.tru.slew % 256 ^ 4).toNat % 256 ^ 4 :=
    (time_record s).field rfl
  rw [Admission.signedField_eq _ _ (by decide), hfield]
  norm_num
  split <;> omega

/-! ### STORE, WINDOW and INTAKE -/

theorem store_fields (s : State) :
    let x := s.store
    let low := s.slot x.hLow
    let deadline := if low.state = .free then 0 else low.deadline
    let c := x.closeCounts
    holdsFields (s.statusRecord 2)
      ([(0, 6, x.hLow), (6, 6, x.floor), (12, 6, x.hLow), (18, 1, slotStateCode low.state), (19, 1, causeCode low.cause),
        (20, 1, s.recordsIn .free), (21, 1, s.recordsIn .opened), (22, 1, s.recordsIn .complete),
        (23, 1, s.recordsIn .closed), (24, 1, s.recordsIn .emitting), (26, 2, x.freeList.length), (28, 2, x.lowestFree),
        (30, 2, s.params.wm1), (32, 2, s.params.wm2), (34, 1, s.params.lead), (35, 1, 0),
        (36, 8, deadline / 1000000000), (44, 4, deadline % 1000000000)]
        ++ countFields 48 [c.complete, c.deadline, c.forcedPool, c.forcedRing, c.forcedDrain, c.timeStep, x.composed,
          x.saturatedCells]) := by
  exact (store_record s).fields (by simp [storeHead]) (by simp [storeHead, lowDeadline, partAt])

theorem store_flags (s : State) :
    (byteAt (s.statusRecord 2) 25).getLsbD 0 = s.store.poolPressure
      ∧ (byteAt (s.statusRecord 2) 25).getLsbD 1 = s.store.ringForced
      ∧ (byteAt (s.statusRecord 2) 25).getLsbD 2 = s.store.scrubbing := by
  rw [byteAt_flags (store_record s) (v := storeFlags s) rfl]
  exact threeFlags _ _ _

theorem window_fields (s : State) :
    let w := s.window
    let p := s.params
    let c := w.counts
    holdsFields (s.statusRecord 3)
      ([(0, 4, w.wq), (4, 2, w.wq / 16), (6, 1, w.wq % 16), (7, 1, w.j), (8, 1, w.closings), (9, 1, bit p.adaptation),
        (10, 1, p.theta), (11, 1, p.upStep), (12, 1, p.downStep), (13, 1, 0), (14, 2, w.lastApplied), (16, 4, w.late),
        (20, 4, w.total), (24, 2, p.wMin), (26, 2, p.wMax), (28, 2, p.w0), (30, 2, 0)]
        ++ countFields 32 [c.evaluations, c.raises, c.lowers, c.holds, c.idle, c.overridden]) := by
  exact (window_record s).fields (by simp [windowHead]) (by simp [windowHead, partAt])

theorem linkInCode_eq (l : Link) : linkInCode l = if l = .a then 0 else 1 := by cases l <;> rfl

theorem intake_fields (s : State) :
    let i := s.intake
    let c := i.counts
    holdsFields (s.statusRecord 4)
      ([(0, 1, if i.preferred = .a then 0 else 1), (2, 1, i.linkA.fifo.length), (3, 1, i.linkB.fifo.length)]
        ++ countFields 4 [i.linkA.received, i.linkA.oversize, i.linkA.overflow, i.linkB.received, i.linkB.oversize,
          i.linkB.overflow, c.accepted, c.queued, c.malformed, c.foreign, c.directiveDropped, c.unknownStream, c.disabled,
          c.layoutMismatch, c.paused, c.noTime, c.resetting, c.tagInvalid, c.offGrid, c.duplicate, c.late, c.future,
          c.outOfRing, c.drainingClosed, c.poolExhausted]) := by
  intro i c
  rw [← linkInCode_eq]
  exact (intake_record s).fields (by simp [intakeHead]) (by simp [intakeHead, partAt, i])

theorem intake_flags (s : State) :
    (byteAt (s.statusRecord 4) 1).getLsbD 0 = s.intake.linkA.overflowFlag
      ∧ (byteAt (s.statusRecord 4) 1).getLsbD 1 = s.intake.linkB.overflowFlag := by
  rw [byteAt_flags (intake_record s)
    (v := bit s.intake.linkA.overflowFlag + 2 * bit s.intake.linkB.overflowFlag) rfl]
  exact twoFlags _ _

/-! ### EGRESS -/

theorem range_eight : List.range 8 = [0, 1, 2, 3, 4, 5, 6, 7] := rfl

theorem egress_fields (s : State) :
    let x := s.egress
    let c := x.counts
    let k := s.composer.counts
    let ofClass (y : PriorityClass) : Nat := (x.queue.filter fun o => o.effective s.params s.tru.osc == y).length
    holdsFields (s.statusRecord 5)
      ([(0, 1, x.queue.length), (1, 1, ofClass .high), (2, 1, ofClass .medium), (3, 1, ofClass .low),
        (4, 1, linkCode x.link), (9, 1, s.params.highBypassMax), (10, 1, s.params.lowBypassMax),
        (11, 1, s.composer.outbound.length), (12, 2, s.params.promotion), (34, 2, 0)]
        ++ ((List.range 8).map fun n => (26 + n, 1, (s.holding n).sets.length))
        ++ countFields 36 [c.sent, c.answers, c.sets, c.batches, c.promoted, c.limited, c.shed, c.answerWaits, c.highWater,
          k.sets, k.incomplete, k.batches, k.holdExpiries, k.waits]) := by
  exact (egress_record s).fields (by simp [egressHead, range_eight])
    (by simp [egressHead, range_eight, State.entriesOfClass, partAt])

theorem egress_flags (s : State) : (byteAt (s.statusRecord 5) 5).toNat % 16 = egressFlags s := by
  rw [byteAt_flags (egress_record s) (v := egressFlags s) rfl]
  unfold egressFlags
  rw [waitsBit_eq, fourFlags]

/-- The oldest entry's class, kind and bypass count, and its age, as parts of the record. -/
theorem egress_oldest_none {s : State} (h : s.egress.queue = []) :
    holdsFields (s.statusRecord 5) [(6, 3, 0), (14, 4, 0)] := by
  have hfields : s.oldestFields = ((num 3 0).2, (num 4 0).2) := by
    unfold State.oldestFields
    rw [h]
    rfl
  refine (egress_record s).headFields ?_
  unfold egressHead
  rw [hfields]
  rfl

section
variable {s : State} {o : Entry} {rest : List Entry} (h : s.egress.queue = o :: rest)
include h

theorem oldestFields_eq :
    s.oldestFields = (layout [num 1 (classCode o.frame.cls), num 1 (kindCode o.frame.kind), num 1 o.bypass],
      (num 4 (ageMicros s.free (o.age s.tru.osc))).2) := by
  unfold State.oldestFields
  rw [h]
  simp only [byte1_eq, layout, List.flatMap_cons, List.flatMap_nil, List.append_assoc, List.append_nil]
  rfl

theorem egress_oldest :
    holdsFields (s.statusRecord 5)
      [(6, 1, classCode o.frame.cls), (7, 1, kindCode o.frame.kind), (8, 1, o.bypass)] := by
  have hpart : partAt (egressHead s) 6 =
      some (3, layout [num 1 (classCode o.frame.cls), num 1 (kindCode o.frame.kind), num 1 o.bypass]) := by
    unfold egressHead
    rw [oldestFields_eq h]
    rfl
  exact (egress_record s).fieldsWithin hpart (by simp [sized_cons, sized_nil, num_length])
    (fs := [(0, 1, classCode o.frame.cls), (1, 1, kindCode o.frame.kind), (2, 1, o.bypass)]) (by simp) rfl

/-- The age of the oldest entry, where it is a whole number of microseconds that fits. -/
theorem egress_age {us : Nat} (hage : s.tru.osc - o.enqueued = 1000 * us) (hfit : us < 2 ^ 32) :
    field (s.statusRecord 5) 14 4 = us := by
  have hmicros : ageMicros s.free (o.age s.tru.osc) = us := by
    have hdiv : o.age s.tru.osc / 1000 = us := by
      unfold Entry.age
      omega
    have hmod : o.age s.tru.osc % 1000 = 0 := by
      unfold Entry.age
      omega
    unfold ageMicros
    dsimp only
    rw [hdiv, if_pos hmod, Nat.add_zero, if_pos hfit]
  have hpart : partAt (egressHead s) 14 = some (num 4 us) := by
    unfold egressHead
    rw [oldestFields_eq h, hmicros]
    rfl
  rw [(egress_record s).field hpart]
  exact Nat.mod_eq_of_lt (by norm_num at hfit ⊢; exact hfit)

end

theorem egress_idle {s : State} (h : s.composer.working = none) : holdsFields (s.statusRecord 5) [(18, 8, 0)] := by
  have hfields : s.workingFields = (num 8 0).2 := by
    unfold State.workingFields
    rw [h]
    rfl
  refine (egress_record s).headFields ?_
  unfold egressHead
  rw [hfields]
  rfl

theorem egress_working {s : State} {w : Composing} (h : s.composer.working = some w) :
    holdsFields (s.statusRecord 5) [(18, 1, 1), (19, 1, w.next), (20, 6, w.g)] := by
  have hfields : s.workingFields = layout [num 1 1, num 1 w.next, num 6 w.g] := by
    unfold State.workingFields
    rw [h]
    simp only [byte1_eq, layout, List.flatMap_cons, List.flatMap_nil, List.append_assoc, List.append_nil]
    rfl
  have hpart : partAt (egressHead s) 18 = some (8, layout [num 1 1, num 1 w.next, num 6 w.g]) := by
    unfold egressHead
    rw [hfields]
    rfl
  exact (egress_record s).fieldsWithin hpart (by simp [sized_cons, sized_nil, num_length])
    (fs := [(0, 1, 1), (1, 1, w.next), (2, 6, w.g)]) (by simp) rfl

/-! ### The command -/

/-- The records show the Management Unit that executes as they show it IDLE. -/
theorem statusRecord_executing {s : State} (h : s.mgmt.exec = .idle) (n : Nat) :
    (s.setExec .executing).statusRecord n = s.statusRecord n := by
  have hwaits : waitsBit (s.setExec .executing) = waitsBit s := by
    unfold waitsBit
    rw [h]
    rfl
  have hengine : engineHead (s.setExec .executing) = engineHead s := by
    unfold engineHead engineFlags
    rw [hwaits]
    rfl
  have hegress : egressHead (s.setExec .executing) = egressHead s := by
    unfold egressHead egressFlags
    rw [hwaits]
    rfl
  have hrecord {bs cs : List Byte} {head : List Part} {l : List Nat} (h : Record bs head l) (k : Record cs head l) :
      bs = cs := h.eq.trans k.eq.symm
  unfold State.statusRecord
  split
  · exact hrecord (engine_record _) (hengine ▸ engine_record s)
  · rfl
  · rfl
  · rfl
  · rfl
  · exact hrecord (egress_record _) (hegress ▸ egress_record s)

/-- READ_STATUS with a selector and an option passes its checks in every engine state, for every class (R154, R167). -/
theorem status_carried {s u : State} {r : Request} {cls : Nat} {n option : Byte} (hm : s.knows r cls) (hn : n.toNat ≤ 5)
    (ho : option.toNat ≤ 1)
    (hu : (if option = 1 then (s.setExec .executing).clearFlags n.toNat else s.setExec .executing) = u.setExec .executing) :
    Carried u (s.takeDirective (directive r .readStatus n 0 option 0 [])) r (codeByte .readStatus)
      { outcome := .done, data := s.statusRecord n.toNat } := by
  refine own_carried (c := .readStatus) rfl rfl rfl rfl ?_ rfl hm (.inr rfl) rfl (fun h => nomatch h) ?_
  · change (decide (n.toNat ≤ 5) && decide (option.toNat ≤ 1)) = true
    rw [decide_eq_true hn, decide_eq_true ho]
    rfl
  · have hrecord := statusRecord_executing hm.1 n.toNat
    change (_, some ({ outcome := .done, data := (s.setExec .executing).statusRecord n.toNat } : Reply)) = _
    rw [hrecord]
    exact congrArg (fun v => (v, _)) hu

/-- A selector that names no record is refused. -/
theorem status_refused {s : State} {r : Request} {cls : Nat} {n option : Byte} (hm : s.knows r cls) (hn : 5 < n.toNat) :
    Carried s (s.takeDirective (directive r .readStatus n 0 option 0 [])) r (codeByte .readStatus)
      (reply .invalidValue) := by
  refine carried_of_work rfl rfl rfl hm (directiveWork_refused (c := .readStatus) rfl ?_)
  have hfields : fieldsOk .readStatus (directive r .readStatus n 0 option 0 []) = false := by
    change (decide (n.toNat ≤ 5) && decide (option.toNat ≤ 1)) = false
    rw [decide_eq_false (Nat.not_le.2 hn), Bool.false_and]
  unfold State.checkKnown
  rw [if_neg (by simp [isTransfer]), if_pos hfields]

theorem exec_readStatus (r : Request) (n : Byte) (s : State) :
    exec (.readStatus r n) s = .next (s.takeDirective (directive r .readStatus n 0 0 0 [])) := rfl

theorem exec_readStatusClear (r : Request) (n : Byte) (s : State) :
    exec (.readStatusClear r n) s = .next (s.takeDirective (directive r .readStatus n 0 1 0 [])) := rfl

/-- Settles O50: the records by their parts, and the command by its checks and its work. -/
theorem readStatusRecords : Obligations.ReadStatusRecords := by
  refine ⟨fun s => ?records, ⟨rfl, rfl, rfl, rfl, rfl, rfl, rfl, rfl, fun _ _ => rfl⟩, fun s r cls n hm => ?command⟩
  case records =>
    intro waits
    have hwaits : waitsBit s = waits := waitsBit_eq s
    obtain ⟨h0, h1, h2, h3, h4, h5⟩ := statusRecord_lengths s
    refine ⟨h0, h1, h2, h3, h4, h5, ⟨engine_fields s, ?_, fun k hk => engine_pending s hk⟩,
      ⟨time_fields s, (time_flags s).1, (time_flags s).2, time_slew s⟩, ⟨store_fields s, store_flags s⟩,
      window_fields s,
      ⟨intake_fields s, intake_flags s⟩,
      ⟨egress_fields s, ?_, egress_oldest_none, fun o rest h => ⟨egress_oldest h, fun us => egress_age h⟩,
        egress_idle,
        fun w => egress_working⟩⟩
    · rw [engine_flags, engineFlags, hwaits]
    · rw [egress_flags, egressFlags, hwaits]
  case command =>
    intro x unflagged
    have hclear {u : State} (hn : n.toNat ≤ 5)
        (hu : (s.setExec .executing).clearFlags n.toNat = u.setExec .executing) :
        Completes s (.readStatusClear r n) r .readStatus u x :=
      ⟨_, exec_readStatusClear r n s, status_carried hm hn (by decide) ((if_pos rfl).trans hu)⟩
    refine ⟨fun hn => ⟨⟨_, exec_readStatus r n s, status_refused hm hn⟩,
        ⟨_, exec_readStatusClear r n s, status_refused hm hn⟩⟩,
      fun hn => ⟨_, exec_readStatus r n s, status_carried hm hn (by decide) (if_neg (by decide))⟩,
      fun hn => ?_, ?_, ?_, ?_⟩
    · rcases hn with rfl | rfl | rfl <;> exact hclear (by decide) rfl
    all_goals
      rintro rfl
      exact hclear (by decide) rfl

end Sys2Proof.Proofs.StatusFields
end

/-! ## Batches formed and handed on (O49) -/

section
namespace Sys2Proof.Proofs.Batches
open Sys2Proof Sys2Proof.Machine Sys2Proof.Laws

/-! ### The batches of the sets held (R131, R134) -/

/-- The batch frame of the sets that profile n holds, or none. -/
def batchOf (s : State) (n : Nat) : List OutFrame :=
  if (s.holding n).sets = [] then []
  else [{ bytes := batchFrame n (s.holding n).sets, dest := (s.profile n).dest, kind := .batch, cls := .low }]

theorem heldBatches_eq (s : State) : s.heldBatches = (List.range 8).flatMap (batchOf s) := rfl

/-- t is s with the sets held by a list of profiles become batch frames on the outbound list. -/
structure Formed (l : List Nat) (s t : State) : Prop where
  only : t = { s with composer := { s.composer with
    holding := t.composer.holding
    outbound := s.composer.outbound ++ l.flatMap (batchOf s)
    counts := { s.composer.counts with
      batches := satInc^[(l.flatMap (batchOf s)).length] s.composer.counts.batches } } }
  wf : Tbl.wf Holding.empty t.composer.holding = true
  holding : ∀ n, t.holding n = if n ∈ l ∧ (s.holding n).sets ≠ [] then Holding.empty else s.holding n

section
variable {s t u : State} {l m : List Nat} {n : Nat}

theorem formBatch_empty (h : (s.holding n).sets = []) : s.formBatch n = s := by
  unfold State.formBatch
  exact if_pos (List.isEmpty_iff.2 h)

theorem formBatch_held (h : (s.holding n).sets ≠ []) :
    s.formBatch n = { s with composer := { s.composer with
      holding := Tbl.set Holding.empty s.composer.holding n Holding.empty
      outbound := s.composer.outbound ++ batchOf s n
      counts := { s.composer.counts with batches := satInc s.composer.counts.batches } } } := by
  have hne : ¬(s.holding n).sets.isEmpty = true := fun he => h (List.isEmpty_iff.1 he)
  unfold batchOf
  rw [if_neg h]
  exact if_neg hne

theorem formed_one (hw : Tbl.wf Holding.empty s.composer.holding = true) (n : Nat) : Formed [n] s (s.formBatch n) := by
  have hone : [n].flatMap (batchOf s) = batchOf s n := List.append_nil _
  by_cases h : (s.holding n).sets = []
  · have hnone : batchOf s n = [] := if_pos h
    rw [formBatch_empty h]
    refine ⟨by rw [hone, hnone, List.append_nil]; rfl, hw, fun j => (if_neg ?_).symm⟩
    rintro ⟨hj, hsets⟩
    exact hsets (List.mem_singleton.1 hj ▸ h)
  · have hsome : (batchOf s n).length = 1 := by
      unfold batchOf
      rw [if_neg h]
      rfl
    rw [formBatch_held h]
    refine ⟨by rw [hone, hsome]; rfl, wf_set hw _ _, fun j => ?_⟩
    refine (holding_setHolding hw n Holding.empty j).trans (if_congr ?_ rfl rfl)
    constructor
    · rintro rfl
      exact ⟨List.mem_singleton_self _, h⟩
    · exact fun hj => (List.mem_singleton.1 hj.1).symm

/-- The batches of one list of profiles and then those of another are those of the two. -/
theorem Formed.append (h : Formed l s t) (k : Formed m t u) (hd : ∀ n ∈ m, n ∉ l) : Formed (l ++ m) s u := by
  have hstands : ∀ n ∈ m, t.holding n = s.holding n := fun n hn => by
    rw [h.holding, if_neg fun hh => hd n hn hh.1]
  have hprofile (n : Nat) : t.profile n = s.profile n := by
    rw [h.only]
    rfl
  have hbatches : m.flatMap (batchOf t) = m.flatMap (batchOf s) := by
    refine List.flatMap_congr fun n hn => ?_
    unfold batchOf
    rw [hstands n hn, hprofile]
  have hcomposer := congrArg State.composer h.only
  have hrest (c : Composer) : { t with composer := c } = { s with composer := c } := by rw [h.only]
  refine ⟨(k.only.trans (hrest _)).trans (congrArg (fun c => { s with composer := c }) ?_), k.wf, fun n => ?_⟩
  · rw [hbatches, hcomposer, List.flatMap_append, List.length_append, Nat.add_comm, Function.iterate_add_apply,
      List.append_assoc]
  · rw [k.holding]
    by_cases hn : n ∈ m
    · rw [hstands n hn]
      exact if_congr (by simp [hn]) rfl rfl
    · rw [if_neg fun hh => hn hh.1, h.holding]
      exact if_congr (by simp [hn]) rfl rfl

theorem formed_foldl (hw : Tbl.wf Holding.empty s.composer.holding = true) (hd : l.Nodup) :
    Formed l s (l.foldl State.formBatch s) := by
  induction l generalizing s with
  | nil => exact ⟨by rw [List.flatMap_nil, List.append_nil]; rfl, hw, fun _ => rfl⟩
  | cons n l ih =>
    obtain ⟨hn, hl⟩ := List.nodup_cons.1 hd
    have hone := formed_one hw n
    exact hone.append (ih hone.wf hl) fun j hj hjn => hn (List.mem_singleton.1 hjn ▸ hj)

/-- What forming every batch does (R134). -/
theorem formed_all (hw : Tbl.wf Holding.empty s.composer.holding = true) :
    Formed (List.range 8) s s.formAllBatches := formed_foldl hw List.nodup_range

/-- Forming every batch takes the sets held. -/
theorem Formed.taken (h : Formed (List.range 8) s t) : HoldingsTaken s t := by
  refine ⟨fun n => (h.holding n).trans (if_congr (and_congr_left fun _ => List.mem_range) rfl rfl), ?_⟩
  rw [h.only, heldBatches_eq]

theorem foldl_formBatch_none (h : ∀ m ∈ l, (s.holding m).sets = []) : l.foldl State.formBatch s = s := by
  induction l with
  | nil => rfl
  | cons m l ih =>
    obtain ⟨hm, hl⟩ := List.forall_mem_cons.1 h
    rw [List.foldl_cons, formBatch_empty hm, ih hl]

/-- A list of profiles of which one alone holds sets forms its batch. -/
theorem foldl_formBatch_one (hn : n ∈ l) (hd : l.Nodup) (hothers : ∀ m ∈ l, m ≠ n → (s.holding m).sets = [])
    (hw : Tbl.wf Holding.empty s.composer.holding = true) : l.foldl State.formBatch s = s.formBatch n := by
  induction l with
  | nil => cases hn
  | cons m l ih =>
    obtain ⟨hm, hl⟩ := List.nodup_cons.1 hd
    obtain ⟨hm_others, hl_others⟩ := List.forall_mem_cons.1 hothers
    rw [List.foldl_cons]
    by_cases hmn : m = n
    · rw [hmn] at hm ⊢
      refine foldl_formBatch_none fun j hj => ?_
      have hjn : j ≠ n := fun h => hm (h ▸ hj)
      rw [(formed_one hw n).holding, if_neg fun h => hjn (List.mem_singleton.1 h.1)]
      exact hl_others j hj hjn
    · rw [formBatch_empty (hm_others hmn)]
      exact ih ((List.mem_cons.1 hn).resolve_left fun h => hmn h.symm) hl hl_others

/-- The last batch is marked as the one that ends the flush. -/
theorem markLast_concat (fs : List OutFrame) (f : OutFrame) :
    markLast (fs ++ [f]) = fs ++ [{ f with endsFlush := true }] := by
  induction fs with
  | nil => rfl
  | cons g fs ih =>
    cases fs with
    | nil => rfl
    | cons k fs => exact congrArg (g :: ·) ih

/-- The batches held, where there are some, end in one that the flush marks. -/
theorem flushFrames_eq (h : s.heldBatches ≠ []) :
    ∃ fs f, s.heldBatches = fs ++ [f] ∧ s.flushFrames = fs ++ [{ f with endsFlush := true }] := by
  obtain ⟨fs, f, hsplit⟩ := (List.eq_nil_or_concat' s.heldBatches).resolve_left h
  refine ⟨fs, f, hsplit, ?_⟩
  unfold State.flushFrames
  rw [hsplit, List.getLast?_concat, List.dropLast_concat]

/-- No batch held ends a flush before it is marked. -/
theorem heldBatches_unmarked (s : State) : ∀ f ∈ s.heldBatches, f.endsFlush = false := by
  intro f hf
  rw [heldBatches_eq] at hf
  obtain ⟨n, -, hmem⟩ := List.mem_flatMap.1 hf
  unfold batchOf at hmem
  split at hmem
  · cases hmem
  · rw [List.mem_singleton.1 hmem]

end

/-! ### Frames that enter the queue one after the other (R132, R147) -/

/-- The queue once frames of the outbound list have entered it. -/
def enterAll (osc : Nat) (fs : List OutFrame) (x : Egress) : Egress :=
  fs.foldl (fun x f => { x.enter osc f with composerWaits := false }) x

theorem enterAll_eq (osc : Nat) (fs : List OutFrame) (x : Egress) :
    enterAll osc fs x = { x with
      queue := x.queue ++ entriesAt osc fs
      composerWaits := if fs = [] then x.composerWaits else false
      counts := { x.counts with
        highWater := if fs = [] then x.counts.highWater else max x.counts.highWater (x.queue.length + fs.length) } } := by
  induction fs generalizing x with
  | nil => simp [enterAll, entriesAt]
  | cons f fs ih =>
    have hstep : enterAll osc (f :: fs) x = enterAll osc fs { x.enter osc f with composerWaits := false } := rfl
    rw [hstep, ih]
    cases fs with
    | nil => simp [Egress.enter, entriesAt]
    | cons g fs => simp [Egress.enter, entriesAt]; omega

section
variable {s : State} {f : OutFrame} {fs rest : List OutFrame}

/-- The composer's frame enters a queue with room (R132, R147). -/
theorem takeOutbound_room (hr : s.egress.queue.length < 32) (hf : f.endsFlush = false) :
    s.takeOutbound f rest = { s with
      composer := { s.composer with outbound := rest }
      egress := { s.egress.enter s.tru.osc f with composerWaits := false } } := by
  have hroom : s.egress.hasRoom = true := decide_eq_true hr
  unfold State.takeOutbound
  rw [hf]
  unfold State.queueTakes Egress.takeFrame
  rw [if_pos hroom]
  rfl

/-- While a directive is executed, or the unit is IDLE with no answer formed, the composer alone offers. -/
theorem egressStep_composer (hx : s.mgmt.exec = .executing ∨ s.mgmt.exec = .idle ∧ s.mgmt.formed = [])
    (hl : s.egress.link ≠ .ready) : s.egressStep = s.composerOffer := by
  unfold State.egressStep
  rw [if_neg fun h => hl h.1]
  rcases hx with hx | ⟨hx, hf⟩
  · rw [hx]
  · rw [hx, hf]

theorem composerOffer_room (ho : s.composer.outbound = f :: rest) (hr : s.egress.queue.length < 32) :
    s.composerOffer = some (s.takeOutbound f rest) := by
  have hroom : s.egress.hasRoom = true := decide_eq_true hr
  unfold State.composerOffer
  rw [ho]
  exact if_pos (by rw [hroom]; rfl)

/-- The head of the outbound list is what is due, where the queue has room for it. -/
theorem egressStep_takes (hx : s.mgmt.exec = .executing ∨ s.mgmt.exec = .idle ∧ s.mgmt.formed = [])
    (hl : s.egress.link ≠ .ready) (ho : s.composer.outbound = f :: rest) (hr : s.egress.queue.length < 32) :
    s.egressStep = some (s.takeOutbound f rest) := (egressStep_composer hx hl).trans (composerOffer_room ho hr)

theorem settleSteps_succ {t : State} (n : Nat) (h : s.egressStep = some t) :
    State.settleSteps (n + 1) s = State.settleSteps n t := by
  rw [State.settleSteps, h]

/-- Frames that end no flush enter the queue while it has room. -/
theorem settleSteps_enterAll (n : Nat) (hx : s.mgmt.exec = .executing) (hl : s.egress.link ≠ .ready)
    (ho : s.composer.outbound = fs ++ rest) (hf : ∀ f ∈ fs, f.endsFlush = false)
    (hr : s.egress.queue.length + fs.length ≤ 32) :
    State.settleSteps (fs.length + n) s = State.settleSteps n { s with
      composer := { s.composer with outbound := rest }
      egress := enterAll s.tru.osc fs s.egress } := by
  induction fs generalizing s with
  | nil =>
    rw [List.nil_append] at ho
    rw [← ho, List.length_nil, Nat.zero_add]
    rfl
  | cons f fs ih =>
    rw [List.length_cons] at hr
    obtain ⟨hf0, hrest⟩ := List.forall_mem_cons.1 hf
    have hstep : s.egressStep = some (s.takeOutbound f (fs ++ rest)) :=
      egressStep_takes (.inl hx) hl (ho.trans List.cons_append) (by omega)
    rw [List.length_cons, Nat.add_right_comm, settleSteps_succ _ hstep, takeOutbound_room (by omega) hf0]
    refine ih (s := { s with composer := { s.composer with outbound := fs ++ rest }
                             egress := { s.egress.enter s.tru.osc f with composerWaits := false } }) hx hl rfl hrest ?_
    change (s.egress.queue ++ [_]).length + fs.length ≤ 32
    rw [List.length_append, List.length_singleton]
    omega

end

end Sys2Proof.Proofs.Batches
end

/-! ## FLUSH_BATCHES, CLEAR_COUNTERS and LOCK_CONFIG (O49) -/

section
namespace Sys2Proof.Proofs.Flush
open Sys2Proof Sys2Proof.Machine Sys2Proof.Laws Sys2Proof.Proofs.Batches

/-! ### The directive's checks and its work -/

section
variable {s : State} {r : Request} {cls : Nat}

/-- FLUSH_BATCHES from a permitted sender comes to its own work (R154, R156). -/
theorem flush_checked (hcan : s.canRun r cls) (hp : (s.access 0).permits cls = true) :
    (s.setExec .executing).directiveWork cls (plainDirective r .flushBatches) =
      (s.setExec .executing).flushWork (plainDirective r .flushBatches) := by
  refine directiveWork_own (c := .flushBatches) rfl ?_
  have hpermitted : (s.setExec .executing).permitted .flushBatches cls = true := hp
  have hengine : ¬((s.setExec .executing).mgmt.engine = .resetting ∧ DirectiveCode.flushBatches ≠ .readStatus) :=
    fun h => hcan.2 h.1
  have hlength : (plainDirective r .flushBatches).length
      = directiveLength .flushBatches (plainDirective r .flushBatches) := rfl
  unfold State.checkKnown
  rw [if_neg (fun h => nomatch h.1), if_neg (fun h => nomatch h), if_neg (not_not_intro hlength), if_neg hengine,
    if_neg (by rw [hpermitted]; decide), if_neg (fun h => nomatch h.1)]

theorem holdingEmpty_iff (s : State) : s.holdingEmpty = true ↔ ∀ n, n < 8 → (s.holding n).sets = [] := by
  unfold State.holdingEmpty
  simp only [List.all_eq_true, List.mem_range, List.isEmpty_iff]

theorem heldBatches_nil_iff (s : State) : s.heldBatches = [] ↔ ∀ n, n < 8 → (s.holding n).sets = [] := by
  rw [heldBatches_eq, List.flatMap_eq_nil_iff]
  refine forall_congr' fun n => ?_
  rw [List.mem_range]
  refine imp_congr_right fun _ => ?_
  unfold batchOf
  split
  · next h => simp [h]
  · next h => simp [h]

/-- The state in which FLUSH_BATCHES has formed its frames, w being what forming every batch makes. -/
def begun (s : State) (r : Request) (w : State) : State :=
  { s with
    composer := { s.composer with
      holding := w.composer.holding
      outbound := s.composer.outbound ++ s.flushFrames
      flushBusy := true
      counts := w.composer.counts }
    mgmt := { s.mgmt with exec := .executing, deferredFlush := some { source := r.source, tag := r.tag } } }

/-- The work of a flush of the lists held (R134). -/
theorem flushWork_begun (hbusy : s.composer.flushBusy = false) (hheld : s.heldBatches ≠ [])
    (hw : Tbl.wf Holding.empty s.composer.holding = true) :
    (s.setExec .executing).flushWork (plainDirective r .flushBatches) =
      (begun s r (s.setExec .executing).formAllBatches, none) := by
  have hempty : ¬(s.setExec .executing).holdingEmpty = true := fun h =>
    hheld ((heldBatches_nil_iff s).2 ((holdingEmpty_iff (s.setExec .executing)).1 h))
  have hbusy' : ¬(s.setExec .executing).composer.flushBusy = true := by
    change ¬s.composer.flushBusy = true
    rw [hbusy]
    decide
  have hformed := formed_all (s := s.setExec .executing) hw
  have houtbound : markLast (s.setExec .executing).formAllBatches.composer.outbound =
      s.composer.outbound ++ s.flushFrames := by
    obtain ⟨fs, f, hsplit, hframes⟩ := flushFrames_eq hheld
    have hadded : (s.setExec .executing).formAllBatches.composer.outbound = s.composer.outbound ++ s.heldBatches :=
      congrArg (fun t => t.composer.outbound) hformed.only
    rw [hadded, hsplit, ← List.append_assoc, markLast_concat, hframes, List.append_assoc]
  unfold State.flushWork
  rw [if_neg hbusy', if_neg hempty]
  unfold State.flushBegin begun
  dsimp only
  rw [houtbound]
  generalize (s.setExec .executing).formAllBatches = w at hformed
  rw [hformed.only]
  rfl

/-- FLUSH_BATCHES of the lists held, but for what is then due between the composer and the queue (R153). -/
theorem exec_flush (hcan : s.canRun r cls) (hp : (s.access 0).permits cls = true)
    (hbusy : s.composer.flushBusy = false) (hheld : s.heldBatches ≠ [])
    (hw : Tbl.wf Holding.empty s.composer.holding = true) :
    exec (.flushBatches r) s =
      .next ((begun s r (s.setExec .executing).formAllBatches).settleAndJudge.setExec
        .idle).nextFree.settleAndJudge := by
  have hwork := (flush_checked hcan hp).trans (flushWork_begun hbusy hheld hw)
  obtain ⟨⟨hidle, hclass, hintake⟩, -⟩ := hcan
  have hexec : exec (.flushBatches r) s = .next (s.takeDirective (plainDirective r .flushBatches)) := rfl
  rw [hexec, takeDirective_idle hidle, runDirective_deferred hintake hclass hwork]

end

/-! ### A queue with room for the frames and the answer -/

section
variable {s : State}

theorem formAnswer_congr {t : State} (hid : t.params.mgmtId = s.params.mgmtId)
    (hpending : t.mgmt.pendingMap = s.mgmt.pendingMap) (hlock : t.mgmt.lock = s.mgmt.lock)
    (hbusy : t.composer.flushBusy = s.composer.flushBusy) (hengine : t.mgmt.engine = s.mgmt.engine) (dest : Word)
    (tag : Half) (code : Byte) (x : Reply) : t.formAnswer dest tag code x = s.formAnswer dest tag code x := by
  unfold State.formAnswer State.answerFlags
  rw [hid, hpending, hlock, hbusy, hengine]

/-- The last frame of a flush enters a queue with room, and the flush's answer is formed (R134). -/
theorem takeOutbound_last {f : OutFrame} {rest : List OutFrame} {d : Deferred} (hr : s.egress.queue.length < 32)
    (hf : f.endsFlush = true) (hd : s.mgmt.deferredFlush = some d) :
    s.takeOutbound f rest = { s with
      composer := { s.composer with outbound := rest, flushBusy := false }
      egress := { s.egress.enter s.tru.osc f with composerWaits := false }
      mgmt := { s.mgmt with
        deferredFlush := none
        counts := { s.mgmt.counts with executed := satInc s.mgmt.counts.executed }
        formed := s.mgmt.formed ++
          [{ s with composer := { s.composer with flushBusy := false } }.formAnswer d.source d.tag 0x24
            (reply .done)] } } := by
  have hroom : s.egress.hasRoom = true := decide_eq_true hr
  unfold State.takeOutbound
  rw [if_pos hf]
  unfold State.queueTakes Egress.takeFrame
  rw [if_pos hroom]
  unfold State.flushEnded
  dsimp only
  rw [hd]
  rfl

/-- While the directive is executed every frame of the flush enters, and the flush's answer is formed (R134, R153). -/
theorem settle_flush {fs : List OutFrame} {f : OutFrame} {d : Deferred} (hx : s.mgmt.exec = .executing)
    (hl : s.egress.link ≠ .ready) (ho : s.composer.outbound = fs ++ [f]) (hfs : ∀ g ∈ fs, g.endsFlush = false)
    (hf : f.endsFlush = true) (hr : s.egress.queue.length + fs.length + 1 ≤ 32) (hd : s.mgmt.deferredFlush = some d)
    (hnone : s.mgmt.formed = []) :
    s.settle = { s with
      composer := { s.composer with outbound := [], flushBusy := false }
      egress := enterAll s.tru.osc (fs ++ [f]) s.egress
      mgmt := { s.mgmt with
        deferredFlush := none
        counts := { s.mgmt.counts with executed := satInc s.mgmt.counts.executed }
        formed := [{ s with composer := { s.composer with flushBusy := false } }.formAnswer d.source d.tag 0x24
          (reply .done)] } } := by
  have hfuel : 2 * s.composer.outbound.length + s.mgmt.formed.length + 8 = fs.length + ((fs.length + 9) + 1) := by
    rw [ho, hnone, List.length_append, List.length_singleton, List.length_nil]
    omega
  have hlast : enterAll s.tru.osc (fs ++ [f]) s.egress =
      { (enterAll s.tru.osc fs s.egress).enter s.tru.osc f with composerWaits := false } := List.foldl_append
  have hlink : (enterAll s.tru.osc fs s.egress).link ≠ .ready := by
    rw [enterAll_eq]
    exact hl
  have hroom : (enterAll s.tru.osc fs s.egress).queue.length < 32 := by
    rw [enterAll_eq]
    unfold entriesAt
    rw [List.length_append, List.length_map]
    omega
  unfold State.settle
  rw [hfuel, settleSteps_enterAll _ hx hl ho hfs (by omega), hlast]
  generalize enterAll s.tru.osc fs s.egress = x at hlink hroom ⊢
  have hstep := egressStep_takes (s := { s with composer := { s.composer with outbound := [f] }, egress := x })
    (f := f) (rest := []) (.inl hx) hlink rfl hroom
  have hlastTaken := takeOutbound_last (s := { s with composer := { s.composer with outbound := [f] }, egress := x })
    (rest := []) hroom hf hd
  rw [settleSteps_succ _ hstep, hlastTaken]
  refine (settleSteps_rest _ ?_).trans ?_
  · exact egressStep_rest (.inl hlink) rfl (.inr hx) fun a ha => absurd (hx.symm.trans ha) nofun
  · rw [hnone]
    rfl

/-- An IDLE unit's formed answer enters a queue with room (R153). -/
theorem settle_formed {a : OutFrame} (hx : s.mgmt.exec = .idle) (hf : s.mgmt.formed = [a])
    (ho : s.composer.outbound = []) (hl : s.egress.link ≠ .ready) (hr : s.egress.queue.length < 32) :
    s.settle = { s with egress := s.egress.enter s.tru.osc a, mgmt := { s.mgmt with formed := [] } } := by
  have hroom : s.egress.hasRoom = true := decide_eq_true hr
  have htakes : s.egress.takes = true := by
    unfold Egress.takes
    rw [hroom]
    rfl
  have hstep : s.egressStep =
      some { s with egress := s.egress.enter s.tru.osc a, mgmt := { s.mgmt with formed := [] } } := by
    unfold State.egressStep
    rw [if_neg fun h => hl h.1, hx, hf]
    unfold State.offerAnswer
    dsimp only
    rw [if_pos htakes]
    unfold State.queueTakes Egress.takeFrame
    dsimp only
    rw [if_pos hroom, hx]
  unfold State.settle
  rw [show 2 * s.composer.outbound.length + s.mgmt.formed.length + 8
    = (2 * s.composer.outbound.length + s.mgmt.formed.length + 7) + 1 from rfl, settleSteps_succ _ hstep]
  exact settleSteps_rest _ (egressStep_rest (.inl hl) ho (.inl rfl) fun b hb => absurd (hx.symm.trans hb) nofun)

end

/-- The state in which the frames of a flush have entered the queue and its answer is formed. -/
def handed (s : State) (r : Request) (w : State) : State :=
  { s with
    composer := { s.composer with holding := w.composer.holding, counts := w.composer.counts }
    egress := enterAll s.tru.osc s.flushFrames s.egress
    mgmt := { s.mgmt with
      exec := .executing
      deferredFlush := none
      counts := { s.mgmt.counts with executed := satInc s.mgmt.counts.executed }
      formed := [s.formAnswer r.source r.tag 0x24 (reply .done)] } }

/-- The state in which the answer has entered too. -/
def flushed (s : State) (r : Request) (w : State) : State :=
  { s with
    composer := { s.composer with holding := w.composer.holding, counts := w.composer.counts }
    egress := (enterAll s.tru.osc s.flushFrames s.egress).enter s.tru.osc
      (s.formAnswer r.source r.tag 0x24 (reply .done))
    mgmt := { s.mgmt with
      deferredFlush := none
      counts := { s.mgmt.counts with executed := satInc s.mgmt.counts.executed } }
    free := s.free + 1 }

section
variable {s w : State} {r : Request}

theorem settleAndJudge_begun (hbusy : s.composer.flushBusy = false) (hheld : s.heldBatches ≠ []) (hquiet : s.quiet)
    (hr : s.egress.queue.length + s.heldBatches.length + 1 ≤ 32) (hdrain : s.mgmt.engine ≠ .draining) :
    (begun s r w).settleAndJudge = handed s r w := by
  obtain ⟨-, hformed, houtbound, -, hlink, -⟩ := hquiet
  obtain ⟨fs, f, hsplit, hframes⟩ := flushFrames_eq hheld
  have hlen : s.heldBatches.length = fs.length + 1 := by rw [hsplit, List.length_append, List.length_singleton]
  have hunmarked : ∀ g ∈ fs, g.endsFlush = false := fun g hg =>
    heldBatches_unmarked s g (by rw [hsplit]; exact List.mem_append_left _ hg)
  have hbegun : (begun s r w).composer.outbound = fs ++ [{ f with endsFlush := true }] := by
    change s.composer.outbound ++ s.flushFrames = _
    rw [houtbound, List.nil_append, hframes]
  have hsettle := settle_flush (s := begun s r w) rfl hlink hbegun hunmarked rfl
    (by change s.egress.queue.length + fs.length + 1 ≤ 32; omega) rfl hformed
  have hanswer : ({ begun s r w with composer := { (begun s r w).composer with flushBusy := false } } : State).formAnswer
      r.source r.tag 0x24 (reply .done) = s.formAnswer r.source r.tag 0x24 (reply .done) :=
    formAnswer_congr (s := s)
      (t := { begun s r w with composer := { (begun s r w).composer with flushBusy := false } })
      rfl rfl rfl hbusy.symm rfl _ _ _ _
  have hcomposer : { (begun s r w).composer with outbound := [], flushBusy := false } =
      { s.composer with holding := w.composer.holding, counts := w.composer.counts } := by
    rw [Composer.mk.injEq]
    exact ⟨rfl, rfl, houtbound.symm, hbusy.symm, rfl⟩
  rw [← hframes, hanswer, hcomposer] at hsettle
  have hhanded : (begun s r w).settle = handed s r w := hsettle
  unfold State.settleAndJudge
  rw [hhanded]
  exact judgeDrain_rest fun h => hdrain h.1

theorem settleAndJudge_handed (hquiet : s.quiet) (hr : s.egress.queue.length + s.flushFrames.length < 32)
    (hdrain : s.mgmt.engine ≠ .draining) :
    ((handed s r w).setExec .idle).nextFree.settleAndJudge = flushed s r w := by
  obtain ⟨hidle, hformed, houtbound, -, hlink, -⟩ := hquiet
  have hlinkAll : (enterAll s.tru.osc s.flushFrames s.egress).link ≠ .ready := by
    rw [enterAll_eq]
    exact hlink
  have hroomAll : (enterAll s.tru.osc s.flushFrames s.egress).queue.length < 32 := by
    rw [enterAll_eq]
    unfold entriesAt
    rw [List.length_append, List.length_map]
    exact hr
  have hsettle := settle_formed (s := ((handed s r w).setExec .idle).nextFree) rfl rfl houtbound hlinkAll hroomAll
  have hmgmt : ({ (handed s r w).mgmt with exec := .idle, formed := [] } : Mgmt) = (flushed s r w).mgmt := by
    unfold handed flushed
    rw [Mgmt.mk.injEq]
    exact ⟨rfl, hidle.symm, rfl, rfl, rfl, hformed.symm, rfl, rfl, rfl, rfl, rfl⟩
  have hflushed : ((handed s r w).setExec .idle).nextFree.settle = flushed s r w :=
    hsettle.trans (congrArg (fun m => { flushed s r w with mgmt := m }) hmgmt)
  unfold State.settleAndJudge
  rw [hflushed]
  exact judgeDrain_rest fun h => hdrain h.1

end

/-- What a flush of the lists held does where the queue has room for its frames and its answer (R134). -/
theorem exec_flush_room {s : State} {r : Request} {cls : Nat} (hcan : s.canRun r cls)
    (hp : (s.access 0).permits cls = true) (hbusy : s.composer.flushBusy = false) (hheld : s.heldBatches ≠ [])
    (hquiet : s.quiet) (hr : s.egress.queue.length + s.heldBatches.length + 1 ≤ 32) (hdrain : s.mgmt.engine ≠ .draining)
    (hw : Tbl.wf Holding.empty s.composer.holding = true) :
    exec (.flushBatches r) s = .next (flushed s r (s.setExec .executing).formAllBatches) := by
  have hlen : s.flushFrames.length = s.heldBatches.length := by
    obtain ⟨fs, f, hsplit, hframes⟩ := flushFrames_eq hheld
    rw [hsplit, hframes, List.length_append, List.length_append]
    rfl
  rw [exec_flush hcan hp hbusy hheld hw, settleAndJudge_begun hbusy hheld hquiet hr hdrain,
    settleAndJudge_handed hquiet (by omega) hdrain]

/-! ### A full queue without a LOW entry (R149) -/

/-- The composer waits with the frame on offer. -/
def composerWaiting (s : State) : State :=
  { s with
    egress := { s.egress with composerWaits := true }
    composer := { s.composer with counts := { s.composer.counts with
      waits := if s.egress.composerWaits = true then s.composer.counts.waits else satInc s.composer.counts.waits } } }

section
variable {s : State}

theorem egressStep_waits (hx : s.mgmt.exec = .executing ∨ s.mgmt.exec = .idle ∧ s.mgmt.formed = [])
    (hl : s.egress.link ≠ .ready) (ho : s.composer.outbound ≠ []) (hr : s.egress.hasRoom = false)
    (hlow : s.egress.hasLow = false) :
    s.egressStep = if s.egress.composerWaits = true then none else some (composerWaiting s) := by
  rw [egressStep_composer hx hl]
  unfold State.composerOffer
  split
  · next h => exact absurd h ho
  · rw [hr, hlow, if_neg (by simp)]
    split
    · rfl
    · next h =>
      unfold composerWaiting
      rw [if_neg h]

/-- A frame that finds no place leaves the composer waiting, and nothing more is due. -/
theorem settle_waits (hx : s.mgmt.exec = .executing ∨ s.mgmt.exec = .idle ∧ s.mgmt.formed = [])
    (hl : s.egress.link ≠ .ready) (ho : s.composer.outbound ≠ []) (hr : s.egress.hasRoom = false)
    (hlow : s.egress.hasLow = false) : s.settle = composerWaiting s := by
  have hstep := egressStep_waits hx hl ho hr hlow
  have hrest : (composerWaiting s).egressStep = none :=
    (egressStep_waits (s := composerWaiting s) hx hl ho hr hlow).trans (if_pos rfl)
  by_cases hwaits : s.egress.composerWaits = true
  · rw [if_pos hwaits] at hstep
    have hsame : composerWaiting s = s := by
      unfold composerWaiting
      rw [if_pos hwaits, ← hwaits]
    rw [hsame]
    exact settleSteps_rest _ hstep
  · rw [if_neg hwaits] at hstep
    unfold State.settle
    rw [show 2 * s.composer.outbound.length + s.mgmt.formed.length + 8
      = (2 * s.composer.outbound.length + s.mgmt.formed.length + 7) + 1 from rfl, settleSteps_succ _ hstep]
    exact settleSteps_rest _ hrest

/-- No drain ends while a frame is on the outbound list (R164). -/
theorem settleAndJudge_waits (hx : s.mgmt.exec = .executing ∨ s.mgmt.exec = .idle ∧ s.mgmt.formed = [])
    (hl : s.egress.link ≠ .ready) (ho : s.composer.outbound ≠ []) (hr : s.egress.hasRoom = false)
    (hlow : s.egress.hasLow = false) : s.settleAndJudge = composerWaiting s := by
  unfold State.settleAndJudge
  rw [settle_waits hx hl ho hr hlow]
  refine judgeDrain_rest fun h => ?_
  obtain ⟨-, -, hempty⟩ := h
  unfold State.composerEmpty at hempty
  rw [Bool.and_eq_true] at hempty
  exact ho (List.isEmpty_iff.1 hempty.2)

end

/-- What a flush of the lists held does where its frames find no place (R134, R149). -/
theorem exec_flush_full {s : State} {r : Request} {cls : Nat} (hcan : s.canRun r cls)
    (hp : (s.access 0).permits cls = true) (hbusy : s.composer.flushBusy = false) (hheld : s.heldBatches ≠ [])
    (hformed : s.mgmt.formed = []) (hl : s.egress.link ≠ .ready) (hfull : 32 ≤ s.egress.queue.length)
    (hlow : ∀ o ∈ s.egress.queue, o.frame.cls ≠ .low) (hw : Tbl.wf Holding.empty s.composer.holding = true) :
    exec (.flushBatches r) s =
      .next ((composerWaiting (begun s r (s.setExec .executing).formAllBatches)).setExec .idle).nextFree := by
  have hroom : s.egress.hasRoom = false := decide_eq_false (Nat.not_lt.2 hfull)
  have hnolow : s.egress.hasLow = false := by
    unfold Egress.hasLow
    rw [List.any_eq_false]
    exact fun o ho => by simp [hlow o ho]
  have houtbound (w : State) : (begun s r w).composer.outbound ≠ [] := by
    obtain ⟨fs, f, -, hframes⟩ := flushFrames_eq hheld
    change s.composer.outbound ++ s.flushFrames ≠ []
    rw [hframes]
    simp
  rw [exec_flush hcan hp hbusy hheld hw]
  generalize (s.setExec .executing).formAllBatches = w
  have hfirst : (begun s r w).settleAndJudge = composerWaiting (begun s r w) :=
    settleAndJudge_waits (.inl rfl) hl (houtbound w) hroom hnolow
  have hsecond := settleAndJudge_waits (s := ((composerWaiting (begun s r w)).setExec .idle).nextFree)
    (.inr ⟨rfl, hformed⟩) hl (houtbound w) hroom hnolow
  rw [hfirst, hsecond]
  rfl

/-! ### The obligation -/

section
variable {s : State} {r : Request} {cls : Nat}

/-- A flush with nothing to form is answered at once. -/
theorem flush_answered (hcan : s.canRun r cls) (hp : (s.access 0).permits cls = true) {x : OutcomeCode}
    (hwork : (s.setExec .executing).flushWork (plainDirective r .flushBatches) = (s.setExec .executing, some (reply x))) :
    Completes s (.flushBatches r) r .flushBatches s (reply x) :=
  ⟨_, rfl, own_carried (c := .flushBatches) rfl rfl rfl rfl rfl rfl hcan.1 (.inl hcan.2) hp (fun h => nomatch h) hwork⟩

/-- Forming every batch takes the sets held, and counts the batches alone. -/
theorem formAllBatches_taken (hw : Tbl.wf Holding.empty s.composer.holding = true) :
    HoldingsTaken s (s.setExec .executing).formAllBatches
      ∧ (s.setExec .executing).formAllBatches.composer.counts = { s.composer.counts with
        batches := (s.setExec .executing).formAllBatches.composer.counts.batches } := by
  have h := formed_all (s := s.setExec .executing) hw
  refine ⟨⟨h.taken.holding, h.taken.counted⟩, ?_⟩
  generalize (s.setExec .executing).formAllBatches = w at h
  rw [h.only]
  rfl

/-- What a flush of the lists held does, field by field. -/
theorem flushed_fields (hheld : s.heldBatches ≠ []) (hw : Tbl.wf Holding.empty s.composer.holding = true) :
    let t := flushed s r (s.setExec .executing).formAllBatches
    HoldingsTaken s t
      ∧ t = { s with
        composer := { s.composer with
          holding := t.composer.holding
          counts := { s.composer.counts with batches := t.composer.counts.batches } }
        egress := { s.egress with
          queue := s.egress.queue
            ++ entriesAt s.tru.osc (s.flushFrames ++ [s.formAnswer r.source r.tag 0x24 (reply .done)])
          composerWaits := false
          counts := { s.egress.counts with
            highWater := max s.egress.counts.highWater (s.egress.queue.length + s.heldBatches.length + 1) } }
        mgmt := { s.mgmt with
          deferredFlush := none
          counts := { s.mgmt.counts with executed := satInc s.mgmt.counts.executed } }
        free := s.free + 1 } := by
  obtain ⟨htaken, hcounts⟩ := formAllBatches_taken hw
  generalize (s.setExec .executing).formAllBatches = w at htaken hcounts ⊢
  intro t
  have hcomposer : t.composer = { s.composer with
      holding := t.composer.holding
      counts := { s.composer.counts with batches := t.composer.counts.batches } } := by
    rw [Composer.mk.injEq]
    exact ⟨rfl, rfl, rfl, rfl, hcounts⟩
  have hlen : s.flushFrames.length = s.heldBatches.length ∧ s.flushFrames ≠ [] := by
    obtain ⟨fs, f, hsplit, hframes⟩ := flushFrames_eq hheld
    rw [hsplit, hframes]
    simp
  obtain ⟨hlen, hne⟩ := hlen
  have hegress : t.egress = { s.egress with
      queue := s.egress.queue
        ++ entriesAt s.tru.osc (s.flushFrames ++ [s.formAnswer r.source r.tag 0x24 (reply .done)])
      composerWaits := false
      counts := { s.egress.counts with
        highWater := max s.egress.counts.highWater (s.egress.queue.length + s.heldBatches.length + 1) } } := by
    change (enterAll s.tru.osc s.flushFrames s.egress).enter s.tru.osc _ = _
    rw [enterAll_eq, if_neg hne, if_neg hne]
    unfold Egress.enter entriesAt
    dsimp only
    rw [List.length_append, List.length_map, hlen, List.map_append, List.append_assoc, max_assoc,
      max_eq_right (Nat.le_succ (s.egress.queue.length + s.heldBatches.length))]
    rfl
  refine ⟨⟨htaken.holding, htaken.counted⟩, ?_⟩
  rw [State.mk.injEq]
  exact ⟨rfl, rfl, rfl, rfl, rfl, rfl, rfl, rfl, rfl, rfl, hcomposer, hegress, rfl, rfl, rfl⟩

/-- What a flush whose frames find no place does, field by field. -/
theorem waiting_fields (hidle : s.mgmt.exec = .idle) (hw : Tbl.wf Holding.empty s.composer.holding = true) :
    let t := ((composerWaiting (begun s r (s.setExec .executing).formAllBatches)).setExec .idle).nextFree
    HoldingsTaken s t
      ∧ t = { s with
        composer := { s.composer with
          holding := t.composer.holding
          outbound := s.composer.outbound ++ s.flushFrames
          flushBusy := true
          counts := { s.composer.counts with
            batches := t.composer.counts.batches
            waits := if s.egress.composerWaits = true then s.composer.counts.waits
              else satInc s.composer.counts.waits } }
        egress := { s.egress with composerWaits := true }
        mgmt := { s.mgmt with deferredFlush := some { source := r.source, tag := r.tag } }
        free := s.free + 1 } := by
  obtain ⟨htaken, hcounts⟩ := formAllBatches_taken hw
  generalize (s.setExec .executing).formAllBatches = w at htaken hcounts ⊢
  intro t
  refine ⟨⟨htaken.holding, htaken.counted⟩, ?_⟩
  have hcomposer : t.composer.counts = { s.composer.counts with
      batches := t.composer.counts.batches
      waits := if s.egress.composerWaits = true then s.composer.counts.waits
        else satInc s.composer.counts.waits } := by
    change ({ w.composer.counts with
      waits := if s.egress.composerWaits = true then w.composer.counts.waits
        else satInc w.composer.counts.waits } : ComposerCounts) = _
    rw [hcounts]
    rfl
  have hmgmt : t.mgmt = { s.mgmt with deferredFlush := some { source := r.source, tag := r.tag } } := by
    rw [Mgmt.mk.injEq]
    exact ⟨rfl, hidle.symm, rfl, rfl, rfl, rfl, rfl, rfl, rfl, rfl, rfl⟩
  rw [State.mk.injEq, Composer.mk.injEq]
  exact ⟨rfl, rfl, rfl, rfl, rfl, rfl, rfl, rfl, rfl, rfl, ⟨rfl, rfl, rfl, rfl, hcomposer⟩, rfl, hmgmt, rfl, rfl⟩

/-- One list held alone forms its batch. -/
theorem flush_one {n : Nat} (hn : n < 8) (hsets : (s.holding n).sets ≠ [])
    (hothers : ∀ m, m < 8 → m ≠ n → (s.holding m).sets = []) (hw : Tbl.wf Holding.empty s.composer.holding = true) :
    s.formAllBatches = s.formBatch n ∧ s.heldBatches = batchOf s n := by
  have hformed : s.formAllBatches = s.formBatch n :=
    foldl_formBatch_one (List.mem_range.2 hn) List.nodup_range (fun m hm => hothers m (List.mem_range.1 hm)) hw
  refine ⟨hformed, ?_⟩
  have hall : s.formAllBatches.composer.outbound = s.composer.outbound ++ s.heldBatches :=
    congrArg (fun t => t.composer.outbound) (formed_all hw).only
  have hone : (s.formBatch n).composer.outbound = s.composer.outbound ++ batchOf s n := by
    rw [formBatch_held hsets]
  rw [hformed, hone] at hall
  exact (List.append_cancel_left hall).symm

end

/-- Settles O49: a flush by the room its frames find, and the two directives that only set or clear. -/
theorem flushClearAndLock : Obligations.FlushClearAndLock := by
  refine ⟨fun s r cls hcan hp => ⟨fun hbusy => ?busy, fun hbusy hnone => ?done,
    fun n hn hbusy hsets hothers hquiet hr hdrain hcanon => ?one, fun hbusy hheld hquiet hr hdrain hcanon => ?room,
    fun hbusy hheld hformed hl hfull hlow hcanon => ?full, fun hcanon => ?clear⟩, fun s r hcan => ?lock⟩
  case busy => exact flush_answered hcan hp (if_pos hbusy)
  case done =>
    refine flush_answered hcan hp ((if_neg ?_).trans (if_pos ((holdingEmpty_iff _).2 hnone)))
    change ¬s.composer.flushBusy = true
    rw [hbusy]
    decide
  case one =>
    obtain ⟨-, -, -, -, -, -, -, hw, -⟩ := hcanon
    intro f k
    obtain ⟨hbatch, hone⟩ := flush_one (s := s.setExec .executing) hn hsets hothers hw
    have hheld : s.heldBatches = [{ bytes := batchFrame n (s.holding n).sets, dest := (s.profile n).dest, kind := .batch
                                    cls := .low }] := hone.trans (if_neg hsets)
    have hframes : s.flushFrames = [f] := by
      unfold State.flushFrames
      rw [hheld]
      rfl
    rw [exec_flush_room hcan hp hbusy (by rw [hheld]; exact List.cons_ne_nil _ _) hquiet
      (by rw [hheld, List.length_singleton]; omega) hdrain hw, hbatch, formBatch_held (s := s.setExec .executing) hsets]
    unfold flushed
    rw [hframes]
    rfl
  case room =>
    obtain ⟨-, -, -, -, -, -, -, hw, -⟩ := hcanon
    exact ⟨_, exec_flush_room hcan hp hbusy hheld hquiet hr hdrain hw, flushed_fields hheld hw⟩
  case full =>
    obtain ⟨-, -, -, -, -, -, -, hw, -⟩ := hcanon
    exact ⟨_, exec_flush_full hcan hp hbusy hheld hformed hl hfull hlow hw, waiting_fields hcan.1.1 hw⟩
  case clear =>
    obtain ⟨-, hctxs, -⟩ := hcanon
    intro cleared
    exact ⟨s.clearCounts, ⟨_, rfl, own_carried (c := .clearCounters) rfl rfl rfl rfl rfl rfl hcan.1 (.inl hcan.2) hp
      (fun h => nomatch h) rfl⟩, rfl, fun k => get_update (fun _ => rfl) hctxs k⟩
  case lock =>
    exact ⟨_, rfl, own_carried (c := .lockConfig) rfl rfl rfl rfl rfl rfl hcan.1 (.inl hcan.2) rfl
      (fun h => nomatch h) rfl⟩

end Sys2Proof.Proofs.Flush
end

/-! ## Writes of C_sat and of the Engine Parameters entry of any index (O3, O6) -/

section
namespace Sys2Proof.Proofs.ParamIndex
open Sys2Proof Sys2Proof.Machine Sys2Proof.Laws Sys2Proof.Proofs.ParamWrites

/-- Every confidence above the C_sat in force becomes it (R49). -/
theorem ctx_clampConfidence {s : State} (hw : Tbl.wf Ctx.zero s.ctxs = true) (k : Nat) :
    s.clampConfidence.ctx k = { s.ctx k with confidence := min (s.ctx k).confidence s.params.cSat } :=
  get_update (f := fun (_ : Nat) (c : Ctx) => { c with confidence := min c.confidence s.params.cSat })
    (fun _ => by simp [Ctx.zero]) hw k

/-- Settles O3: the entry is clamped, and the clamped value is what the confidences are held to. -/
theorem cSatWriteClampsConfidences : Obligations.CSatWriteClampsConfidences := by
  intro s r cls v hcan hp hcanon
  obtain ⟨-, hctxs, -⟩ := hcanon
  obtain ⟨-, hwrite⟩ := completes_param (c := .writeCSat r v) (i := 5) (v := v) rfl (by decide) hcan hp
  refine ⟨(s.setParams { s.params with cSat := clampNat 1 15 v.toNat }).clampConfidence, hwrite _ _ ?_, rfl, fun k =>
    ctx_clampConfidence (s := s.setParams { s.params with cSat := clampNat 1 15 v.toNat }) hctxs k⟩
  rw [writeParam_cSat, numeric_clamp (by decide)]
  rfl

/-- A write of an index outside the Engine Parameters is refused before its value is looked at (R159). -/
theorem completes_badIndex {s : State} {r : Request} {cls : Nat} {i : Half} (v : Word) (hcan : s.canRun r cls)
    (hi : 22 < i.toNat) :
    Completes s (.writeEngineParameter r i v) r .writeEntries s (refusedEntry .badIndex) := by
  refine ⟨_, rfl, ?_⟩
  rw [paramDirective_eq]
  refine (writeOne_carried hcan (by decide) rfl rfl (beBytes_length 4 v.toNat)).1 _ ?_
  have hout : inTable 0 (i.toNat : Int) = false := by
    simp [inTable, lastIndex]
    omega
  exact if_pos hout

/-- Settles O6: a parameter's own command is the write of its index, so the commands agree by definition. -/
theorem engineParameterWrites : Obligations.EngineParameterWrites := by
  refine fun s r v => ⟨⟨rfl, rfl, rfl, rfl, rfl, rfl, rfl, rfl, rfl, rfl, rfl, rfl, rfl, rfl, rfl⟩,
    fun cls hcan => ⟨fun i hi => completes_badIndex v hcan hi, fun hp => ?_⟩⟩
  have hwrite (i : Half) (hi : i.toNat ≤ 22) :=
    (completes_param (c := .writeEngineParameter r i v) (v := v) rfl hi hcan hp).2
  refine ⟨hwrite 6 (by decide) _ _ ?_, hwrite 20 (by decide) _ _ ?_, hwrite 21 (by decide) _ _ ?_,
    hwrite 22 (by decide) _ _ ?_⟩
  · exact (writeParam_cAwait _ _).trans (numeric_zero _ _ _)
  · exact (writeParam_promotion _ _).trans (numeric_clamp (by decide) _ _)
  · exact (writeParam_highBypassMax _ _).trans (numeric_clamp (by decide) _ _)
  · exact (writeParam_lowBypassMax _ _).trans (numeric_clamp (by decide) _ _)

end Sys2Proof.Proofs.ParamIndex
end

/-! ## The Stream Map's lookup and its bindings (O20, O44) -/

section
namespace Sys2Proof.Proofs.StreamMap
open Sys2Proof Sys2Proof.Machine Sys2Proof.Laws Sys2Proof.Proofs.StreamsKept

/-! ### The map select functions (R35) -/

theorem low_byte_toNat (sid : Half) : (sid.extractLsb' 0 8).toNat = sid.toNat % 256 := by simp

theorem high_byte_toNat (sid : Half) : (sid.extractLsb' 8 8).toNat = sid.toNat / 256 := by
  have hsid : sid.toNat < 65536 := sid.isLt
  simp [Nat.shiftRight_eq_div_pow]
  omega

/-- A byte rotated left by three places: its five low bits above its three high ones. -/
theorem rotateLeft_toNat (b : Byte) : (b.rotateLeft 3).toNat = rotl3 b.toNat := by
  have hb : b.toNat < 256 := b.isLt
  have hlow : b.toNat <<< 3 % 256 = (b.toNat % 32) <<< 3 := by
    simp only [Nat.shiftLeft_eq]
    omega
  have hhigh : b.toNat >>> 5 < 2 ^ 3 := by
    simp only [Nat.shiftRight_eq_div_pow]
    omega
  rw [BitVec.toNat_rotateLeft]
  change b.toNat <<< 3 % 256 ||| b.toNat >>> 5 = _
  rw [hlow, ← Nat.shiftLeft_add_eq_or_of_lt hhigh]
  simp only [Nat.shiftLeft_eq, Nat.shiftRight_eq_div_pow, rotl3]
  omega

/-! ### The lookup (R37) -/

theorem mem_bucketWays {bucket i : Nat} : i ∈ bucketWays bucket ↔ i / 4 = bucket := by
  simp only [bucketWays, List.mem_map, List.mem_range]
  constructor
  · rintro ⟨w, hw, rfl⟩
    omega
  · exact fun h => ⟨i % 4, by omega, by omega⟩

/-- What the lookup finds is a way's binding. -/
theorem way_of_lookup {s : State} {sid : Half} {k : Nat} (h : s.lookup sid = some k) :
    ∃ i, s.way i = some { streamId := sid, ctx := k } := by
  obtain ⟨i, -, hi⟩ := List.exists_of_findSome?_eq_some h
  refine ⟨i, ?_⟩
  split at hi
  · next b hb =>
    split at hi
    · next hsid =>
      cases hi
      rw [hb, ← hsid]
    · cases hi
  · cases hi

/-- In a lawful map the bucket of an ID holds its binding, so the lookup finds one. -/
theorem lookup_isSome {s : State} (hl : s.mapLawful) {sid : Half} {k i : Nat}
    (hi : s.way i = some { streamId := sid, ctx := k }) : (s.lookup sid).isSome = true := by
  unfold State.lookup
  rw [List.findSome?_isSome_iff]
  exact ⟨i, mem_bucketWays.2 (hl.1 i _ hi).1, by simp [hi]⟩

/-- Settles O20: the lookup finds only bindings, and a lawful map holds no ID twice. -/
theorem lookupFindsBinding : Obligations.LookupFindsBinding := by
  refine ⟨fun sid => ⟨(low_byte_toNat sid).symm, (high_byte_toNat sid).symm, ?_, ?_⟩, fun s sid k hl =>
    ⟨way_of_lookup, fun ⟨i, hi⟩ => ?_⟩⟩
  · rw [BitVec.toNat_xor, low_byte_toNat, high_byte_toNat]
    rfl
  · rw [BitVec.toNat_xor, rotateLeft_toNat, low_byte_toNat, high_byte_toNat]
    rfl
  · obtain ⟨k', hk'⟩ := Option.isSome_iff_exists.1 (lookup_isSome hl hi)
    obtain ⟨j, hj⟩ := way_of_lookup hk'
    have hij := hl.2.1 i j _ _ hi hj (.inl rfl)
    rw [← hij, hi] at hj
    cases hj
    exact hk'

/-! ### The tests of R38 and R39 -/

section
variable {s u : State} {r : Request} {cls : Nat} {k sid : Half} {x : Reply}

/-- BIND_STREAM and UNBIND_STREAM from a sender that Access entry 1 permits, the lock clear, come to their own work. -/
theorem completes_bind (hcan : s.canRun r cls) (hp : (s.access 1).permits cls = true) (hlock : s.mgmt.lock = false) :
    ((s.setExec .executing).bindWork k.toNat sid = (u.setExec .executing, x) →
      Completes s (.bindStream r k sid) r .bindStream u x)
    ∧ ((s.setExec .executing).unbindWork k.toNat = (u.setExec .executing, x) →
      Completes s (.unbindStream r k) r .unbindStream u x) := by
  refine ⟨fun hw => ⟨_, rfl, own_carried rfl rfl rfl rfl rfl rfl hcan.1 (.inl hcan.2) hp (fun _ => hlock) ?_⟩,
    fun hw => ⟨_, rfl, own_carried rfl rfl rfl rfl rfl rfl hcan.1 (.inl hcan.2) hp (fun _ => hlock) ?_⟩⟩
  · have hsid : BitVec.ofNat 16 (field (beBytes 2 sid.toNat ++ [0, 0]) 0 2) = sid := by
      rw [field_bind, BitVec.ofNat_toNat, BitVec.setWidth_eq]
    rw [← hsid] at hw
    exact congrArg (fun w : State × Reply => (w.1, some w.2)) hw
  · exact congrArg (fun w : State × Reply => (w.1, some w.2)) hw

end

section
variable {s : State} {k : Nat} {sid : Half}

/-- Whether some way holds a stream ID. -/
theorem anyWayHolds_iff (s : State) (sid : Half) : (List.range 1024).any (s.wayHolds sid) = true ↔
    ∃ i b, i < 1024 ∧ s.way i = some b ∧ b.streamId = sid := by
  simp only [List.any_eq_true, List.mem_range]
  refine exists_congr fun i => ?_
  unfold State.wayHolds
  cases s.way i <;> simp

/-- The lowest empty way of a bucket, or none where its four ways are held (R38). -/
theorem emptyWay_none {bucket : Nat} (h : ∀ w, w < 4 → s.way (bucket * 4 + w) ≠ none) : s.emptyWay bucket = none := by
  unfold State.emptyWay bucketWays
  simp only [List.find?_eq_none, List.mem_map, List.mem_range]
  rintro i ⟨w, hw, rfl⟩
  simpa [← Option.isSome_iff_ne_none] using h w hw

theorem emptyWay_lowest {bucket w : Nat} (hw : w < 4) (he : s.way (bucket * 4 + w) = none)
    (hlow : ∀ v, v < w → s.way (bucket * 4 + v) ≠ none) : s.emptyWay bucket = some (bucket * 4 + w) := by
  unfold State.emptyWay bucketWays
  rw [List.find?_map, List.find?_range_eq_some.2 ⟨by simp [he], List.mem_range.2 hw, fun v hv => ?_⟩]
  · rfl
  · simpa [← Option.isSome_iff_ne_none] using hlow v hv

theorem bindWork_badIndex (h : 255 < k) : s.bindWork k sid = (s, reply .badIndex) := if_pos h

theorem unbindWork_badIndex (h : 255 < k) : s.unbindWork k = (s, reply .badIndex) := if_pos h

variable (hk : k ≤ 255)
include hk

theorem bindWork_invalid (hs : sid = 0xFFFF) : s.bindWork k sid = (s, reply .invalidValue) := by
  unfold State.bindWork
  rw [if_neg (by omega), if_pos hs]

theorem unbindWork_busy (he : (s.ctx k).enabled = true) : s.unbindWork k = (s, reply .busyContext) := by
  unfold State.unbindWork
  rw [if_neg (by omega), if_pos he]

theorem unbindWork_notBound (he : (s.ctx k).enabled = false) (hb : (s.ctx k).binding = none) :
    s.unbindWork k = (s, reply .notBound) := by
  unfold State.unbindWork
  rw [if_neg (by omega), if_neg (by simp [he]), if_pos (by simp [hb])]

/-- In a lawful map the way that UNBIND_STREAM empties is the one that binds the context (R39). -/
theorem unbindWork_bound {i : Nat} (hl : s.mapLawful) (he : (s.ctx k).enabled = false)
    (hb : (s.ctx k).binding = some sid) (hi : s.way i = some { streamId := sid, ctx := k }) :
    s.unbindWork k = ((s.setWay i none).setCtx k { s.ctx k with binding := none }, reply .done) := by
  have hfind : (List.range 1024).find? (s.wayOfCtx k) = some i := by
    refine List.find?_range_eq_some.2 ⟨by simp [State.wayOfCtx, hi], List.mem_range.2 (way_lt hl hi), fun j hj => ?_⟩
    unfold State.wayOfCtx
    split
    · rfl
    · next b hjb =>
      have hne : b.ctx ≠ k := fun hc => by
        have := hl.2.1 i j _ b hi hjb (.inr hc.symm)
        omega
      simp [hne]
  unfold State.unbindWork
  rw [if_neg (by omega), if_neg (by simp [he]), if_neg (by simp [hb]), hfind]

variable (hs : sid ≠ 0xFFFF)
include hs

theorem bindWork_busy (he : (s.ctx k).enabled = true) : s.bindWork k sid = (s, reply .busyContext) := by
  unfold State.bindWork
  rw [if_neg (by omega), if_neg hs, if_pos he]

variable (he : (s.ctx k).enabled = false)
include he

theorem bindWork_alreadyBound
    (h : (∃ i b, i < 1024 ∧ s.way i = some b ∧ b.streamId = sid) ∨ (s.ctx k).binding ≠ none) :
    s.bindWork k sid = (s, reply .alreadyBound) := by
  unfold State.bindWork
  rw [if_neg (by omega), if_neg hs, if_neg (by simp [he]),
    if_pos (h.imp (anyWayHolds_iff s sid).2 Option.isSome_iff_ne_none.2)]

variable (hm : ¬∃ i b, i < 1024 ∧ s.way i = some b ∧ b.streamId = sid) (hb : (s.ctx k).binding = none)
include hm hb

/-- Of an unbound context and an ID that no way holds, what is left to look at is the ID's bucket (R38). -/
theorem bindWork_unbound :
    s.bindWork k sid =
      ((s.emptyWay (bucketOf s.params.mapSelect sid)).map fun i =>
        ((s.setWay i (some { streamId := sid, ctx := k })).setCtx k { s.ctx k with binding := some sid },
          reply .done)).getD (s, reply .bucketFull) := by
  unfold State.bindWork
  rw [if_neg (by omega), if_neg hs, if_neg (by simp [he]), if_neg (by
    rw [anyWayHolds_iff]
    exact not_or.2 ⟨hm, by simp [hb]⟩)]
  cases s.emptyWay (bucketOf s.params.mapSelect sid) <;> rfl

theorem bindWork_bucketFull (h : ∀ w, w < 4 → s.way (bucketOf s.params.mapSelect sid * 4 + w) ≠ none) :
    s.bindWork k sid = (s, reply .bucketFull) := by
  rw [bindWork_unbound hk hs he hm hb, emptyWay_none h]
  rfl

theorem bindWork_done {w : Nat} (hw : w < 4) (hempty : s.way (bucketOf s.params.mapSelect sid * 4 + w) = none)
    (hlow : ∀ v, v < w → s.way (bucketOf s.params.mapSelect sid * 4 + v) ≠ none) :
    s.bindWork k sid =
      ((s.setWay (bucketOf s.params.mapSelect sid * 4 + w) (some { streamId := sid, ctx := k })).setCtx k
        { s.ctx k with binding := some sid }, reply .done) := by
  rw [bindWork_unbound hk hs he hm hb, emptyWay_lowest hw hempty hlow]
  rfl

end

/-- Settles O44: the two works, test by test. -/
theorem bindAndUnbind : Obligations.BindAndUnbind := by
  intro s r cls k sid hcan hp hlock x bucket mapped bind unbind
  have hbind {u : State} {o : OutcomeCode} : (s.setExec .executing).bindWork k.toNat sid =
      (u.setExec .executing, reply o) → bind u o := (completes_bind hcan hp hlock).1
  have hunbind {u : State} {o : OutcomeCode} : (s.setExec .executing).unbindWork k.toNat =
      (u.setExec .executing, reply o) → unbind u o := (completes_bind (sid := sid) hcan hp hlock).2
  refine ⟨fun hk => ⟨hbind (bindWork_badIndex hk), hunbind (unbindWork_badIndex hk)⟩,
    fun hk hs => hbind (bindWork_invalid hk hs), fun hk hs he => hbind (bindWork_busy hk hs he),
    fun hk hs he h => hbind (bindWork_alreadyBound hk hs he h),
    fun hk hs he hm hb hfull => hbind (bindWork_bucketFull hk hs he hm hb hfull),
    fun w hk hs he hm hb hw hempty hlow => hbind ?done,
    fun hk he => hunbind (unbindWork_busy hk he), fun hk he hb => hunbind (unbindWork_notBound hk he hb),
    fun i hl hk he hb hi => hunbind (unbindWork_bound hk hl he hb hi)⟩
  exact (bindWork_done (s := s.setExec .executing) hk hs he hm hb hw hempty hlow).trans rfl

end Sys2Proof.Proofs.StreamMap
end

/-! ## FRAME_TAKE and the classes of a frame (O18) -/

section
namespace Sys2Proof.Proofs.FrameTake
open Sys2Proof Sys2Proof.Machine Sys2Proof.Laws Sys2Proof.Proofs.Admission

theorem headerOk_iff (bs : List Byte) :
    headerOk bs = true ↔ 8 ≤ bs.length ∧ byteAt bs 0 = 0xE3 ∧ field bs 2 2 = bs.length := by
  unfold headerOk marker
  simp only [Bool.and_eq_true, decide_eq_true_eq, beq_iff_eq, and_assoc]

/-- Without a frame to take, or while it is busy, the Intake Unit takes none (log entry 1). -/
theorem takeFrame_none {s : State}
    (h : s.intake.busy ≠ none ∨ (s.intake.linkA.fifo = [] ∧ s.intake.linkB.fifo = [])) : s.takeFrame = s := by
  unfold State.takeFrame
  rcases h with h | ⟨ha, hb⟩
  · split
    · next hidle _ => exact absurd hidle h
    · rfl
  · have hempty (l : Link) : (s.linkIn l).fifo = [] := by
      cases l with
      | a => exact ha
      | b => exact hb
    have hfrom : s.takesFrom = none := by
      unfold State.takesFrom
      rw [if_neg (by simp [hempty]), if_neg (by simp [hempty])]
    rw [hfrom]
    cases s.intake.busy <;> rfl

section
variable {u : State} {f : InFrame}

theorem workOn_malformed (hh : headerOk f.bytes = false) : u.workOn f = u.counted .malformed := if_pos hh

variable (hh : headerOk f.bytes = true)
include hh

theorem workOn_foreign (hr : byteAt f.bytes 1 ≠ 0x11)
    (hd : byteAt f.bytes 1 ≠ 0x31 ∨ field f.bytes 4 2 ≠ u.params.mgmtId) : u.workOn f = u.counted .foreign := by
  unfold State.workOn classify
  rw [if_neg (by simp [hh]), if_neg hr, if_neg (by tauto)]
  rfl

theorem workOn_directive (hk : byteAt f.bytes 1 = 0x31) (hid : field f.bytes 4 2 = u.params.mgmtId) :
    u.workOn f = u.handDirective f := by
  have hr : byteAt f.bytes 1 ≠ 0x11 := by
    rw [hk]
    decide
  unfold State.workOn classify
  rw [if_neg (by simp [hh]), if_neg hr, if_pos ⟨hk, hid⟩]

end

/-- Settles O18: the unit's work on the frame taken, class by class. -/
theorem frameTakeClassifies : Obligations.FrameTakeClassifies := by
  refine ⟨fun c => rfl, fun c => rfl, fun s => ⟨fun h => congrArg _ (takeFrame_none h), fun l f rest hnext => ?_⟩⟩
  intro u bs ok
  have hok : headerOk bs = true ↔ ok := headerOk_iff bs
  have htake {t : State} (h : u.workOn f = t) : exec .frameTake s = .next t :=
    congrArg _ ((takeFrame_takesNext hnext).trans h)
  obtain ⟨i, hu⟩ : ∃ i, u = { s with intake := i } := taken_only s l rest
  have hid : u.params.mgmtId = s.params.mgmtId := by rw [hu]
  have hqueue : u.mgmt = s.mgmt := by rw [hu]
  refine ⟨fun hbad => htake (workOn_malformed ?_), fun hh hr hd => htake (workOn_foreign (hok.2 hh) hr ?_),
    fun hh hk hm hroom => htake ((workOn_directive (hok.2 hh) hk (hm.trans hid.symm)).trans ?_),
    fun hh hk hm hfull => htake ((workOn_directive (hok.2 hh) hk (hm.trans hid.symm)).trans ?_)⟩
  · exact Bool.eq_false_iff.2 fun h => hbad (hok.1 h)
  · rwa [hid]
  · unfold State.handDirective
    rw [hqueue, if_pos hroom]
    rfl
  · unfold State.handDirective
    rw [hqueue, if_neg (by omega)]
    rfl

end Sys2Proof.Proofs.FrameTake
end

/-! ## A slot leaves OPEN, and slot H_low is handed to the composer (O24) -/

section
namespace Sys2Proof.Proofs.LeavingOpen
open Sys2Proof Sys2Proof.Machine Sys2Proof.Laws Sys2Proof.Proofs.Opening

/-- A context is charged a miss where it was awaited and did not arrive (R47). -/
theorem has_missing (x : Slot) (k : Nat) :
    CtxSet.has x.missing k = true ↔ CtxSet.has x.awaited k = true ∧ CtxSet.has x.arrived k = false := by
  unfold Slot.missing
  rw [has_minus]
  simp

/-- A slot that has left OPEN is COMPLETE or CLOSED, so H_low is offered at once (R101). -/
theorem offerIfLow_leaveOpen {s : State} {c : Cause} (hw : Tbl.wf Slot.empty s.store.ring = true)
    (hs : (s.slot s.store.hLow).state = .opened) :
    (s.leaveOpen s.store.hLow c).offerIfLow s.store.hLow =
      { (s.leaveOpen s.store.hLow c).setSlot s.store.hLow
          { (s.slot s.store.hLow).leave c (s.tru.state, s.tru.quality s.params.drift) with state := .emitting } with
        composer := { s.composer with working := some { g := s.store.hLow, next := 0 } } } := by
  have hlow : (s.leaveOpen s.store.hLow c).store.hLow = s.store.hLow := by rw [leaveOpen_eq]
  have hcomposer : (s.leaveOpen s.store.hLow c).composer = s.composer := by rw [leaveOpen_eq]
  have hleft : (s.leaveOpen s.store.hLow c).slot s.store.hLow =
      (s.slot s.store.hLow).leave c (s.tru.state, s.tru.quality s.params.drift) :=
    slot_leaveOpen_self hw (by simp [hs])
  unfold State.offerIfLow
  rw [if_pos hlow.symm, offer_some (by rw [hlow, hleft, leave_state]; by_cases hc : c = .complete <;> simp [hc]), hlow,
    hleft, hcomposer]
  rfl

/-- Settles O24: every field of the state after the slot has left OPEN. -/
theorem slotLeavesOpen : Obligations.SlotLeavesOpen := by
  intro s g c hcanon hs x y t k cc
  obtain ⟨-, hctxs, -, hring, -⟩ := hcanon
  have hy : y = x.leave c (s.tru.state, s.tru.quality s.params.drift) := by cases c <;> rfl
  have hcounts : s.store.closeCounts.bump c =
      { complete := k .complete cc.complete, deadline := k .deadline cc.deadline
        forcedPool := k .forcedPool cc.forcedPool, forcedRing := k .forcedRing cc.forcedRing
        forcedDrain := k .forcedDrain cc.forcedDrain, timeStep := k .timeStep cc.timeStep } := by cases c <;> rfl
  have ht : t = s.leaveOpen g c := rfl
  refine ⟨?fields, fun i => ?misses, fun hg => offerIfLow_ne ?other, fun hg => ?low⟩
  case fields =>
    rw [hy, ← hcounts, ht, leaveOpen_eq]
    rfl
  case misses =>
    rw [ht, leaveOpen_eq]
    refine (ctx_chargeMisses hctxs x.missing i).trans ?_
    simp only [has_missing]
  case other =>
    rw [ht, leaveOpen_eq]
    exact hg
  case low =>
    subst hg
    rw [hy]
    exact offerIfLow_leaveOpen hring hs

end Sys2Proof.Proofs.LeavingOpen
end

/-! ## A directive's frame, and the commands that deliver a directive -/

section
namespace Sys2Proof.Proofs.Delivery
open Sys2Proof Sys2Proof.Machine Sys2Proof.Laws Sys2Proof.Proofs.StreamsKept

theorem beNat_half (v : Half) : beNat (beBytes 2 v.toNat) = v.toNat := by
  rw [beNat_beBytes]
  exact Nat.mod_eq_of_lt v.isLt

/-- A directive frame laid out as 11.4 gives it reads as the directive of its fields: none of them is a free value. -/
theorem parseDirective_layout (event : Nat) (r : Request) (k : DirectiveCode) (o : Byte) (i : Half) (c st : Byte)
    (data : List Byte) {head reserved : List Byte} (hh : head.length = 6) (hr : reserved.length = 2) :
    parseDirective event
        { source := r.source
          bytes := head ++ beBytes 2 r.tag.toNat ++ [codeByte k, o] ++ beBytes 2 i.toNat ++ [c, st] ++ reserved ++ data } =
      directive r k o i.toNat c st data := by
  obtain ⟨a0, a1, a2, a3, a4, a5, rfl⟩ : ∃ a0 a1 a2 a3 a4 a5, head = [a0, a1, a2, a3, a4, a5] := by
    match head, hh with
    | [a0, a1, a2, a3, a4, a5], _ => exact ⟨a0, a1, a2, a3, a4, a5, rfl⟩
  obtain ⟨b0, b1, rfl⟩ : ∃ b0 b1, reserved = [b0, b1] := by
    match reserved, hr with
    | [b0, b1], _ => exact ⟨b0, b1, rfl⟩
  have htag : BitVec.ofNat 16 (beNat (beBytes 2 r.tag.toNat)) = r.tag := by
    rw [beNat_half, BitVec.ofNat_toNat, BitVec.setWidth_eq]
  unfold parseDirective directive
  simp only [Directive.mk.injEq]
  refine ⟨trivial, htag, ?_, rfl, rfl, beNat_half i, rfl, rfl, rfl⟩
  simp [beBytes_length]
  omega

section
variable {s v : State} {command : Instr} {r : Request} {k : DirectiveCode} {d : Directive}

/-- The command that delivers a directive has the IDLE unit take it in the state it is delivered in. -/
theorem exec_delivered (h : Delivers s command r k d v) (hi : v.mgmt.exec = .idle) :
    exec command s = .next (v.takeDirective d) := by
  rcases h with ⟨hd, rfl⟩ | ⟨rfl, o, i, n, st, data, rest, ⟨head, reserved, hh, hr, hq⟩, rfl, rfl⟩
  · exact exec_directive hd v
  · have hidle : s.mgmt.exec = .idle := hi
    rw [takeDirective_idle hi, ← parseDirective_layout s.free r k o i n st data hh hr]
    change execDirectiveTake s = _
    unfold execDirectiveTake
    rw [hidle, hq]

/-- What is known of the directive's execution is what its delivering command completes with. -/
theorem completes_delivered (h : Delivers s command r k d v) (hi : v.mgmt.exec = .idle) {u : State} {x : Reply}
    (hc : Carried u (v.takeDirective d) r (codeByte k) x) : Completes s command r k u x :=
  ⟨_, exec_delivered h hi, hc⟩

/-- A delivered directive carries its request's source and tag and its code's byte. -/
theorem delivered_fields (h : Delivers s command r k d v) :
    d.source = r.source ∧ d.tag = r.tag ∧ d.code = some (codeByte k) := by
  rcases h with ⟨hd, -⟩ | ⟨-, o, i, n, st, data, rest, -, rfl, -⟩
  · cases command with
    | writeWindowLimits r limit v => cases limit <;> (cases hd; exact ⟨rfl, rfl, rfl⟩)
    | writeWatermark r mark v => cases mark <;> (cases hd; exact ⟨rfl, rfl, rfl⟩)
    | writeHoldoverParameter r param v => cases param <;> (cases hd; exact ⟨rfl, rfl, rfl⟩)
    | _ => cases hd <;> exact ⟨rfl, rfl, rfl⟩
  · exact ⟨rfl, rfl, rfl⟩

end

end Sys2Proof.Proofs.Delivery
end

/-! ## READ_ENTRIES (O38) -/

section
namespace Sys2Proof.Proofs.ReadEntries
open Sys2Proof Sys2Proof.Machine Sys2Proof.Laws

theorem inTable_iff (table : Nat) (i : Int) : inTable table i = true ↔ 0 ≤ i ∧ i ≤ lastIndex table := by
  unfold inTable
  simp only [Bool.and_eq_true, decide_eq_true_eq]

theorem inTable_false_iff (table : Nat) (i : Int) : inTable table i = false ↔ i < 0 ∨ (lastIndex table : Int) < i := by
  rw [← Bool.not_eq_true, inTable_iff]
  omega

theorem stepOf_none {b : Byte} (h1 : b ≠ 0x01) (h2 : b ≠ 0xFF) (h3 : b ≠ 0x00) : stepOf b = none := by
  unfold stepOf
  rw [if_neg h1, if_neg h2, if_neg h3]

/-- The Management Unit's execution state is in no table's entry. -/
theorem readEntry_setExec (s : State) (e : Execution) (table i : Nat) :
    (s.setExec e).readEntry table i = s.readEntry table i := rfl

/-- What READ_ENTRIES answers once j of n entries lay in the table and the next, if one is left, does not (R158). -/
def readReply (n j : Nat) (data : List Byte) : Reply :=
  { outcome := if j = n then .done else .partialDone
    entriesDone := j
    cause := if j = n then none else some .badIndex
    data := data }

/-- The walk of READ_ENTRIES, `done` entries having been read before it. -/
theorem readTransfer_walk (s : State) (table : Nat) (d : Int) (left j : Nat) (i : Int) (done : Nat) (acc : List Byte)
    (hj : j ≤ left) (hin : ∀ m : Nat, m < j → inTable table (i + m * d) = true)
    (hout : j < left → inTable table (i + j * d) = false) :
    s.readTransfer table d left i done acc = readReply (done + left) (done + j)
      (acc ++ (List.range j).flatMap fun m : Nat => s.readEntry table (i + m * d).toNat) := by
  induction left generalizing j i done acc with
  | zero =>
    obtain rfl : j = 0 := by omega
    simp [State.readTransfer, readReply]
  | succ left ih =>
    unfold State.readTransfer
    cases j with
    | zero =>
      have hi : inTable table i = false := by simpa using hout (by omega)
      simp [hi, readReply]
    | succ j =>
      have hi : inTable table i = true := by simpa using hin 0 (by omega)
      have hshift (m : Nat) : i + d + m * d = i + (m + 1 : Nat) * d := by
        push_cast
        ring
      rw [if_pos hi, ih j (i + d) (done + 1) _ (by omega) (fun m hm => by rw [hshift]; exact hin (m + 1) (by omega))
        (fun h => by rw [hshift]; exact hout (by omega))]
      simp only [hshift, List.range_succ_eq_map, List.flatMap_cons, List.flatMap_map, List.append_assoc, Nat.cast_zero,
        zero_mul, add_zero, Nat.add_assoc, Nat.add_comm 1, Nat.succ_eq_add_one]

theorem checkKnown_read {s : State} {cls : Nat} {r : Request} {table count step : Byte} {start : Nat}
    (ht : table.toNat ≤ 7) (hc : 1 ≤ count.toNat ∧ count.toNat ≤ 64) (hs : (stepOf step).isSome = true)
    (he : s.mgmt.engine ≠ .resetting) :
    s.checkKnown cls .readEntries (directive r .readEntries table start count step []) = none := by
  unfold State.checkKnown
  rw [if_neg (by simp [directive, isTransfer]; omega), if_neg (by simp [fieldsOk, directive, hc, hs]),
    if_neg (by simp [directiveLength, directive]), if_neg (by simp [he]), if_neg (by simp [State.permitted]),
    if_neg (by simp [lockRefuses])]

/-- Settles O38: the directive's walk from its start index. -/
theorem readEntriesReturnsEntries : Obligations.ReadEntriesReturnsEntries := by
  refine ⟨rfl, rfl, rfl, rfl, fun b h1 h2 h3 => stepOf_none h1 h2 h3, ?_⟩
  intro s r table count step start cls d j hcan ht hc1 hc64 hs hj at_ hin hout x
  refine ⟨_, rfl, carried_of_work rfl rfl rfl hcan.1 ?_⟩
  rw [directiveWork_own rfl (checkKnown_read (s := s.setExec .executing) ht ⟨hc1, hc64⟩ (by simp [hs]) hcan.2)]
  have hwalk := readTransfer_walk (s.setExec .executing) table.toNat d count.toNat j start.toNat 0 [] hj
    (fun m hm => (inTable_iff _ _).2 (hin m hm)) (fun h => (inTable_false_iff _ _).2 (hout h))
  rw [Nat.zero_add, Nat.zero_add, List.nil_append] at hwalk
  have hread : (s.setExec .executing).readWork (directive r .readEntries table start.toNat count step []) =
      (s.setExec .executing, x) := by
    unfold State.readWork directive
    dsimp only
    rw [hs, Option.getD_some, hwalk]
    rfl
  exact congrArg (fun w : State × Reply => (w.1, some w.2)) hread

end Sys2Proof.Proofs.ReadEntries
end

/-! ## The first tests of a table's entry (O40) -/

section
namespace Sys2Proof.Proofs.EntryTests
open Sys2Proof Sys2Proof.Machine Sys2Proof.Laws Sys2Proof.Proofs.ReadEntries Sys2Proof.Proofs.Delivery

/-- Which senders may write a table: those its Access entry permits, and for table 7 those of class 0 (R156). -/
theorem permits_iff (s : State) (table cls : Nat) :
    s.permits table cls = true ↔ if table = 7 then cls = 0 else (s.access table).permits cls = true := by
  unfold State.permits
  split <;> simp

section
variable {s : State} {table cls : Nat} {i : Int} {e : List Byte}

/-- What an entry's guard refuses is not written, whichever of the tables 1 to 7 it is of. -/
theorem writeEntry_guarded {c : OutcomeCode} (h1 : 1 ≤ table) (h7 : table ≤ 7)
    (hg : s.entryGuard table i cls = some c) : s.writeEntry table i cls e = .fails c := by
  match table, h1, h7, hg with
  | 1, _, _, hg => simp only [State.writeEntry, State.writeMapEntry, hg]
  | 2, _, _, hg => simp only [State.writeEntry, State.writeCtxEntry, hg]
  | 3, _, _, hg => simp only [State.writeEntry, State.writeConversionEntry, hg]
  | 4, _, _, hg => simp only [State.writeEntry, State.writeProfileEntry, hg]
  | 5, _, _, hg => simp only [State.writeEntry, State.writeMemberEntry, hg]
  | 6, _, _, hg => simp only [State.writeEntry, State.writeManagerEntry, hg]
  | 7, _, _, hg => simp only [State.writeEntry, State.writeAccessEntry, hg]

theorem writeEntry_badIndex (h7 : table ≤ 7) (hi : inTable table i = false) :
    s.writeEntry table i cls e = .fails .badIndex := by
  rcases Nat.eq_zero_or_pos table with rfl | h1
  · exact if_pos hi
  · exact writeEntry_guarded h1 h7 (if_pos hi)

variable (hi : inTable table i = true)
include hi

theorem writeEntry_denied (h7 : table ≤ 7) (hp : s.permits table cls = false) :
    s.writeEntry table i cls e = .fails .denied := by
  have hin : ¬inTable table i = false := by simp [hi]
  rcases Nat.eq_zero_or_pos table with rfl | h1
  · exact (if_neg hin).trans (if_pos hp)
  · exact writeEntry_guarded h1 h7 ((if_neg hin).trans (if_pos hp))

variable (hp : s.permits table cls = true)
include hp

theorem entryGuard_permitted : s.entryGuard table i cls = if s.mgmt.lock = true then some .locked else none := by
  unfold State.entryGuard
  rw [if_neg (by simp [hi]), if_neg (by simp [hp])]

theorem writeEntry_locked (h1 : 1 ≤ table) (h7 : table ≤ 7) (hl : s.mgmt.lock = true) :
    s.writeEntry table i cls e = .fails .locked :=
  writeEntry_guarded h1 h7 ((entryGuard_permitted hi hp).trans (if_pos hl))

theorem entryGuard_passed (hl : s.mgmt.lock = false) : s.entryGuard table i cls = none :=
  (entryGuard_permitted hi hp).trans (if_neg (by simp [hl]))

end

/-- An entry of the Stream Map that passes the first tests is still refused (R40). -/
theorem writeEntry_map {s : State} {i : Int} {cls : Nat} (e : List Byte) (hg : s.entryGuard 1 i cls = none) :
    s.writeEntry 1 i cls e = .fails .badTable := by
  change s.writeMapEntry i cls = _
  unfold State.writeMapEntry
  rw [hg]

/-- Settles O40: each test for an entry anywhere, then for the one entry of a delivered transfer. -/
theorem tableWriteGuards : Obligations.TableWriteGuards := by
  refine ⟨?_, ?_⟩
  · intro s table i cls e h7 ok
    have hok : s.permits table cls = true ↔ ok := permits_iff s table cls
    refine ⟨fun hi => writeEntry_badIndex h7 ((inTable_false_iff table i).2 hi), fun h0 hlast => ?_⟩
    have hi : inTable table i = true := (inTable_iff table i).2 ⟨h0, hlast⟩
    refine ⟨fun hno => writeEntry_denied hi h7 (Bool.eq_false_iff.2 fun hp => hno (hok.1 hp)),
      fun hp h1 hlock => writeEntry_locked hi (hok.2 hp) h1 h7 hlock, fun hp ht hlock => ?_⟩
    subst ht
    exact writeEntry_map e (entryGuard_passed hi (hok.2 hp) hlock)
  · intro s v command r table t cls hd hcan h7 hc hs hl ok
    have hrefused {o : OutcomeCode}
        (hw : (v.setExec .executing).writeEntry table.toNat t.start.toNat cls t.data = .fails o) :
        Completes s command r .writeEntries v (refusedEntry o) :=
      completes_delivered hd hcan.1.1 ((writeOne_carried hcan h7 hc hs hl).1 o hw)
    have hok : (v.setExec .executing).permits table.toNat cls = true ↔ ok := by
      refine (permits_iff v table.toNat cls).trans ?_
      have htable : table.toNat = 7 ↔ table = 7 := by bv_omega
      simp only [ok, htable]
    have hin (hlast : t.start.toNat ≤ lastIndex table.toNat) : inTable table.toNat t.start.toNat = true :=
      (inTable_iff _ _).2 ⟨by omega, by exact_mod_cast hlast⟩
    refine ⟨fun hlast => hrefused (writeEntry_badIndex h7 ((inTable_false_iff _ _).2 (.inr (by exact_mod_cast hlast)))),
      fun hlast hno => hrefused (writeEntry_denied (hin hlast) h7 (Bool.eq_false_iff.2 fun hp => hno (hok.1 hp))),
      fun hlast hp h1 hlock => hrefused (writeEntry_locked (hin hlast) (hok.2 hp) h1 h7 hlock),
      fun hlast hp ht hlock => hrefused ?_⟩
    subst ht
    exact writeEntry_map _ (entryGuard_passed (hin hlast) (hok.2 hp) hlock)

end Sys2Proof.Proofs.EntryTests
end

/-! ## Writes of Stream Contexts and Channel Conversion entries (O41) -/

section
namespace Sys2Proof.Proofs.EntryWrites
open Sys2Proof Sys2Proof.Machine Sys2Proof.Laws Sys2Proof.Proofs.ReadEntries Sys2Proof.Proofs.EntryTests

/-! ### Codes of two values -/

/-- A byte of two codes, 0 and 1. -/
theorem byte_two_codes {b : Byte} (h : b.toNat ≤ 1) : b = 0 ∨ b = 1 := by bv_omega

theorem formatOf_eq {b : Byte} (h : b.toNat ≤ 1) : formatOf b = some (if b = 0 then .rect16 else .rect32) := by
  rcases byte_two_codes h with rfl | rfl <;> rfl

theorem yesNo_eq {b : Byte} (h : b.toNat ≤ 1) : yesNo b = some (decide (b = 1)) := by
  rcases byte_two_codes h with rfl | rfl <;> rfl

theorem policyOf_eq {b : Byte} (h : b.toNat ≤ 1) : policyOf b = some (if b = 0 then .discard else .snap) := by
  rcases byte_two_codes h with rfl | rfl <;> rfl

section
variable {b : Byte} (h : 1 < b.toNat)
include h

theorem formatOf_none : formatOf b = none := by
  unfold formatOf
  rw [if_neg (by bv_omega), if_neg (by bv_omega)]

theorem yesNo_none : yesNo b = none := by
  unfold yesNo
  rw [if_neg (by bv_omega), if_neg (by bv_omega)]

theorem policyOf_none : policyOf b = none := by
  unfold policyOf
  rw [if_neg (by bv_omega), if_neg (by bv_omega)]

end

/-! ### The descriptor and the calibration an entry carries (R42, R71, R173) -/

/-- The descriptor at an entry's offsets. -/
def descriptorAt (e : List Byte) : Descriptor :=
  { format := if byteAt e 0 = 0 then .rect16 else .rect32, channels := (byteAt e 1).toNat
    hasFreq := decide (byteAt e 2 = 1), policy := if byteAt e 3 = 0 then .discard else .snap
    rate := (byteAt e 4).toNat, tolerance := field e 6 2, timeBase := field e 8 4 }

/-- A field of an entry of Stream Contexts lies outside its range (R42). -/
def BadDescriptor (e : List Byte) : Prop :=
  1 < (byteAt e 0).toNat ∨ 16 < (byteAt e 1).toNat ∨ 1 < (byteAt e 2).toNat
    ∨ 1 < (byteAt e 3).toNat ∨ (byteAt e 4).toNat ∉ rates ∨ field e 8 4 = 0 ∨ 1073741823 < field e 8 4

theorem descriptorOf_codes {e : List Byte} (h0 : (byteAt e 0).toNat ≤ 1) (h2 : (byteAt e 2).toNat ≤ 1)
    (h3 : (byteAt e 3).toNat ≤ 1) : descriptorOf e =
      if (byteAt e 1).toNat ≤ 16 ∧ (byteAt e 4).toNat ∈ rates ∧ 1 ≤ field e 8 4 ∧ field e 8 4 ≤ 1073741823 then
        some (descriptorAt e)
      else none := by
  unfold descriptorOf
  rw [formatOf_eq h0, yesNo_eq h2, policyOf_eq h3]
  rfl

theorem descriptorOf_good {e : List Byte} (h : ¬BadDescriptor e) : descriptorOf e = some (descriptorAt e) := by
  unfold BadDescriptor at h
  push Not at h
  obtain ⟨h0, h1, h2, h3, h4, hbase, hmax⟩ := h
  rw [descriptorOf_codes h0 h2 h3, if_pos ⟨h1, h4, by omega, hmax⟩]

theorem descriptorOf_bad {e : List Byte} (h : BadDescriptor e) : descriptorOf e = none := by
  by_cases h0 : 1 < (byteAt e 0).toNat
  · unfold descriptorOf
    rw [formatOf_none h0]
  by_cases h2 : 1 < (byteAt e 2).toNat
  · unfold descriptorOf
    rw [yesNo_none h2]
    cases formatOf (byteAt e 0) <;> rfl
  by_cases h3 : 1 < (byteAt e 3).toNat
  · unfold descriptorOf
    rw [policyOf_none h3]
    cases formatOf (byteAt e 0) <;> cases yesNo (byteAt e 2) <;> rfl
  rw [descriptorOf_codes (by omega) (by omega) (by omega)]
  refine if_neg fun ⟨h1, h4, hbase, hmax⟩ => ?_
  rcases h with h | h | h | h | h | h | h
  case inr.inr.inr.inr.inl => exact h h4
  all_goals omega

/-- A field of a Channel Conversion entry lies outside its range (R71). -/
def BadConversion (e : List Byte) : Prop :=
  31 < (byteAt e 2).toNat ∨ signedField e 4 2 < -16384 ∨ 16384 < signedField e 4 2 ∨ signedField e 6 2 < -16384
    ∨ 16384 < signedField e 6 2

theorem conversionOf_good {e : List Byte} (h : ¬BadConversion e) : conversionOf e =
    some { multiplier := field e 0 2, shift := (byteAt e 2).toNat, rotC := signedField e 4 2, rotD := signedField e 6 2 } := by
  unfold BadConversion at h
  exact if_pos (by omega)

theorem conversionOf_bad {e : List Byte} (h : BadConversion e) : conversionOf e = none := by
  unfold BadConversion at h
  exact if_neg (by omega)

/-! ### One entry written by its command -/

section
variable {s : State} {r : Request} {table : Byte} {t : Transfer}

/-- The one entry that a permitted sender writes with the lock clear comes to its own tests (R42, R71). -/
theorem completes_entry {c : Instr} (hc : exec c s = .next (s.takeDirective (writeDirective r table t)))
    (ht : table.toNat ≤ 7) (hm : s.mayWrite r table.toNat t) :
    ∃ cls, (s.setExec .executing).entryGuard table.toNat t.start.toNat cls = none
      ∧ (∀ o, (s.setExec .executing).writeEntry table.toNat t.start.toNat cls t.data = .fails o →
        Completes s c r .writeEntries s (refusedEntry o))
      ∧ ∀ u b, (s.setExec .executing).writeEntry table.toNat t.start.toNat cls t.data = .written (u.setExec .executing) b →
        Completes s c r .writeEntries u (wrote b) := by
  obtain ⟨cls, hcan, hp, hlock, hone, hs, hl, hlast⟩ := hm
  obtain ⟨hfail, hwrite⟩ := writeOne_carried hcan ht hone hs hl
  have hin : inTable table.toNat t.start.toNat = true := (inTable_iff _ _).2 ⟨by omega, by exact_mod_cast hlast⟩
  exact ⟨cls, entryGuard_passed (s := s.setExec .executing) hin hp hlock, fun o h => ⟨_, hc, hfail o h⟩,
    fun u b h => ⟨_, hc, hwrite u b h⟩⟩

variable {cls : Nat} {e : List Byte} {i : Nat}

theorem writeEntry_ctx (hg : s.entryGuard 2 i cls = none) : s.writeEntry 2 i cls e =
    if (s.ctx i).enabled = true then .fails .busyContext
    else enumerated (descriptorOf e) fun d => .written (s.setCtx i { s.ctx i with desc := d }) false := by
  change s.writeCtxEntry i cls e = _
  unfold State.writeCtxEntry
  rw [hg]
  rfl

theorem writeEntry_conversion (hg : s.entryGuard 3 i cls = none) : s.writeEntry 3 i cls e =
    enumerated (conversionOf e) fun x => .written (s.setConversion i x) false := by
  change s.writeConversionEntry i cls e = _
  unfold State.writeConversionEntry
  rw [hg]
  rfl

end

/-- Settles O41: the entry's own tests, and the fields its bytes carry. -/
theorem contextAndCalibrationWrites : Obligations.ContextAndCalibrationWrites := by
  intro s r t e i
  refine ⟨fun hm => ?_, fun hm => ?_⟩
  · obtain ⟨cls, hg, hfail, hwrite⟩ := completes_entry (c := .writeStreamContexts r t) (table := 2) rfl (by decide) hm
    have hentry := writeEntry_ctx (e := e) hg
    refine ⟨fun he => hfail _ (hentry.trans (if_pos he)),
      fun he hbad => hfail _ ((hentry.trans (if_neg (Bool.eq_false_iff.1 he))).trans ?_),
      fun he hgood => hwrite _ _ ((hentry.trans (if_neg (Bool.eq_false_iff.1 he))).trans ?_)⟩
    · rw [descriptorOf_bad hbad]
      rfl
    · rw [descriptorOf_good hgood]
      rfl
  · obtain ⟨cls, hg, hfail, hwrite⟩ := completes_entry (c := .writeChannelConversion r t) (table := 3) rfl (by decide) hm
    have hentry := writeEntry_conversion (e := e) hg
    refine ⟨fun hbad => hfail _ (hentry.trans ?_), fun hgood => hwrite _ _ (hentry.trans ?_)⟩
    · rw [conversionOf_bad hbad]
      rfl
    · rw [conversionOf_good hgood]
      rfl

end Sys2Proof.Proofs.EntryWrites
end

/-! ## The end of an admission: a placement request leaves the Intake Unit idle (R57, R66) -/

section
namespace Sys2Proof.Proofs.PlacementEnds
open Sys2Proof Sys2Proof.Machine Sys2Proof.Laws

/-- The Intake Unit has become idle, and the Management Unit stands. -/
structure Ended (s t : State) : Prop where
  idle : t.intake.busy = none
  mgmt : t.mgmt = s.mgmt

theorem Ended.after {s t u : State} (h : Ended t u) (hm : t.mgmt = s.mgmt) : Ended s u := ⟨h.idle, h.mgmt.trans hm⟩

theorem ended_discard (s : State) (k : Nat) (c : IntakeCount) : Ended s (s.discard k c) := ⟨rfl, rfl⟩

theorem ended_accepted (s : State) (q : Placement) : Ended s (s.accepted q) := ⟨rfl, rfl⟩

theorem lateNotice_only (s : State) (q : Placement) : StoreOnly s (s.lateNotice q) := by
  unfold State.lateNotice
  split
  · exact only_window s _
  · exact StoreOnly.refl s

theorem onTimeNotice_only (s : State) (q : Placement) : StoreOnly s (s.onTimeNotice q) := by
  unfold State.onTimeNotice
  split
  · exact only_window s _
  · exact StoreOnly.refl s

theorem fillCell_only (s : State) (q : Placement) (c : Nat) (rest : List Nat) : StoreOnly s (s.fillCell q c rest) :=
  (only_store s _).trans (setSlot_only _ _ _)

theorem forcePool_only (s : State) : StoreOnly s s.forcePool := by
  unfold State.forcePool
  dsimp only
  split
  · exact ((only_store s _).trans (leaveOpen_only _ _ _)).trans (offer_only _)
  · exact only_store s _

theorem ended_acceptReport (s : State) (q : Placement) (c : Nat) (rest : List Nat) : Ended s (s.acceptReport q c rest) :=
  (ended_accepted _ q).after
    (((fillCell_only s q c rest).trans (onTimeNotice_only _ q)).trans (evaluate_only _ q.g)).mgmt

theorem ended_placeInSlot (s : State) (q : Placement) : Ended s (s.placeInSlot q) := by
  unfold State.placeInSlot
  split
  · exact ended_discard s _ _
  · split
    · exact (ended_discard _ _ _).after (forcePool_only s).mgmt
    · exact ended_acceptReport s q _ _

theorem Ended.expireIfDue {s t : State} (h : Ended s t) (g : Nat) : Ended s (t.expireIfDue g) :=
  ⟨(congrArg Intake.busy (expireIfDue_only t g).intake).trans h.idle, (expireIfDue_only t g).mgmt.trans h.mgmt⟩

theorem ended_place (s : State) (q : Placement) : Ended s (s.place q) := by
  unfold State.place
  split
  · exact (ended_discard _ _ _).after (lateNotice_only s q).mgmt
  · exact ended_discard s _ _
  · split
    · exact ((ended_placeInSlot _ q).after (openSlot_only s q.g).mgmt).expireIfDue q.g
    · exact ended_placeInSlot s q

theorem ended_takePlacement (s : State) : Ended s s.takePlacement := by
  unfold State.takePlacement
  split
  · next hb => exact ⟨hb, rfl⟩
  · split
    · exact ended_discard s _ _
    · exact ended_place s _

end Sys2Proof.Proofs.PlacementEnds
end

/-! ## The checks of a directive (O37) -/

section
namespace Sys2Proof.Proofs.Checks
open Sys2Proof Sys2Proof.Machine Sys2Proof.Laws Sys2Proof.Proofs.StreamsKept Sys2Proof.Proofs.Delivery
  Sys2Proof.Proofs.PlacementEnds Sys2Proof.Proofs.ReadEntries

/-! ### The sender's class (R155) -/

section
variable {s : State} {source : Word}

theorem managerOf_none_iff : s.managerOf source = none ↔
    ∀ i, i < 4 → (s.manager i).enabled = true → (s.manager i).source ≠ source := by
  unfold State.managerOf
  simp only [List.find?_eq_none, List.mem_range, Bool.and_eq_true, beq_iff_eq, not_and, ne_eq]

theorem anyManager_iff : s.anyManager = true ↔ ∃ i, i < 4 ∧ (s.manager i).enabled = true := by
  unfold State.anyManager
  simp only [List.any_eq_true, List.mem_range]

theorem senderClass_none_iff : s.senderClass source = none ↔ s.managerOf source = none ∧ s.anyManager = true := by
  unfold State.senderClass
  cases s.managerOf source with
  | some i => simp
  | none => cases s.anyManager <;> simp

theorem senderClass_commissioning (h : ∀ i, i < 4 → (s.manager i).enabled = false) : s.senderClass source = some 0 := by
  have hnone : s.managerOf source = none := managerOf_none_iff.2 fun i hi he => by simp [h i hi] at he
  have hany : s.anyManager = false := by
    rw [← Bool.not_eq_true, anyManager_iff]
    rintro ⟨i, hi, he⟩
    simp [h i hi] at he
  unfold State.senderClass
  rw [hnone]
  exact if_neg (by simp [hany])

/-- The one enabled entry that matches a source gives its class. -/
theorem senderClass_matched {i : Nat} (hi : i < 4) (he : (s.manager i).enabled = true)
    (hs : (s.manager i).source = source)
    (hothers : ∀ j, j < 4 → j ≠ i → (s.manager j).enabled = true → (s.manager j).source ≠ source) :
    s.senderClass source = some (s.manager i).cls := by
  have hfound : s.managerOf source = some i := by
    unfold State.managerOf
    refine List.find?_range_eq_some.2 ⟨by simp [he, hs], List.mem_range.2 hi, fun j hj => ?_⟩
    cases hen : (s.manager j).enabled with
    | false => rfl
    | true => simpa using hothers j (by omega) (by omega) hen
  unfold State.senderClass
  rw [hfound]

end

/-! ### What the checks test (R154, R156, R171) -/

theorem permits_iff_level (a : Access) (c : Nat) : a.permits c = true ↔ c ≤ a.level ∨ a.deny.getLsbD c = false := by
  unfold Access.permits
  simp only [Bool.or_eq_true, decide_eq_true_eq, Bool.not_eq_true']

theorem isTransfer_iff (k : DirectiveCode) : isTransfer k = true ↔ k = .readEntries ∨ k = .writeEntries := by
  cases k <;> simp [isTransfer]

/-- The count and step fields of a transfer that are refused (R154, R171). -/
theorem transferFields_bad (d : Directive) :
    (decide (1 ≤ d.count.toNat) && decide (d.count.toNat ≤ 64) && (stepOf d.step).isSome) = false ↔
      d.count = 0 ∨ 64 < d.count.toNat ∨ (d.step ≠ 0x01 ∧ d.step ≠ 0xFF ∧ d.step ≠ 0x00) := by
  have hstep : (stepOf d.step).isSome = false ↔ d.step ≠ 0x01 ∧ d.step ≠ 0xFF ∧ d.step ≠ 0x00 := by
    constructor
    · intro h
      refine ⟨?_, ?_, ?_⟩ <;> (intro hd; rw [hd] at h; exact absurd h (by decide))
    · rintro ⟨h1, h2, h3⟩
      rw [stepOf_none h1 h2 h3]
      rfl
  have hcount : ¬1 ≤ d.count.toNat ↔ d.count = 0 := by bv_omega
  simp only [Bool.and_eq_false_iff, decide_eq_false_iff_not, hstep, hcount, Nat.not_le, or_assoc]

theorem fieldsOk_false_iff (k : DirectiveCode) (d : Directive) : fieldsOk k d = false ↔
    (isTransfer k = true
        ∧ (d.count = 0 ∨ 64 < d.count.toNat ∨ (d.step ≠ 0x01 ∧ d.step ≠ 0xFF ∧ d.step ≠ 0x00)))
      ∨ (k = .readStatus ∧ (5 < d.option.toNat ∨ 1 < d.count.toNat))
      ∨ (k = .setStreamState ∧ 1 < d.option.toNat) := by
  cases k with
  | readEntries => simpa [isTransfer, fieldsOk] using transferFields_bad d
  | writeEntries => simpa [isTransfer, fieldsOk] using transferFields_bad d
  | readStatus =>
    have h : fieldsOk .readStatus d = false ↔ 5 < d.option.toNat ∨ 1 < d.count.toNat := by
      simp only [fieldsOk, Bool.and_eq_false_iff, decide_eq_false_iff_not, Nat.not_le]
    simpa [isTransfer] using h
  | setStreamState => simp [fieldsOk, isTransfer]
  | _ => simp [fieldsOk, isTransfer]

theorem directiveLength_eq (k : DirectiveCode) (d : Directive) : directiveLength k d =
    if k = .writeEntries then 16 + d.count.toNat * entrySize d.option.toNat else if k = .bindStream then 20 else 16 := by
  cases k <;> rfl

theorem lockRefuses_iff (k : DirectiveCode) : lockRefuses k = true ↔ k = .bindStream ∨ k = .unbindStream := by
  cases k <;> simp [lockRefuses]

/-! ### The order of the checks (R154) -/

section
variable {s : State} {cls : Nat} {k : DirectiveCode} {d : Directive}

theorem checkKnown_badTable (ht : isTransfer k = true) (h : 7 < d.option.toNat) :
    s.checkKnown cls k d = some .badTable := if_pos ⟨ht, h⟩

theorem checkKnown_invalidValue (ht : isTransfer k = true → d.option.toNat ≤ 7) (hf : fieldsOk k d = false) :
    s.checkKnown cls k d = some .invalidValue :=
  (if_neg fun h => Nat.not_lt.2 (ht h.1) h.2).trans (if_pos hf)

theorem checkKnown_malformed (ht : isTransfer k = true → d.option.toNat ≤ 7) (hf : fieldsOk k d = true)
    (hl : d.length ≠ directiveLength k d) : s.checkKnown cls k d = some .malformed :=
  ((if_neg fun h => Nat.not_lt.2 (ht h.1) h.2).trans (if_neg (by simp [hf]))).trans (if_pos hl)

/-- A well-framed directive comes to orders 6 to 8. -/
theorem checkKnown_wellFramed (hw : wellFramed k d) : s.checkKnown cls k d =
    if s.mgmt.engine = .resetting ∧ k ≠ .readStatus then some .busy
    else if s.permitted k cls = false then some .denied
    else if lockRefuses k ∧ s.mgmt.lock then some .locked
    else none := by
  obtain ⟨ht, hf, hl⟩ := hw
  unfold State.checkKnown
  rw [if_neg fun h => Nat.not_lt.2 (ht h.1) h.2, if_neg (by simp [hf]), if_neg (not_not.2 hl)]

theorem checkKnown_busy (hw : wellFramed k d) (he : s.mgmt.engine = .resetting) (hk : k ≠ .readStatus) :
    s.checkKnown cls k d = some .busy := (checkKnown_wellFramed hw).trans (if_pos ⟨he, hk⟩)

variable (hw : wellFramed k d) (he : s.mgmt.engine ≠ .resetting)
include hw he

theorem checkKnown_denied (hp : s.permitted k cls = false) : s.checkKnown cls k d = some .denied :=
  ((checkKnown_wellFramed hw).trans (if_neg fun h => he h.1)).trans (if_pos hp)

theorem checkKnown_locked (hp : s.permitted k cls = true) (hk : k = .bindStream ∨ k = .unbindStream)
    (hl : s.mgmt.lock = true) : s.checkKnown cls k d = some .locked :=
  (((checkKnown_wellFramed hw).trans (if_neg fun h => he h.1)).trans (if_neg (by simp [hp]))).trans
    (if_pos ⟨(lockRefuses_iff k).2 hk, hl⟩)

end

/-! ### The command -/

section
variable {s v t : State} {command : Instr} {r : Request} {k : DirectiveCode} {d : Directive}

/-- A directive that fails a check is answered with that check's outcome, and nothing else is done. -/
theorem completes_refused (h : Delivers s command r k d v) {cls : Nat} {o : OutcomeCode} (hm : v.knows r cls)
    (hc : (v.setExec .executing).checkKnown cls k d = some o) : Completes s command r k v (reply o) := by
  obtain ⟨hs, ht, hk⟩ := delivered_fields h
  exact completes_delivered h hm.1
    (carried_of_work hs ht (congrArg (fun b : Option Byte => b.getD 0) hk) hm (directiveWork_refused hk hc))

theorem takeDirective_waiting (h : s.mgmt.exec ≠ .idle) : s.takeDirective d = s := if_neg h

/-- A directive falls after the placement in progress, as if it had come after PLACEMENT_REQUEST (R67, log entry 11). -/
theorem takeDirective_after (hi : s.mgmt.exec = .idle) : s.takeDirective d = s.takePlacement.takeDirective d := by
  obtain ⟨hbusy, hmgmt⟩ := ended_takePlacement s
  rw [takeDirective_idle hi, takeDirective_idle (by rw [hmgmt, hi]), runDirective_idle d hbusy]
  rfl

/-- A directive of an unknown source is discarded and counted (R155). -/
theorem exec_unknownSource (h : Delivers s command r k d v) (hi : v.mgmt.exec = .idle) (hb : v.intake.busy = none)
    (hn : v.senderClass r.source = none) :
    exec command s = .next { v with
      free := v.free + 1
      mgmt := { v.mgmt with counts := { v.mgmt.counts with
        unknownSource := satInc v.mgmt.counts.unknownSource } } } := by
  rw [exec_delivered h hi, takeDirective_idle hi, runDirective_idle d hb]
  unfold State.executeDirective
  rw [(delivered_fields h).1, hn]
  rfl

end

/-- Settles O37: the classes, the fields each check tests, and the checks in their order. -/
theorem directiveChecksInOrder : Obligations.DirectiveChecksInOrder := by
  refine ⟨fun s source => ⟨?_, fun h => senderClass_commissioning h,
      fun i hi he hs hothers => senderClass_matched hi he hs hothers⟩, permits_iff_level, fun s cls => rfl,
    fun k d => ⟨isTransfer_iff k, fieldsOk_false_iff k d, directiveLength_eq k d⟩, rfl,
    fun command r k d s hd => ⟨exec_directive hd s, fun hw => ?_, fun t hi ht => ?_⟩,
    fun command r k d s v hd => ⟨fun hi hb hn => exec_unknownSource hd hi hb hn, fun cls hm => ⟨
      fun ht ho => completes_refused hd hm (checkKnown_badTable ht ho),
      fun ht hf => completes_refused hd hm (checkKnown_invalidValue ht hf),
      fun ht hf hl => completes_refused hd hm (checkKnown_malformed ht hf hl),
      fun hw he hk => completes_refused hd hm (checkKnown_busy hw he hk),
      fun hw he hp => completes_refused hd hm (checkKnown_denied (s := v.setExec .executing) hw he hp),
      fun hw he hp hk hl => completes_refused hd hm (checkKnown_locked (s := v.setExec .executing) hw he hp hk hl)⟩⟩⟩
  · rw [senderClass_none_iff, managerOf_none_iff, anyManager_iff, and_comm]
  · rw [exec_directive hd s, takeDirective_waiting hw]
  · cases ht
    refine ⟨(ended_takePlacement s).idle, ?_⟩
    rw [exec_directive hd s, exec_directive hd s.takePlacement, takeDirective_after hi]

end Sys2Proof.Proofs.Checks
end

/-! ## The discards of a placement request (O21) -/

section
namespace Sys2Proof.Proofs.Placing
open Sys2Proof Sys2Proof.Machine Sys2Proof.Laws

/-! ### The steps of placement, in order (R91 to R95) -/

section
variable {s : State} {q : Placement} {g : Nat}

theorem isLate_iff : s.isLate g = true ↔ s.lateFor g := by
  unfold State.isLate State.lateFor
  simp only [Bool.or_eq_true, Bool.and_eq_true, decide_eq_true_eq, or_assoc]

theorem hLow_le_of_not_late (hl : ¬s.lateFor g) : s.store.hLow ≤ g := Nat.not_lt.1 fun h => hl (.inl h)

theorem placementReason_late (hl : s.lateFor g) : s.placementReason g = some .late := if_pos (isLate_iff.2 hl)

/-- The steps after the test of a LATE report (R92, R93). -/
theorem placementReason_timely (hl : ¬s.lateFor g) : s.placementReason g =
    if s.gnow + s.params.lead < g then some .future
    else if 63 < g - s.store.hLow then some .outOfRing
    else if s.mgmt.engine ≠ .running ∧ (s.slot g).state ≠ .opened ∧ (s.slot g).state ≠ .complete then
      some .drainingClosed
    else none := if_neg (mt isLate_iff.1 hl)

theorem placementReason_future (hl : ¬s.lateFor g) (h : s.gnow + s.params.lead < g) :
    s.placementReason g = some .future := (placementReason_timely hl).trans (if_pos h)

theorem placementReason_outOfRing (hl : ¬s.lateFor g) (hn : g ≤ s.gnow + s.params.lead)
    (h : s.store.hLow + 64 ≤ g) : s.placementReason g = some .outOfRing := by
  rw [placementReason_timely hl, if_neg (by omega), if_pos (by omega)]

theorem placementReason_near (hl : ¬s.lateFor g) (hn : g ≤ s.gnow + s.params.lead) (hr : g ≤ s.store.hLow + 63) :
    s.placementReason g =
      if s.mgmt.engine ≠ .running ∧ (s.slot g).state ≠ .opened ∧ (s.slot g).state ≠ .complete then
        some .drainingClosed
      else none := by
  have := hLow_le_of_not_late hl
  rw [placementReason_timely hl, if_neg (by omega), if_neg (by omega)]

theorem placementReason_drainingClosed (hl : ¬s.lateFor g) (hn : g ≤ s.gnow + s.params.lead)
    (hr : g ≤ s.store.hLow + 63) (he : s.mgmt.engine ≠ .running) (hf : (s.slot g).state = .free) :
    s.placementReason g = some .drainingClosed :=
  (placementReason_near hl hn hr).trans (if_pos ⟨he, by simp [hf], by simp [hf]⟩)

theorem placementReason_placeable (h : s.placeable g) : s.placementReason g = none := by
  obtain ⟨hl, hn, hr, he⟩ := h
  rw [placementReason_near hl hn hr, if_neg (by tauto)]

/-! ### What a placement request comes to -/

theorem takePlacement_resetting (hb : s.intake.busy = some q) (he : s.mgmt.engine = .resetting) :
    s.takePlacement = s.dropped q.ctx .resetting .other := by
  unfold State.takePlacement
  rw [hb]
  exact if_pos he

theorem takePlacement_place (hb : s.intake.busy = some q) (he : s.mgmt.engine ≠ .resetting) :
    s.takePlacement = s.place q := by
  unfold State.takePlacement
  rw [hb]
  exact if_neg he

/-- The late notice counts a late report of an awaitable context, until the counts are full (R91, R116). -/
theorem lateNotice_eq (s : State) (q : Placement) : s.lateNotice q = { s with window :=
    if q.awaitable = true ∧ s.window.total < 4294967295 then
      { s.window with total := s.window.total + 1, late := s.window.late + 1 }
    else s.window } := by
  unfold State.lateNotice Window.lateNotice countLimit
  by_cases ha : q.awaitable = true <;> by_cases ht : s.window.total < 4294967295 <;> simp [ha, ht]

theorem place_late (h : s.placementReason q.g = some .late) :
    s.place q = (s.lateNotice q).dropped q.ctx .late .late := by
  unfold State.place
  rw [h]
  rfl

theorem place_discard {c : IntakeCount} (hc : c ≠ .late) (h : s.placementReason q.g = some c) :
    s.place q = s.dropped q.ctx c (ctxCountOf c) := by
  unfold State.place
  rw [h]
  cases c with
  | late => exact absurd rfl hc
  | _ => rfl

theorem place_held (h : s.placeable q.g) (hs : (s.slot q.g).state ≠ .free) : s.place q = s.placeInSlot q := by
  unfold State.place
  rw [placementReason_placeable h]
  exact if_neg hs

theorem place_free (h : s.placeable q.g) (hs : (s.slot q.g).state = .free) :
    s.place q = ((s.openSlot q.g).placeInSlot q).expireIfDue q.g := by
  unfold State.place
  rw [placementReason_placeable h]
  exact if_pos hs

theorem placeInSlot_duplicate (h : CtxSet.has (s.slot q.g).arrived q.ctx = true) :
    s.placeInSlot q = s.dropped q.ctx .duplicate .duplicate := if_pos h

variable (h : CtxSet.has (s.slot q.g).arrived q.ctx = false)
include h

theorem placeInSlot_exhausted (hf : s.store.freeList = []) :
    s.placeInSlot q = s.forcePool.dropped q.ctx .poolExhausted .other := by
  unfold State.placeInSlot
  rw [if_neg (by simp [h]), hf]
  rfl

theorem placeInSlot_accepted {c : Nat} {rest : List Nat} (hf : s.store.freeList = c :: rest) :
    s.placeInSlot q = s.acceptReport q c rest := by
  unfold State.placeInSlot
  rw [if_neg (by simp [h]), hf]

end

section
variable {s : State}

/-- An exhausted pool closes slot H_low by force where it is OPEN, and hands it to the composer (R95). -/
theorem forcePool_opened (h : (s.slot s.store.hLow).state = .opened) :
    s.forcePool =
      (({ s with store := { s.store with poolPressure := true } } : State).leaveOpen s.store.hLow .forcedPool).offer :=
  if_pos h

theorem forcePool_other (h : (s.slot s.store.hLow).state ≠ .opened) :
    s.forcePool = { s with store := { s.store with poolPressure := true } } := if_neg h

end

/-- Settles O21: each step's reason, and what the store then does with the request. -/
theorem placementDiscards : Obligations.PlacementDiscards := by
  refine fun s => ⟨fun hb => ?_, fun q hb => ⟨fun he => congrArg _ (takePlacement_resetting hb he), fun he => ?_⟩⟩
  · change Host.Outcome.next s.takePlacement = _
    unfold State.takePlacement
    rw [hb]
  intro w noticed
  have hplace {t : State} (h : s.place q = t) : exec .placementRequest s = .next t :=
    congrArg _ ((takePlacement_place hb he).trans h)
  refine ⟨fun hl => hplace ?_,
    fun hl hf => hplace (place_discard (by decide) (placementReason_future hl hf)),
    fun hl hn hr => hplace (place_discard (by decide) (placementReason_outOfRing hl hn hr)),
    fun hl hn hr hrun hf => hplace (place_discard (by decide) (placementReason_drainingClosed hl hn hr hrun hf)),
    fun hp hs => ⟨fun hd => hplace ((place_held hp hs).trans (placeInSlot_duplicate hd)), fun hd hf => ?_⟩⟩
  · rw [place_late (placementReason_late hl), lateNotice_eq]
  · intro v
    have hexhausted := (place_held hp hs).trans (placeInSlot_exhausted hd hf)
    exact ⟨fun hlow => hplace (hexhausted.trans (by rw [forcePool_other hlow])),
      fun hlow => hplace (hexhausted.trans (by rw [forcePool_opened hlow]))⟩

end Sys2Proof.Proofs.Placing
end

/-! ## A report accepted into its slot (O22) -/

section
namespace Sys2Proof.Proofs.Accepting
open Sys2Proof Sys2Proof.Machine Sys2Proof.Laws Sys2Proof.Proofs.StreamsKept Sys2Proof.Proofs.Opening
  Sys2Proof.Proofs.PlacementEnds Sys2Proof.Proofs.Placing Sys2Proof.Proofs.LeavingOpen

/-! ### Tables in canonical form are their entries -/

/-- Two tables in canonical form that read alike are one table. -/
theorem eq_of_get {α : Type} [DecidableEq α] {d : α} {a b : Tbl α} (ha : Tbl.wf d a = true) (hb : Tbl.wf d b = true)
    (h : ∀ i, Tbl.get d a i = Tbl.get d b i) : a = b := by
  induction a generalizing b with
  | nil =>
    cases b with
    | nil => rfl
    | cons y b =>
      have hy := h y.1
      rw [get_nil, get_cons, if_pos rfl] at hy
      exact absurd hy.symm ((wf_cons_iff d _ _ _).1 hb).1
  | cons x a ih =>
    obtain ⟨i, v⟩ := x
    obtain ⟨hv, hia, hwa⟩ := (wf_cons_iff d i v a).1 ha
    have hi : v = Tbl.get d b i := by
      rw [← h i, get_cons, if_pos rfl]
    cases b with
    | nil => exact absurd hi hv
    | cons y b =>
      obtain ⟨j, w⟩ := y
      obtain ⟨hw, hjb, hwb⟩ := (wf_cons_iff d j w b).1 hb
      have hj : Tbl.get d ((i, v) :: a) j = w := by rw [h j, get_cons, if_pos rfl]
      have hij : i = j := by
        by_contra hne
        rw [get_cons, if_neg (Ne.symm hne)] at hi
        rw [get_cons, if_neg hne] at hj
        rcases Nat.lt_or_gt_of_ne hne with hlt | hlt
        · exact hv (hi.trans (get_above d fun e he => hlt.trans (hjb e he)))
        · exact hw (hj.symm.trans (get_above d fun e he => hlt.trans (hia e he)))
      subst hij
      rw [get_cons, if_pos rfl] at hj
      subst hj
      refine congrArg _ (ih hwa hwb fun k => ?_)
      by_cases hk : i = k
      · rw [← hk, get_above d hia, get_above d hjb]
      · have := h k
        rwa [get_cons, get_cons, if_neg hk, if_neg hk] at this

theorem set_set {α : Type} [DecidableEq α] {d : α} {t : Tbl α} (h : Tbl.wf d t = true) (i : Nat) (v w : α) :
    Tbl.set d (Tbl.set d t i v) i w = Tbl.set d t i w := by
  refine eq_of_get (wf_set (wf_set h i v) i w) (wf_set h i w) fun k => ?_
  rw [get_set (wf_set h i v), get_set h, get_set h]
  split <;> rfl

/-! ### The cell, its place in the slot, and the context's part (R73 to R78, R96) -/

/-- The cell a request fills, channel by channel. -/
theorem convert_eq (s : State) (q : Placement) : s.convert q =
    { ctx := q.ctx, residual := q.residual, offGrid := q.offGrid, flags := q.flags, quality := q.quality
      pairs := (List.range q.pairs.length).map fun i =>
        convertPair (s.conversion (16 * q.ctx + i)) (q.pairs.getD i (0, 0))
      freq := q.freq
      saturated := (List.range q.pairs.length).any fun i =>
        pairSaturates (s.conversion (16 * q.ctx + i)) (q.pairs.getD i (0, 0)) } := by
  unfold State.convert State.channelEntries
  simp only [List.map_map, List.any_map, Function.comp_def]

theorem linkCell_perm (pool : Tbl Cell) (c : Nat) (l : List Nat) : (linkCell pool c l).Perm (c :: l) := by
  induction l with
  | nil => exact .refl _
  | cons d l ih =>
    unfold linkCell
    split
    · exact .refl _
    · exact (ih.cons d).trans (.swap c d l)

/-- A cell linked into a list in context order keeps it in context order (R96). -/
theorem linkCell_sorted (pool : Tbl Cell) (c : Nat) {l : List Nat}
    (h : l.Pairwise fun a b => (Tbl.get Cell.zero pool a).ctx ≤ (Tbl.get Cell.zero pool b).ctx) :
    (linkCell pool c l).Pairwise fun a b => (Tbl.get Cell.zero pool a).ctx ≤ (Tbl.get Cell.zero pool b).ctx := by
  induction l with
  | nil => exact List.pairwise_singleton _ _
  | cons d l ih =>
    obtain ⟨hd, hl⟩ := List.pairwise_cons.1 h
    unfold linkCell
    split
    · next hlt =>
      refine List.pairwise_cons.2 ⟨fun b hb => ?_, h⟩
      rcases List.mem_cons.1 hb with rfl | hb
      · exact Nat.le_of_lt hlt
      · exact (Nat.le_of_lt hlt).trans (hd b hb)
    · next hge =>
      refine List.pairwise_cons.2 ⟨fun b hb => ?_, ih hl⟩
      rcases List.mem_cons.1 ((linkCell_perm pool c l).mem_iff.1 hb) with rfl | hb
      · exact Nat.not_lt.1 hge
      · exact hd b hb

/-- The on-time notice counts a report of an awaitable context, until the counts are full (R96, R116). -/
theorem onTimeNotice_eq (s : State) (q : Placement) : s.onTimeNotice q = { s with window :=
    if q.awaitable = true ∧ s.window.total < 4294967295 then { s.window with total := s.window.total + 1 }
    else s.window } := by
  unfold State.onTimeNotice Window.onTime countLimit
  by_cases ha : q.awaitable = true <;> by_cases ht : s.window.total < 4294967295 <;> simp [ha, ht]

/-- The Intake Unit idle again with a report of context k accepted for slot g: its counts, and the context's highest accepted
slot (R51, R66). -/
def admitted (t : State) (q : Placement) : State := (t.counted .accepted).setCtx q.ctx
  { t.ctx q.ctx with
    highest := some (max q.g ((t.ctx q.ctx).highest.getD 0))
    counts := { (t.ctx q.ctx).counts with admitted := satInc (t.ctx q.ctx).counts.admitted } }

theorem accepted_eq {s : State} (hw : Tbl.wf Ctx.zero s.ctxs = true) (q : Placement) : s.accepted q = admitted s q := by
  have haccept : (s.ctx q.ctx).accept q.g =
      { s.ctx q.ctx with highest := some (max q.g ((s.ctx q.ctx).highest.getD 0)) } := by
    unfold Ctx.accept
    cases (s.ctx q.ctx).highest with
    | none => simp
    | some h => simp [max_comm]
  have hread : ((s.intakeEnds .accepted).setCtx q.ctx ((s.ctx q.ctx).accept q.g)).ctx q.ctx =
      (s.ctx q.ctx).accept q.g := (ctx_setCtx (s := s.intakeEnds .accepted) hw _ _ _).trans (if_pos rfl)
  change ((s.intakeEnds .accepted).setCtx q.ctx ((s.ctx q.ctx).accept q.g)).bumpCtx q.ctx .admitted = _
  unfold State.bumpCtx
  rw [hread, haccept]
  exact congrArg (fun cs => { s.counted .accepted with ctxs := cs }) (set_set hw _ _ _)

/-! ### The acceptance (R96, R97) -/

/-- The cell filled and linked into the slot, and the on-time notice sent: step 8 before the completion is evaluated. -/
def filled (s : State) (q : Placement) (c : Nat) (rest : List Nat) : State := (s.fillCell q c rest).onTimeNotice q

/-- The slot with the cell linked into it. -/
def joined (s : State) (q : Placement) (c : Nat) (x : Slot) : Slot :=
  { x with
    arrived := CtxSet.add x.arrived q.ctx
    cells := linkCell (Tbl.set Cell.zero s.store.pool c (s.convert q)) c x.cells }

section
variable {s : State} {q : Placement} {c : Nat} {rest : List Nat}

theorem acceptReport_eq : s.acceptReport q c rest = ((filled s q c rest).evaluate q.g).accepted q := rfl

theorem filled_only : StoreOnly s (filled s q c rest) := (fillCell_only s q c rest).trans (onTimeNotice_only _ q)

theorem filled_eq : filled s q c rest = ({ s with
    window :=
      if q.awaitable = true ∧ s.window.total < 4294967295 then { s.window with total := s.window.total + 1 }
      else s.window
    store := { s.store with
      pool := Tbl.set Cell.zero s.store.pool c (s.convert q), freeList := rest
      lowestFree := min s.store.lowestFree rest.length
      saturatedCells :=
        if (s.convert q).saturated = true then satInc s.store.saturatedCells
        else s.store.saturatedCells } }).setSlot q.g (joined s q c (s.slot q.g)) := by
  unfold filled
  rw [onTimeNotice_eq]
  rfl

theorem filled_ctxs : (filled s q c rest).ctxs = s.ctxs := by
  rw [filled_eq]
  rfl

theorem instant_filled (g : Nat) : (filled s q c rest).instant g = s.instant g := by
  unfold State.instant
  rw [filled_only.params]

theorem slot_filled (hr : Tbl.wf Slot.empty s.store.ring = true) (hs : (s.slot q.g).state ≠ .free) :
    (filled s q c rest).slot q.g = joined s q c (s.slot q.g) := by
  rw [filled_eq]
  exact slot_setSlot_self hr hs (slot_g hs)

variable (hr : Tbl.wf Slot.empty s.store.ring = true) (hw : Tbl.wf Ctx.zero s.ctxs = true)
  (hs : (s.slot q.g).state ≠ .free)
include hr hw hs

/-- An acceptance that leaves its slot as it stands, but for the report. -/
theorem acceptReport_stays (h : (s.slot q.g).state ≠ .opened ∨ (joined s q c (s.slot q.g)).missing ≠ 0
    ∨ s.tru.now < s.instant q.g) : s.acceptReport q c rest = admitted (filled s q c rest) q := by
  have hslot := slot_filled (c := c) (rest := rest) hr hs
  have hstay : (filled s q c rest).evaluate q.g = filled s q c rest := by
    refine evaluate_stays ?_
    rw [hslot, instant_filled, filled_only.tru]
    exact h
  rw [acceptReport_eq, hstay, accepted_eq (by rwa [filled_ctxs])]

/-- The last awaited arrival completes its slot, once its instant has passed (R97). -/
theorem acceptReport_completes (ho : (s.slot q.g).state = .opened) (hm : (joined s q c (s.slot q.g)).missing = 0)
    (hi : s.instant q.g ≤ s.tru.now) : s.acceptReport q c rest =
      admitted (((filled s q c rest).leaveOpen q.g .complete).offerIfLow q.g) q := by
  have hslot := slot_filled (c := c) (rest := rest) hr hs
  have hdone : (filled s q c rest).evaluate q.g =
      ((filled s q c rest).leaveOpen q.g .complete).offerIfLow q.g := by
    refine evaluate_open ?_ ?_ ?_
    · rw [hslot]
      exact ho
    · rw [hslot]
      exact hm
    · rw [instant_filled, filled_only.tru]
      exact hi
  have hctxs : Tbl.wf Ctx.zero (((filled s q c rest).leaveOpen q.g .complete).offerIfLow q.g).ctxs = true :=
    (((keeps_leaveOpen _ _ _).trans (keeps_offerIfLow _ _)).ctxs (by rwa [filled_ctxs])).1
  rw [acceptReport_eq, hdone, accepted_eq hctxs]

end

/-! ### The slot opened for the report (R87, R95) -/

theorem expireIfDue_unopened {s : State} {g : Nat} (h : (s.slot g).state ≠ .opened) : s.expireIfDue g = s :=
  if_neg fun hdue => h hdue.1

/-- A discard for an exhausted pool leaves every slot as it is. -/
theorem slot_dropped_pressed (s : State) (k : Nat) (c : IntakeCount) (d : CtxCount) (g : Nat) :
    (({ s with store := { s.store with poolPressure := true } } : State).dropped k c d).slot g = s.slot g := rfl

/-- Of the store, the ring and the close counts alone have changed. -/
def RingOnly (s t : State) : Prop :=
  t.store = { s.store with ring := t.store.ring, closeCounts := t.store.closeCounts }

theorem RingOnly.trans {s t u : State} (h : RingOnly s t) (k : RingOnly t u) : RingOnly s u := by
  unfold RingOnly at h k ⊢
  rw [h] at k
  exact k

theorem ringOnly_leaveOpen (s : State) (g : Nat) (c : Cause) : RingOnly s (s.leaveOpen g c) := by
  rw [leaveOpen_eq]
  rfl

theorem ringOnly_offerIfLow (s : State) (g : Nat) : RingOnly s (s.offerIfLow g) := by
  unfold State.offerIfLow State.offer
  split
  · dsimp only
    split <;> rfl
  · rfl

theorem ringOnly_evaluate (s : State) (g : Nat) : RingOnly s (s.evaluate g) := by
  unfold State.evaluate
  dsimp only
  split
  · exact (ringOnly_leaveOpen s g _).trans (ringOnly_offerIfLow _ g)
  · rfl

theorem ringOnly_openSlot (s : State) (g : Nat) : RingOnly s (s.openSlot g) :=
  RingOnly.trans rfl (ringOnly_evaluate _ g)

section
variable {s : State} {q : Placement}

/-- The cell filled is the same before and after the slot is opened. -/
theorem convert_openSlot (g : Nat) : (s.openSlot g).convert q = s.convert q := by
  rw [convert_eq, convert_eq]
  unfold State.conversion
  rw [(openSlot_only s g).conv]

/-- The slot that its opening holds open or completes is placed into as one that was held before (R94 to R96). -/
theorem placeable_openSlot (h : s.placeable q.g)
    (ho : ((s.openSlot q.g).slot q.g).state = .opened ∨ ((s.openSlot q.g).slot q.g).state = .complete) :
    (s.openSlot q.g).placeable q.g := by
  obtain ⟨hlate, hnear, hring, -⟩ := h
  have honly := openSlot_only s q.g
  have hstore : (s.openSlot q.g).store.hLow = s.store.hLow := by rw [ringOnly_openSlot s q.g]
  refine ⟨?_, ?_, by rwa [hstore], .inr ho⟩
  · rintro (hl | hc | hc | ⟨-, hc⟩)
    · exact hlate (.inl (hstore ▸ hl))
    all_goals (rw [hc] at ho; rcases ho with ho | ho <;> cases ho)
  · unfold State.gnow
    rw [honly.params, honly.tru]
    exact hnear

variable (hcanon : s.canonical) (hlow : q.g = s.store.hLow) (hzero : s.awaitedFor q.g = 0)
  (hdue : s.instant q.g ≤ s.tru.now)
include hcanon hlow hzero hdue

/-- A slot H_low opened with no context awaited and its instant passed is EMITTING with the composer at once. -/
theorem openSlot_emitting : ((s.openSlot q.g).slot q.g).state = .emitting ∧ ((s.openSlot q.g).slot q.g).cells = []
    ∧ ((s.openSlot q.g).slot q.g).arrived = 0
    ∧ (s.openSlot q.g).composer.working = some { g := q.g, next := 0 }
    ∧ Tbl.wf Slot.empty (s.openSlot q.g).store.ring = true := by
  obtain ⟨-, -, -, hdone⟩ := slotOpening.2.2 s q.g hcanon
  obtain ⟨-, -, -, hring, -⟩ := hcanon
  have hopened := hdone hzero hdue
  set x : Slot := { g := q.g, state := .opened, deadline := s.instant q.g + _ * 100000, awaited := s.awaitedFor q.g } with hx
  set v : State := State.setSlot _ q.g x with hv
  have hvring : Tbl.wf Slot.empty v.store.ring = true := setSlot_wf (s := { s with window := _ }) hring
  have hvslot : v.slot v.store.hLow = x := by
    change v.slot s.store.hLow = x
    rw [← hlow]
    exact slot_setSlot_self (s := { s with window := _ }) hring (fun h => by cases h) rfl
  have hvlow : q.g = v.store.hLow := hlow
  rw [hvlow, offerIfLow_leaveOpen hvring (by rw [hvslot])] at hopened
  have hslot : (s.openSlot q.g).slot q.g =
      { x.leave .complete (v.tru.state, v.tru.quality v.params.drift) with state := .emitting } := by
    rw [hvlow, hopened, hvslot]
    exact slot_setSlot_self (leaveOpen_wf hvring) (fun h => by cases h) hvlow
  rw [hslot, hvlow, hopened]
  exact ⟨rfl, rfl, rfl, rfl, setSlot_wf (leaveOpen_wf hvring)⟩

variable (hp : s.placeable q.g) (hf : (s.slot q.g).state = .free)
include hp hf

/-- A report whose placement makes its slot EMITTING is linked into it, the deadline not being looked at (log entry 15). -/
theorem place_emitting_accepted {c : Nat} {rest : List Nat} (hfree : s.store.freeList = c :: rest) :
    s.place q = admitted (filled (s.openSlot q.g) q c rest) q := by
  obtain ⟨hemit, -, harrived, -, hring⟩ := openSlot_emitting hcanon hlow hzero hdue
  obtain ⟨-, hctxs, -⟩ := hcanon
  have hheld : ((s.openSlot q.g).slot q.g).state ≠ .free := by simp [hemit]
  have hlist : (s.openSlot q.g).store.freeList = c :: rest := by rw [ringOnly_openSlot s q.g, hfree]
  have hslot : ((admitted (filled (s.openSlot q.g) q c rest) q).slot q.g).state = .emitting := by
    have h : (admitted (filled (s.openSlot q.g) q c rest) q).slot q.g =
        joined (s.openSlot q.g) q c ((s.openSlot q.g).slot q.g) := slot_filled hring hheld
    rw [h, joined, hemit]
  rw [place_free hp hf, placeInSlot_accepted (by rw [harrived]; exact has_zero _) hlist,
    acceptReport_stays hring ((keeps_openSlot s q.g).ctxs hctxs).1 hheld (.inl (by simp [hemit])), expireIfDue_unopened (by rw [hslot]; decide)]

/-- With no cell free that report is discarded, the slot being EMITTING already (log entry 15). -/
theorem place_emitting_exhausted (hfree : s.store.freeList = []) :
    s.place q = ({ s.openSlot q.g with
      store := { (s.openSlot q.g).store with poolPressure := true } } : State).dropped q.ctx .poolExhausted .other := by
  obtain ⟨hemit, -, harrived, -, -⟩ := openSlot_emitting hcanon hlow hzero hdue
  have hlist : (s.openSlot q.g).store.freeList = [] := by rw [ringOnly_openSlot s q.g, hfree]
  have hlow' : (s.openSlot q.g).store.hLow = q.g := by rw [ringOnly_openSlot s q.g, hlow]
  rw [place_free hp hf, placeInSlot_exhausted (by rw [harrived]; exact has_zero _) hlist,
    forcePool_other (by rw [hlow', hemit]; decide)]
  exact expireIfDue_unopened (by rw [slot_dropped_pressed, hemit]; decide)

end

/-- Settles O22: the acceptance into a held slot, and into the slot that the report opens. -/
theorem placementAccepts : Obligations.PlacementAccepts := by
  intro s q hcanon hb he hp entry cell pool join fill accept
  have hcell : s.convert q = cell := convert_eq s q
  have hfill {o : State} (hpool : o.store.pool = s.store.pool) (hc : o.convert q = s.convert q) (c : Nat)
      (rest : List Nat) : filled o q c rest = fill o c rest := by
    rw [filled_eq, joined, hpool, hc, hcell]
  have hplace {o t : State} (hbo : o.intake.busy = some q) (heo : o.mgmt.engine ≠ .resetting) (h : o.place q = t) :
      exec .placementRequest o = .next t := congrArg _ ((takePlacement_place hbo heo).trans h)
  have honly := openSlot_only s q.g
  refine ⟨fun c rest hs hd hfree => ?held, fun hf ho t ht => ?opened, fun hf hlow hzero hdue => ?emitting⟩
  case held =>
    intro x y v
    obtain ⟨-, hctxs, -, hring, -⟩ := hcanon
    have hv : filled s q c rest = v := hfill rfl rfl c rest
    have hmissing : (joined s q c x).missing = CtxSet.minus x.awaited y.arrived := rfl
    have haccept := (place_held hp hs).trans (placeInSlot_accepted hd hfree)
    refine ⟨fun h => hplace hb he (haccept.trans ?_), fun ho hm hi => hplace hb he (haccept.trans ?_),
      linkCell_perm _ c x.cells, linkCell_sorted _ c⟩
    · have hopen : x.state = .complete → x.state ≠ .opened := fun h => by simp [h]
      rw [acceptReport_stays hring hctxs hs (h.imp hopen id), hv]
      rfl
    · rw [acceptReport_completes hring hctxs hs ho (hmissing.trans hm) hi, hv]
      rfl
  case opened =>
    have hheld : ((s.openSlot q.g).slot q.g).state ≠ .free := by rcases ho with ho | ho <;> simp [ho]
    have hbo : (s.openSlot q.g).intake.busy = some q := by rw [honly.intake, hb]
    have heo : (s.openSlot q.g).mgmt.engine ≠ .resetting := by rwa [honly.mgmt]
    rw [hplace hbo heo (place_held (placeable_openSlot hp ho) hheld)] at ht
    cases ht
    exact hplace hb he (place_free hp hf)
  case emitting =>
    intro o
    obtain ⟨hemit, hcells, -, hworking, -⟩ := openSlot_emitting hcanon hlow hzero hdue
    have hpool : o.store.pool = s.store.pool := by rw [ringOnly_openSlot s q.g]
    refine ⟨hemit, hcells, by rw [ringOnly_openSlot s q.g], hworking, fun c rest hfree => hplace hb he ?_,
      fun hfree => hplace hb he (place_emitting_exhausted hcanon hlow hzero hdue hp hf hfree)⟩
    rw [place_emitting_accepted hcanon hlow hzero hdue hp hf hfree, hfill hpool (convert_openSlot q.g)]
    rfl

end Sys2Proof.Proofs.Accepting
end

/-! ## The bytes of each table's entry (O43) -/

section
namespace Sys2Proof.Proofs.Entries
open Sys2Proof Sys2Proof.Machine Sys2Proof.Laws Sys2Proof.Proofs.Records Sys2Proof.Proofs.Status
  Sys2Proof.Proofs.Admission Sys2Proof.Proofs.Grid

theorem beBytes_one (n : Nat) : beBytes 1 n = [BitVec.ofNat 8 n] := by
  unfold beBytes beBytes
  rw [Nat.pow_zero, Nat.div_one]

/-! ### The entries, part by part (R173) -/

/-- The parts of a bound way. -/
def wayParts (b : Binding) : List Part := [num 1 1, num 1 0, num 2 b.streamId.toNat, num 2 b.ctx, num 2 0]

theorem way_record (b : Binding) : Record (mapEntry (some b)) (wayParts b) [] := by
  refine ⟨?_, by simp [wayParts, sized_cons, sized_nil, num_length]⟩
  simp only [mapEntry, wayParts, layout, num, beBytes_one, List.map_nil, List.append_nil, List.flatMap_cons,
    List.flatMap_nil, List.cons_append, List.nil_append, List.append_assoc]
  rfl

/-- The flags of a context's entry (R173). -/
def ctxFlags (c : Ctx) : Nat :=
  bit c.binding.isSome + 2 * bit c.enabled + 4 * bit c.expected.isSome + 8 * bit c.highest.isSome

/-- The parts of a context's entry before its counters; an unset one is a free value (log entry 10). -/
def ctxParts (event k : Nat) (c : Ctx) : List Part :=
  [num 1 (formatCode c.desc.format), num 1 c.desc.channels, num 1 (bit c.desc.hasFreq), num 1 (policyCode c.desc.policy),
    num 1 c.desc.rate, num 1 (ctxFlags c), num 2 c.desc.tolerance, num 4 c.desc.timeBase,
    num 2 (c.binding.getD (Config.unboundId event k)).toNat, num 1 c.confidence, num 1 0,
    num 6 (c.expected.getD (Config.unsetExpected event k).toNat),
    num 6 (c.highest.getD (Config.unsetHighest event k).toNat)]

/-- The counters of a context's entry (R52). -/
def ctxCounters (c : Ctx) : List Nat :=
  [c.counts.admitted, c.counts.late, c.counts.offGrid, c.counts.duplicate, c.counts.other]

theorem ctx_record (event k : Nat) (c : Ctx) : Record (ctxEntry event k c) (ctxParts event k c) (ctxCounters c) := by
  refine ⟨?_, by simp [ctxParts, sized_cons, sized_nil, num_length]⟩
  simp only [ctxEntry, ctxParts, ctxCounters, ctxFlags, layout, num, beBytes_one, List.map_cons, List.map_nil,
    List.append_nil, List.flatMap_cons, List.flatMap_nil, List.cons_append, List.nil_append, List.append_assoc]
  rfl

/-- The parts of a calibration entry. -/
def conversionParts (c : Conversion) : List Part :=
  [num 2 c.multiplier, num 1 c.shift, num 1 0, num 2 (c.rotC % 256 ^ 2).toNat, num 2 (c.rotD % 256 ^ 2).toNat]

theorem conversion_record (c : Conversion) : Record (conversionEntry c) (conversionParts c) [] := by
  refine ⟨?_, by simp [conversionParts, sized_cons, sized_nil, num_length]⟩
  simp only [conversionEntry, conversionParts, beInt, layout, num, beBytes_one, List.map_nil, List.append_nil,
    List.flatMap_cons, List.flatMap_nil, List.cons_append, List.nil_append, List.append_assoc]
  rfl

/-- The parts of a profile's entry. -/
def profileParts (p : Profile) (held : Nat) : List Part :=
  [num 1 (bit p.enabled), num 1 (formatCode p.format), num 1 p.shift, num 1 (bit p.inclFreq), num 4 p.dest.toNat,
    num 2 p.base, num 2 p.count, num 1 p.decimation, num 1 (classCode p.cls), num 1 p.depth, num 1 held]

theorem profile_record (p : Profile) (held : Nat) : Record (profileEntry p held) (profileParts p held) [] := by
  refine ⟨?_, by simp [profileParts, sized_cons, sized_nil, num_length]⟩
  simp only [profileEntry, profileParts, layout, num, beBytes_one, List.map_nil, List.append_nil,
    List.flatMap_cons, List.flatMap_nil, List.cons_append, List.nil_append, List.append_assoc]

/-- The parts of a manager's entry. -/
def managerParts (m : Manager) : List Part := [num 4 m.source.toNat, num 1 m.cls, num 1 (bit m.enabled), num 2 0]

theorem manager_record (m : Manager) : Record (managerEntry m) (managerParts m) [] := by
  refine ⟨?_, by simp [managerParts, sized_cons, sized_nil, num_length]⟩
  simp only [managerEntry, managerParts, layout, num, beBytes_one, List.map_nil, List.append_nil, List.flatMap_cons,
    List.flatMap_nil, List.cons_append, List.nil_append]
  rfl

/-- The parts of an access entry. -/
def accessParts (a : Access) : List Part := [num 1 a.level, num 1 a.deny.toNat]

theorem access_record (a : Access) : Record (accessEntry a) (accessParts a) [] := by
  refine ⟨?_, by simp [accessParts, sized_cons, sized_nil, num_length]⟩
  simp only [accessEntry, accessParts, layout, num, beBytes_one, List.map_nil, List.append_nil, List.flatMap_cons,
    List.flatMap_nil, List.cons_append, List.nil_append]

theorem mapEntry_length (b : Binding) : (mapEntry (some b)).length = 8 :=
  (way_record b).length.trans (by simp [wayParts])

theorem ctxEntry_length (event k : Nat) (c : Ctx) : (ctxEntry event k c).length = 48 :=
  (ctx_record event k c).length.trans (by simp [ctxParts, ctxCounters])

theorem conversionEntry_length (c : Conversion) : (conversionEntry c).length = 8 :=
  (conversion_record c).length.trans (by simp [conversionParts])

theorem profileEntry_length (p : Profile) (held : Nat) : (profileEntry p held).length = 16 :=
  (profile_record p held).length.trans (by simp [profileParts])

theorem managerEntry_length (m : Manager) : (managerEntry m).length = 8 :=
  (manager_record m).length.trans (by simp [managerParts])

theorem accessEntry_length (a : Access) : (accessEntry a).length = 2 :=
  (access_record a).length.trans (by simp [accessParts])

/-! ### What READ_ENTRIES returns of each table (R158) -/

section
variable (s : State) (i : Nat)

theorem readEntry_param : s.readEntry 0 i = (num 4 (s.paramValue i)).2 := rfl
theorem readEntry_map : s.readEntry 1 i = mapEntry (s.way i) := rfl
theorem readEntry_ctx : s.readEntry 2 i = ctxEntry s.free i (s.ctx i) := rfl
theorem readEntry_conversion : s.readEntry 3 i = conversionEntry (s.conversion i) := rfl
theorem readEntry_profile : s.readEntry 4 i = profileEntry (s.profile i) (s.holding i).sets.length := rfl
theorem readEntry_member : s.readEntry 5 i = beBytes 2 (s.member i) := rfl
theorem readEntry_manager : s.readEntry 6 i = managerEntry (s.manager i) := rfl
theorem readEntry_access : s.readEntry 7 i = accessEntry (s.access i) := rfl

end

/-! ### Their fields -/

theorem holdsFields_num (k v : Nat) : holdsFields (beBytes k v) [(0, k, v)] := by
  intro f hf
  rw [List.mem_singleton.1 hf]
  exact field_num k v

/-- The 23 parameters, four bytes each (R159). -/
theorem param_lengths (s : State) : ((List.range 23).map (s.readEntry 0)).all (fun bs => bs.length == 4) = true := by
  rw [List.all_map, List.all_eq_true]
  exact fun i _ => beq_iff_eq.2 (beBytes_length 4 (s.paramValue i))

theorem param_fields (s : State) : ((List.range 23).map (s.readEntry 0)).map (field · 0 4) =
    ((List.range 23).map s.paramValue).map (· % 2 ^ 32) := by
  rw [List.map_map, List.map_map]
  refine List.map_congr_left fun i _ => ?_
  rw [Function.comp_apply, Function.comp_apply, readEntry_param, field_num]
  norm_num

theorem formatCode_eq (f : Format) : formatCode f = if f = .rect16 then 0 else 1 := by cases f <;> rfl

theorem policyCode_eq (p : Policy) : policyCode p = if p = .discard then 0 else 1 := by cases p <;> rfl

theorem ctx_fields (event k : Nat) (c : Ctx) :
    holdsFields (ctxEntry event k c) ([(0, 1, if c.desc.format = .rect16 then 0 else 1), (1, 1, c.desc.channels),
        (2, 1, bit c.desc.hasFreq), (3, 1, if c.desc.policy = .discard then 0 else 1), (4, 1, c.desc.rate),
        (6, 2, c.desc.tolerance), (8, 4, c.desc.timeBase), (14, 1, c.confidence), (15, 1, 0)]
      ++ countFields 28 [c.counts.admitted, c.counts.late, c.counts.offGrid, c.counts.duplicate, c.counts.other]) := by
  rw [← formatCode_eq, ← policyCode_eq]
  refine Record.fields (cs := ctxCounters c) (head := ctxParts event k c) (ctx_record event k c) ?_ ?_
  · simp [ctxParts]
  · simp only [ctxParts, partAt, List.map_cons, List.map_nil, num_fst]
    rfl

/-- Four flags in the low half of a byte, each its own bit. -/
theorem fourFlags_bits (a b c d : Bool) :
    let v : Byte := BitVec.ofNat 8 (bit a + 2 * bit b + 4 * bit c + 8 * bit d)
    v.getLsbD 0 = a ∧ v.getLsbD 1 = b ∧ v.getLsbD 2 = c ∧ v.getLsbD 3 = d := by
  revert a b c d
  decide

theorem ctx_flags (event k : Nat) (c : Ctx) :
    (byteAt (ctxEntry event k c) 5).getLsbD 0 = c.binding.isSome
      ∧ (byteAt (ctxEntry event k c) 5).getLsbD 1 = c.enabled
      ∧ (byteAt (ctxEntry event k c) 5).getLsbD 2 = c.expected.isSome
      ∧ (byteAt (ctxEntry event k c) 5).getLsbD 3 = c.highest.isSome := by
  rw [byteAt_flags (ctx_record event k c) (v := ctxFlags c) rfl]
  exact fourFlags_bits _ _ _ _

/-- The fields of a context that may be unset read as they stand where they are set. -/
theorem ctx_setFields (event k : Nat) (c : Ctx) :
    (∀ sid, c.binding = some sid → field (ctxEntry event k c) 12 2 = sid.toNat)
      ∧ (∀ g, c.expected = some g → field (ctxEntry event k c) 16 6 = g % 256 ^ 6)
      ∧ ∀ g, c.highest = some g → field (ctxEntry event k c) 22 6 = g % 256 ^ 6 := by
  have h := ctx_record event k c
  refine ⟨fun sid hsid => ?_, fun g hg => ?_, fun g hg => ?_⟩
  · rw [h.field (k := 2) (v := (c.binding.getD (Config.unboundId event k)).toNat) rfl, hsid]
    exact Nat.mod_eq_of_lt sid.isLt
  · rw [h.field (k := 6) (v := c.expected.getD (Config.unsetExpected event k).toNat) rfl, hg]
    rfl
  · rw [h.field (k := 6) (v := c.highest.getD (Config.unsetHighest event k).toNat) rfl, hg]
    rfl

/-- A signed number of two bytes reads back as it. -/
theorem signedField_of_field {bs : List Byte} {off : Nat} {x : Int} (h : field bs off 2 = (x % 256 ^ 2).toNat % 256 ^ 2)
    (hlo : -32768 ≤ x) (hhi : x ≤ 32767) : signedField bs off 2 = x := by
  rw [signedField_eq bs off (by decide), h]
  split <;> omega

theorem conversion_rotation {c : Conversion} :
    (-32768 ≤ c.rotC → c.rotC ≤ 32767 → signedField (conversionEntry c) 4 2 = c.rotC)
      ∧ (-32768 ≤ c.rotD → c.rotD ≤ 32767 → signedField (conversionEntry c) 6 2 = c.rotD) :=
  ⟨signedField_of_field ((conversion_record c).field rfl), signedField_of_field ((conversion_record c).field rfl)⟩

theorem profile_fields (p : Profile) (held : Nat) :
    holdsFields (profileEntry p held)
      [(0, 1, bit p.enabled), (1, 1, if p.format = .rect16 then 0 else 1), (2, 1, p.shift), (3, 1, bit p.inclFreq),
        (4, 4, p.dest.toNat), (8, 2, p.base), (10, 2, p.count), (12, 1, p.decimation), (13, 1, classCode p.cls),
        (14, 1, p.depth), (15, 1, held)] := by
  rw [← formatCode_eq]
  exact (profile_record p held).headFields rfl

/-! ### Read back by a write (R42, R71, R124, R155, R156) -/

theorem yesNo_bit (b : Bool) : yesNo (BitVec.ofNat 8 (bit b)) = some b := by cases b <;> rfl

theorem formatOf_code (f : Format) : formatOf (BitVec.ofNat 8 (formatCode f)) = some f := by cases f <;> rfl

theorem policyOf_code (p : Policy) : policyOf (BitVec.ofNat 8 (policyCode p)) = some p := by cases p <;> rfl

theorem classOf_code (c : PriorityClass) : classOf (BitVec.ofNat 8 (classCode c)) = some c := by cases c <;> rfl

section
variable {bs : List Byte} {head : List Part} {cs : List Nat} {off v : Nat} (h : Record bs head cs)
include h

/-- A number of one byte that fits it. -/
theorem byteAt_small (hp : partAt head off = some (num 1 v)) (hv : v < 256) : (byteAt bs off).toNat = v := by
  rw [byteAt_flags h hp, BitVec.toNat_ofNat]
  exact Nat.mod_eq_of_lt hv

/-- A number of k bytes that fits them. -/
theorem field_small {k : Nat} (hp : partAt head off = some (num k v)) (hv : v < 256 ^ k) : field bs off k = v := by
  rw [h.field hp]
  exact Nat.mod_eq_of_lt hv

end

theorem descriptorOf_ctxEntry (event n : Nat) (c : Ctx) (hch : c.desc.channels ≤ 16) (hrate : c.desc.rate ∈ rates)
    (hbase : 1 ≤ c.desc.timeBase) (hmax : c.desc.timeBase ≤ 1073741823) (htol : c.desc.tolerance ≤ 65535) :
    descriptorOf (ctxEntry event n c) = some c.desc := by
  have h := ctx_record event n c
  have hrate256 : c.desc.rate < 256 := by
    have := (rates_bounds _ hrate).2
    omega
  unfold descriptorOf
  rw [byteAt_flags h (off := 0) rfl, byteAt_flags h (off := 2) rfl, byteAt_flags h (off := 3) rfl, formatOf_code,
    yesNo_bit, policyOf_code, byteAt_small h (off := 1) rfl (by omega), byteAt_small h (off := 4) rfl hrate256,
    field_small h (off := 6) (k := 2) rfl (by omega), field_small h (off := 8) (k := 4) rfl (by omega)]
  exact if_pos ⟨hch, hrate, hbase, hmax⟩

theorem conversionOf_conversionEntry {c : Conversion} (hm : c.multiplier ≤ 65535) (hs : c.shift ≤ 31)
    (hc1 : -16384 ≤ c.rotC) (hc2 : c.rotC ≤ 16384) (hd1 : -16384 ≤ c.rotD) (hd2 : c.rotD ≤ 16384) :
    conversionOf (conversionEntry c) = some c := by
  have h := conversion_record c
  obtain ⟨hrotC, hrotD⟩ := conversion_rotation (c := c)
  unfold conversionOf
  rw [byteAt_small h (off := 2) rfl (by omega), field_small h (off := 0) (k := 2) rfl (by omega),
    hrotC (by omega) (by omega), hrotD (by omega) (by omega)]
  exact if_pos ⟨hs, hc1, hc2, hd1, hd2⟩

theorem profileOf_profileEntry (p : Profile) (held : Nat) (hb : p.base ≤ 1023) (hc : p.count ≤ 256) (hs : p.shift ≤ 15)
    (hk1 : 1 ≤ p.decimation) (hk2 : p.decimation ≤ 240) (hq1 : p.depth ≠ 1) (hq2 : p.depth ≤ 16) :
    profileOf (profileEntry p held) = some { p with enabled := false } := by
  have h := profile_record p held
  unfold profileOf
  rw [byteAt_flags h (off := 1) rfl, byteAt_flags h (off := 3) rfl, byteAt_flags h (off := 13) rfl, formatOf_code,
    yesNo_bit, classOf_code, byteAt_small h (off := 2) rfl (by omega), byteAt_small h (off := 12) rfl (by omega),
    byteAt_small h (off := 14) rfl (by omega), field_small h (off := 8) (k := 2) rfl (by omega),
    field_small h (off := 10) (k := 2) rfl (by omega), field_small h (off := 4) (k := 4) rfl p.dest.isLt,
    BitVec.ofNat_toNat, BitVec.setWidth_eq]
  exact if_pos ⟨hb, hc, hs, hk1, hk2, hq1, hq2⟩

theorem managerOf_managerEntry {m : Manager} (hc : m.cls ≤ 3) :
    Machine.managerOf (managerEntry m) = some m := by
  have h := manager_record m
  unfold Machine.managerOf
  rw [byteAt_flags h (off := 5) rfl, yesNo_bit, byteAt_small h (off := 4) rfl (by omega),
    field_small h (off := 0) (k := 4) rfl m.source.isLt, BitVec.ofNat_toNat, BitVec.setWidth_eq]
  exact if_pos hc

theorem accessOf_accessEntry {a : Access} (hl : a.level ≤ 3) : accessOf (accessEntry a) = some a := by
  have h := access_record a
  have hdeny : a.deny.toNat < 16 := a.deny.isLt
  unfold accessOf
  rw [byteAt_small h (off := 0) rfl (by omega), byteAt_small h (off := 1) rfl (by omega), BitVec.ofNat_toNat,
    BitVec.setWidth_eq]
  exact if_pos ⟨hl, hdeny⟩

/-- Settles O43: each table's entry by its parts, and the parts that a write reads. -/
theorem entriesReadBack : Obligations.EntriesReadBack := by
  refine ⟨fun k v => ⟨beNat_beBytes k v, beBytes_length k v⟩, fun s i => ?_, ⟨rfl, rfl⟩,
    fun event n c hch hrate hbase hmax htol =>
      ⟨ctxEntry_length event n c, descriptorOf_ctxEntry event n c hch hrate hbase hmax htol⟩,
    fun c hm hs hc1 hc2 hd1 hd2 => ⟨conversionEntry_length c, conversionOf_conversionEntry hm hs hc1 hc2 hd1 hd2⟩,
    fun p held hb hc hs hk1 hk2 hq1 hq2 =>
      ⟨profileEntry_length p held, profileOf_profileEntry p held hb hc hs hk1 hk2 hq1 hq2⟩,
    fun m hc => ⟨managerEntry_length m, managerOf_managerEntry hc⟩,
    fun a hl => ⟨accessEntry_length a, accessOf_accessEntry hl⟩⟩
  rw [readEntry_map, readEntry_ctx, readEntry_conversion, readEntry_profile, readEntry_member, readEntry_manager,
    readEntry_access]
  refine ⟨⟨param_lengths s, param_fields s⟩, fun hfree => by rw [hfree]; rfl, fun b hb => ?_,
    ⟨ctxEntry_length s.free i (s.ctx i), ctx_fields s.free i (s.ctx i), ?_⟩,
    ⟨(conversion_record (s.conversion i)).headFields rfl, conversion_rotation⟩,
    profile_fields (s.profile i) (s.holding i).sets.length, beBytes_length 2 (s.member i),
    holdsFields_num 2 (s.member i), (manager_record (s.manager i)).headFields rfl,
    (access_record (s.access i)).headFields rfl⟩
  · rw [hb]
    exact ⟨mapEntry_length b, (way_record b).headFields rfl⟩
  · obtain ⟨hbound, hon, hexpected, hhighest⟩ := ctx_flags s.free i (s.ctx i)
    exact ⟨hbound, hon, hexpected, hhighest, ctx_setFields s.free i (s.ctx i)⟩

end Sys2Proof.Proofs.Entries
end

/-! ## ENGINE_RESET and the scrub's end (O48) -/

section
namespace Sys2Proof.Proofs.Reset
open Sys2Proof Sys2Proof.Machine Sys2Proof.Laws Sys2Proof.Proofs.Flush

/-- The state that ENGINE_RESET leaves where no flush was outstanding (R165). -/
def restarted (s : State) (r : Request) : State :=
  { s with
    ctxs := Tbl.update Ctx.zero (fun _ c => c.afterReset) s.ctxs
    intake := s.intake.afterReset
    store := s.store.afterReset
    window := Window.afterReset s.params
    composer := ({} : Composer)
    egress := s.egress.afterReset
    mgmt := { s.mgmt with
      engine := .resetting, deferredReset := some { source := r.source, tag := r.tag }
      pendingMap := 0, deferredFlush := none, counts := ({} : MgmtCounts) }
    free := s.free + 1 }

/-- The answer of the flush that ended with the reset (R134, R137). -/
def flushAnswer (s : State) (r : Request) (d : Deferred) : OutFrame :=
  (restarted s r).formAnswer d.source d.tag 0x24 (reply .done)

/-- The reset while its directive is executed, with the answers formed and the management counts it leaves. -/
def restarting (s : State) (r : Request) (formed : List OutFrame) (counts : MgmtCounts) : State :=
  { restarted s r with
    mgmt := { (restarted s r).mgmt with exec := .executing, formed := formed, counts := counts }
    free := s.free }

section
variable {s : State} {r : Request} {d : Deferred}

theorem flushEnded_none {t : State} (h : t.mgmt.deferredFlush = none) :
    t.flushEnded = { t with composer := { t.composer with flushBusy := false } } := by
  unfold State.flushEnded
  dsimp only
  rw [h]

theorem flushEnded_some {t : State} (h : t.mgmt.deferredFlush = some d) :
    t.flushEnded = { t with
      composer := { t.composer with flushBusy := false }
      mgmt := { t.mgmt with
        deferredFlush := none
        counts := { t.mgmt.counts with executed := satInc t.mgmt.counts.executed }
        formed := t.mgmt.formed ++
          [{ t with composer := { t.composer with flushBusy := false } }.formAnswer d.source d.tag 0x24
            (reply .done)] } } := by
  unfold State.flushEnded
  dsimp only
  rw [h]
  rfl

/-- Every block's part of the reset, before the flush's end is told (R165). -/
def blocksCleared (s : State) : State :=
  { s with
    ctxs := Tbl.update Ctx.zero (fun _ c => c.afterReset) s.ctxs
    intake := s.intake.afterReset
    store := s.store.afterReset
    window := Window.afterReset s.params
    composer := s.composer.afterReset
    egress := s.egress.afterReset
    mgmt := { s.mgmt with engine := .resetting, pendingMap := 0, counts := {} } }

/-- The reset's own answer is deferred (R165). -/
def deferring (r : Request) (t : State) : State :=
  { t with mgmt := { t.mgmt with deferredReset := some { source := r.source, tag := r.tag } } }

theorem engineResetWork_eq (s : State) (r : Request) :
    s.engineResetWork (plainDirective r .engineReset) = deferring r (blocksCleared s).flushEnded := rfl

theorem engineResetWork_noFlush (h : s.mgmt.deferredFlush = none) :
    (s.setExec .executing).engineResetWork (plainDirective r .engineReset) = restarting s r s.mgmt.formed {} := by
  rw [engineResetWork_eq, flushEnded_none (t := blocksCleared (s.setExec .executing)) h]
  unfold restarting restarted
  rw [← h]
  rfl

theorem engineResetWork_flush (h : s.mgmt.deferredFlush = some d) :
    (s.setExec .executing).engineResetWork (plainDirective r .engineReset) =
      restarting s r (s.mgmt.formed ++ [flushAnswer s r d]) { ({} : MgmtCounts) with executed := 1 } := by
  rw [engineResetWork_eq, flushEnded_some (t := blocksCleared (s.setExec .executing)) h]
  rfl

/-- ENGINE_RESET from class 0 comes to its own work (R154, R156). -/
theorem exec_engineReset {u : State} (hcan : s.canRun r 0)
    (hwork : (s.setExec .executing).engineResetWork (plainDirective r .engineReset) = u) :
    exec (.engineReset r) s = .next (u.settleAndJudge.setExec .idle).nextFree.settleAndJudge := by
  obtain ⟨⟨hidle, hclass, hintake⟩, hengine⟩ := hcan
  have hexec : exec (.engineReset r) s = .next (s.takeDirective (plainDirective r .engineReset)) := rfl
  have hchecks : (s.setExec .executing).checkKnown 0 .engineReset (plainDirective r .engineReset) = none := by
    refine (Checks.checkKnown_wellFramed (k := .engineReset) ⟨nofun, rfl, rfl⟩).trans ?_
    rw [if_neg fun h => hengine h.1, if_neg nofun, if_neg fun h => nomatch h.1]
  have hown : (s.setExec .executing).directiveWork 0 (plainDirective r .engineReset) = (u, none) :=
    (directiveWork_own (c := .engineReset) rfl hchecks).trans (congrArg (·, none) hwork)
  rw [hexec, takeDirective_idle hidle, runDirective_deferred hintake hclass hown]

/-- No drain is judged at its end in another state than DRAINING (R164). -/
theorem settleAndJudge_of_settle {t u : State} (hs : t.settle = u) (he : u.mgmt.engine ≠ .draining) :
    t.settleAndJudge = u := by
  unfold State.settleAndJudge
  rw [hs]
  exact judgeDrain_rest fun h => he h.1

/-- With no link READY, what the reset has formed stays until its execution ends (R153). -/
theorem settleAndJudge_restarting {formed : List OutFrame} {counts : MgmtCounts} (hl : s.egress.link ≠ .ready) :
    (restarting s r formed counts).settleAndJudge = restarting s r formed counts :=
  settleAndJudge_of_settle (settle_rest (.inl hl) rfl (.inr rfl) fun _ h => nomatch h) nofun

/-- The execution is over and the answer of the flush that ended stands formed. -/
def flushDue (s : State) (r : Request) (d : Deferred) : State :=
  ((restarting s r [flushAnswer s r d] { ({} : MgmtCounts) with executed := 1 }).setExec .idle).nextFree

/-- The management state once that answer is no longer formed. -/
theorem mgmt_flushDue (hformed : s.mgmt.formed = []) (e : Execution) :
    ({ (flushDue s r d).mgmt with exec := e, formed := [] } : Mgmt) =
      { (restarted s r).mgmt with exec := e, counts := { ({} : MgmtCounts) with executed := 1 } } := by
  rw [Mgmt.mk.injEq]
  exact ⟨rfl, rfl, rfl, rfl, rfl, hformed.symm, rfl, rfl, rfl, rfl, rfl⟩

/-- Without a flush outstanding nothing is due after the reset. -/
theorem exec_reset_noFlush (hcan : s.canRun r 0) (hformed : s.mgmt.formed = []) (hl : s.egress.link ≠ .ready)
    (h : s.mgmt.deferredFlush = none) : exec (.engineReset r) s = .next (restarted s r) := by
  have hidle : s.mgmt.exec = .idle := hcan.1.1
  rw [exec_engineReset hcan (engineResetWork_noFlush h), settleAndJudge_restarting hl, hformed]
  have hend : ((restarting s r [] {}).setExec .idle).nextFree = restarted s r := by
    unfold restarting State.setExec State.nextFree
    dsimp only
    rw [State.mk.injEq, Mgmt.mk.injEq]
    exact ⟨rfl, rfl, rfl, rfl, rfl, rfl, rfl, rfl, rfl, rfl, rfl, rfl,
      ⟨rfl, hidle.symm, rfl, rfl, rfl, hformed.symm, rfl, rfl, rfl, rfl, rfl⟩, rfl, rfl⟩
  have hrest : (restarted s r).settle = restarted s r :=
    settle_rest (.inl hl) rfl (.inl hformed) fun _ ha => nomatch hidle.symm.trans ha
  rw [hend, settleAndJudge_of_settle hrest nofun]

/-- An IDLE unit's formed answer waits at a full queue without a LOW entry (R149, R153). -/
theorem settle_formedWaits {t : State} {a : OutFrame} (hx : t.mgmt.exec = .idle) (hf : t.mgmt.formed = [a])
    (ho : t.composer.outbound = []) (hl : t.egress.link ≠ .ready) (hr : t.egress.hasRoom = false)
    (hlow : t.egress.hasLow = false) :
    t.settle = { t with
      mgmt := { t.mgmt with exec := .waiting a, formed := [] }
      egress := { t.egress with
        counts := { t.egress.counts with answerWaits := satInc t.egress.counts.answerWaits } } } := by
  have hrefused : ¬t.egress.takes = true := by
    unfold Egress.takes
    rw [hr, hlow]
    decide
  have hstep : t.egressStep = some { t with
      mgmt := { t.mgmt with exec := .waiting a, formed := [] }
      egress := { t.egress with
        counts := { t.egress.counts with answerWaits := satInc t.egress.counts.answerWaits } } } := by
    unfold State.egressStep
    rw [if_neg fun h => hl h.1, hx, hf]
    unfold State.offerAnswer
    exact congrArg some (if_neg hrefused)
  unfold State.settle
  rw [show 2 * t.composer.outbound.length + t.mgmt.formed.length + 8
    = (2 * t.composer.outbound.length + t.mgmt.formed.length + 7) + 1 from rfl, Batches.settleSteps_succ _ hstep]
  exact settleSteps_rest _ (egressStep_rest (.inl hl) ho (.inl rfl) fun _ _ => hr)

/-- The answer of the flush that ended with the reset is formed while the directive is executed, and offered after it. -/
theorem exec_reset_flush {t : State} (hcan : s.canRun r 0) (hformed : s.mgmt.formed = []) (hl : s.egress.link ≠ .ready)
    (h : s.mgmt.deferredFlush = some d)
    (hsettle : (flushDue s r d).settle = t) (he : t.mgmt.engine ≠ .draining) : exec (.engineReset r) s = .next t := by
  rw [exec_engineReset hcan (engineResetWork_flush h), settleAndJudge_restarting hl, hformed, List.nil_append]
  exact congrArg _ (settleAndJudge_of_settle hsettle he)

theorem exec_reset_room (hcan : s.canRun r 0) (hformed : s.mgmt.formed = []) (hl : s.egress.link ≠ .ready)
    (h : s.mgmt.deferredFlush = some d) (hroom : s.egress.afterReset.queue.length < 32) :
    exec (.engineReset r) s = .next { restarted s r with
      mgmt := { (restarted s r).mgmt with exec := .idle, counts := { ({} : MgmtCounts) with executed := 1 } }
      egress := s.egress.afterReset.enter s.tru.osc (flushAnswer s r d) } := by
  have hsettle := settle_formed (s := flushDue s r d) rfl rfl rfl hl hroom
  refine exec_reset_flush hcan hformed hl h (hsettle.trans ?_) nofun
  exact congrArg (fun m => { restarted s r with
    mgmt := m, egress := s.egress.afterReset.enter s.tru.osc (flushAnswer s r d) }) (mgmt_flushDue hformed _)

theorem exec_reset_full (hcan : s.canRun r 0) (hformed : s.mgmt.formed = []) (hl : s.egress.link ≠ .ready)
    (h : s.mgmt.deferredFlush = some d) (hfull : 32 ≤ s.egress.afterReset.queue.length)
    (hlow : ∀ e ∈ s.egress.afterReset.queue, e.frame.cls ≠ .low) :
    exec (.engineReset r) s = .next { restarted s r with
      mgmt := { (restarted s r).mgmt with
        exec := .waiting (flushAnswer s r d), counts := { ({} : MgmtCounts) with executed := 1 } }
      egress := { s.egress.afterReset with counts := { s.egress.afterReset.counts with answerWaits := 1 } } } := by
  have hroom : s.egress.afterReset.hasRoom = false := decide_eq_false (Nat.not_lt.2 hfull)
  have hnolow : s.egress.afterReset.hasLow = false := by
    unfold Egress.hasLow
    rw [List.any_eq_false]
    exact fun e he => by simp [hlow e he]
  have hsettle := settle_formedWaits (t := flushDue s r d) rfl rfl rfl hl hroom hnolow
  refine exec_reset_flush hcan hformed hl h (hsettle.trans ?_) nofun
  exact congrArg (fun m => { restarted s r with
    mgmt := m
    egress := { s.egress.afterReset with counts := { s.egress.afterReset.counts with answerWaits := 1 } } })
    (mgmt_flushDue hformed _)

/-- The deferred answer is formed as the scrub ends, and enters a queue with room (R108, R165). -/
theorem exec_scrubCompletion (hscrub : s.store.scrubbing = true) (hreset : s.mgmt.deferredReset = some d)
    (hidle : s.mgmt.exec = .idle) (hformed : s.mgmt.formed = []) (ho : s.composer.outbound = [])
    (hr : s.egress.queue.length < 32) (hl : s.egress.link ≠ .ready) :
    let v : State := { s with
      store := { s.store with pool := [], scrubbing := false }
      mgmt := { s.mgmt with engine := .paused, deferredReset := none } }
    exec .scrubCompletion s = .next { v with
      egress := s.egress.enter s.tru.osc (v.formAnswer d.source d.tag 0x23 (reply .done))
      mgmt := { v.mgmt with counts := { s.mgmt.counts with executed := satInc s.mgmt.counts.executed } } } := by
  intro v
  let a := v.formAnswer d.source d.tag 0x23 (reply .done)
  let counts : MgmtCounts := { s.mgmt.counts with executed := satInc s.mgmt.counts.executed }
  let u : State := { v with mgmt := { v.mgmt with counts := counts, formed := [a] } }
  have hdone : s.scrubDone = u := by
    have hforms : s.scrubDone = { v with mgmt := { v.mgmt with counts := counts, formed := s.mgmt.formed ++ [a] } } := by
      unfold State.scrubDone
      dsimp only
      rw [hreset]
      rfl
    rw [hforms, hformed]
    rfl
  have hmgmt : ({ u.mgmt with formed := [] } : Mgmt) = { v.mgmt with counts := counts } := by
    rw [← hformed]
  have hsettle : u.settle =
      { v with egress := s.egress.enter s.tru.osc a, mgmt := { v.mgmt with counts := counts } } :=
    (settle_formed (s := u) hidle rfl ho hl hr).trans
      (congrArg (fun m => { v with egress := s.egress.enter s.tru.osc a, mgmt := m }) hmgmt)
  have hexec : exec .scrubCompletion s = .next s.scrubDone.settleAndJudge := congrArg _ (if_pos hscrub)
  rw [hexec, hdone, settleAndJudge_of_settle hsettle nofun]

end

/-- Settles O48: by the flush outstanding and the room its answer finds, and by whether a scrub is in progress. -/
theorem engineResetAndScrub : Obligations.EngineResetAndScrub := by
  refine ⟨fun s r hcan hformed hl hcanon => ?reset, fun s h => ?idle, fun s d hscrub hreset hidle hformed ho hr hl =>
    exec_scrubCompletion hscrub hreset hidle hformed ho hr hl⟩
  case reset =>
    obtain ⟨-, hctxs, -⟩ := hcanon
    have hidle : s.mgmt.exec = .idle := hcan.1.1
    have hmgmt (k : MgmtCounts) : ({ (restarted s r).mgmt with exec := .idle, counts := k } : Mgmt) =
        { (restarted s r).mgmt with counts := k } := by
      rw [← hidle]
      rfl
    intro kept cleared
    refine ⟨Tbl.update Ctx.zero (fun _ c => c.afterReset) s.ctxs, ?_⟩
    intro reset
    refine ⟨exec_reset_noFlush hcan hformed hl, fun d h => ?_, fun k => get_update (fun _ => rfl) hctxs k⟩
    intro a m
    refine ⟨fun hroom => (exec_reset_room hcan hformed hl h hroom).trans ?_, exec_reset_full hcan hformed hl h⟩
    rw [hmgmt]
    rfl
  case idle => exact congrArg _ (if_neg (by rw [h]; decide))

end Sys2Proof.Proofs.Reset
end

/-! ## RESUME, PAUSE and PAUSE_NOW (O47) -/

section
namespace Sys2Proof.Proofs.EngineStates
open Sys2Proof Sys2Proof.Machine Sys2Proof.Laws Sys2Proof.Proofs.StreamState Sys2Proof.Proofs.TimeStep
  Sys2Proof.Proofs.Batches Sys2Proof.Proofs.Flush

/-! ### A ring with every record FREE (R105) -/

section
variable {s : State}

theorem ringFree_iff (s : State) :
    s.ringFree = true ↔ ∀ i, i < 64 → (Tbl.get Slot.empty s.store.ring i).state = .free := by
  unfold State.ringFree
  simp only [List.all_eq_true, List.mem_range, decide_eq_true_eq]

theorem slot_of_ringFree (h : s.ringFree = true) (g : Nat) : (s.slot g).state = .free := by
  unfold State.slot
  exact (apply_ite Slot.state _ _ _).trans (if_neg fun hs =>
    hs.1 ((ringFree_iff s).1 h (g % 64) (Nat.mod_lt g (by decide))))

/-- In a lawful ring that is not FREE some slot is held. -/
theorem exists_held (hl : s.ringLawful) (h : s.ringFree = false) : ∃ g, (s.slot g).state ≠ .free := by
  obtain ⟨hheld, -⟩ := hl
  have hsome : ¬∀ i, i < 64 → (Tbl.get Slot.empty s.store.ring i).state = .free := by
    rw [← ringFree_iff, h]
    decide
  push Not at hsome
  obtain ⟨i, -, hi⟩ := hsome
  obtain ⟨hpos, -⟩ := hheld i hi
  refine ⟨(Tbl.get Slot.empty s.store.ring i).g, ?_⟩
  unfold State.slot
  rw [hpos]
  exact (congrArg Slot.state (if_pos ⟨hi, rfl⟩)).trans_ne hi

/-- Outside RUNNING and DRAINING a lawful ring is FREE. -/
theorem ringFree_of_paused (hl : s.ringLawful) (he : s.mgmt.engine = .paused) : s.ringFree = true := by
  obtain ⟨-, -, hstate, -⟩ := hl
  rw [he] at hstate
  exact (ringFree_iff s).2 fun i _ => hstate.resolve_left nofun |>.resolve_left nofun <| i

/-- With the ring FREE the composer works on no slot (R128). -/
theorem working_of_ringFree (hl : s.ringLawful) (h : s.ringFree = true) : s.composer.working = none := by
  obtain ⟨-, -, -, -, hworking, -⟩ := hl
  cases hw : s.composer.working with
  | none => rfl
  | some w =>
    obtain ⟨-, -, hslot⟩ := hworking w hw
    rw [slot_of_ringFree h] at hslot
    cases hslot

/-- With the ring FREE there is nothing to close. -/
theorem closeAll_ringFree (c : Cause) (h : s.ringFree = true) : s.closeAll c = s := by
  refine List.foldl_fixed' (fun g => ?_) _
  unfold State.closeFor
  dsimp only
  rw [slot_of_ringFree h]

theorem offer_ringFree (h : s.ringFree = true) : s.offer = s :=
  offer_none (by rw [slot_of_ringFree h]; decide) (by rw [slot_of_ringFree h]; decide)

end

/-! ### The state in DRAINING (R164) -/

/-- The drain's end as it is judged. -/
theorem judgeDrain_eq {s : State} (h : s.mgmt.engine = .draining) :
    s.judgeDrain = s.setEngine (if s.ringFree = true ∧ s.composerEmpty = true then .paused else .draining) := by
  unfold State.judgeDrain
  by_cases hend : s.ringFree = true ∧ s.composerEmpty = true
  · rw [if_pos ⟨h, hend⟩, if_pos hend]
    rfl
  · rw [if_neg fun hh => hend hh.2, if_neg hend, ← h]
    rfl

theorem setEngine_self {s : State} {e : EngineState} (h : s.mgmt.engine = e) : s.setEngine e = s := by
  subst h
  rfl

/-- PAUSE's first act while it is executed. -/
def entering (s : State) : State := (s.setExec .executing).setEngine .draining

/-- The entry to DRAINING from s: the sets held are batches on the outbound list, the holding lists being h, and the ring,
the close counts, the contexts and the composer's slot are u's. -/
def drainingTo (s : State) (h : Tbl Holding) (u : State) : State :=
  { s with
    ctxs := u.ctxs
    store := { s.store with ring := u.store.ring, closeCounts := u.store.closeCounts }
    composer := { s.composer with
      working := u.composer.working
      holding := h
      outbound := s.composer.outbound ++ s.heldBatches
      counts := { s.composer.counts with batches := satInc^[s.heldBatches.length] s.composer.counts.batches } }
    mgmt := { s.mgmt with engine := .draining, exec := .executing } }

/-- The composer once the sets held are batches, the holding lists being h. -/
def handedOn (s : State) (h : Tbl Holding) : Composer := (drainingTo s h s).composer

section
variable {s u : State} {h : Tbl Holding}

/-- The holding lists h are s's with the sets held taken from them. -/
structure HeldTaken (s : State) (h : Tbl Holding) : Prop where
  holding : ∀ n, n < 8 → Tbl.get Holding.empty h n = if (s.holding n).sets = [] then s.holding n else Holding.empty
  noneHeld : s.holdingEmpty = true → h = s.composer.holding

/-- Where no set is held, nothing is formed. -/
theorem formAllBatches_noneHeld (hempty : s.holdingEmpty = true) : s.formAllBatches = s :=
  foldl_formBatch_none fun n hn => (holdingEmpty_iff s).1 hempty n (List.mem_range.1 hn)

/-- Forming every batch does to the composer what s, with the same composer, says. -/
theorem formAllBatches_handedOn {w : State} (hw : Tbl.wf Holding.empty s.composer.holding = true)
    (hcomposer : w.composer = s.composer) (hprofiles : w.profiles = s.profiles) :
    ∃ h, HeldTaken s h ∧ w.formAllBatches = { w with composer := handedOn s h } := by
  have hformed := formed_all (s := w) (hcomposer ▸ hw)
  have hholding (n : Nat) : w.holding n = s.holding n := by
    unfold State.holding
    rw [hcomposer]
  have hbatches : (List.range 8).flatMap (batchOf w) = s.heldBatches := by
    refine List.flatMap_congr fun n _ => ?_
    unfold batchOf State.profile
    rw [hholding, hprofiles]
  have honly := hformed.only
  rw [hbatches, hcomposer] at honly
  refine ⟨w.formAllBatches.composer.holding, ⟨fun n hn => ?_, fun hempty => ?_⟩, honly⟩
  · refine (hformed.holding n).trans ?_
    rw [hholding]
    by_cases hsets : (s.holding n).sets = []
    · rw [if_neg fun hh => hh.2 hsets, if_pos hsets]
    · rw [if_pos ⟨List.mem_range.2 hn, hsets⟩, if_neg hsets]
  · have hnone : w.holdingEmpty = true := by
      unfold State.holdingEmpty
      simp only [hholding]
      exact hempty
    rw [formAllBatches_noneHeld hnone, hcomposer]

theorem drainingTo_noneHeld (hempty : s.holdingEmpty = true) :
    drainingTo s s.composer.holding u = { s with
      ctxs := u.ctxs
      store := { s.store with ring := u.store.ring, closeCounts := u.store.closeCounts }
      composer := { s.composer with working := u.composer.working }
      mgmt := { s.mgmt with engine := .draining, exec := .executing } } := by
  unfold drainingTo
  rw [(heldBatches_nil_iff s).2 ((holdingEmpty_iff s).1 hempty), List.append_nil]
  rfl

end

/-! ### PAUSE's and PAUSE_NOW's entry to DRAINING -/

section
variable {s : State}

theorem pauseWork_running (he : s.mgmt.engine = .running) :
    (s.setExec .executing).pauseWork = ((entering s).formAllBatches.offer.judgeDrain, reply .done) := by
  have hx : (s.setExec .executing).mgmt.engine = .running := he
  unfold State.pauseWork
  rw [hx]
  rfl

theorem pauseNowWork_running (he : s.mgmt.engine = .running)
    (hclose : ((entering s).closeAll .forcedDrain).mgmt.engine = .draining) :
    (s.setExec .executing).pauseNowWork =
      (((entering s).closeAll .forcedDrain).formAllBatches.offer.judgeDrain, reply .done) := by
  have hx : (s.setExec .executing).mgmt.engine = .running := he
  unfold State.pauseNowWork
  rw [hx]
  change (((entering s).closeAll .forcedDrain).enterDraining, reply .done) = _
  unfold State.enterDraining
  rw [setEngine_self hclose]

/-- PAUSE forms the batches and offers nothing, slot H_low waiting for no offer. -/
theorem entering_formed (hw : Tbl.wf Holding.empty s.composer.holding = true)
    (hlow : (s.slot s.store.hLow).state ≠ .complete ∧ (s.slot s.store.hLow).state ≠ .closed) :
    ∃ h, HeldTaken s h ∧ (entering s).formAllBatches.offer = drainingTo s h s := by
  obtain ⟨hcomplete, hclosed⟩ := hlow
  obtain ⟨h, htaken, hformed⟩ := formAllBatches_handedOn (w := entering s) hw rfl rfl
  refine ⟨h, htaken, ?_⟩
  rw [hformed]
  exact offer_none (s := { entering s with composer := handedOn s h }) hcomplete hclosed

/-- The ring of a RUNNING engine stays lawful as it enters DRAINING. -/
theorem entering_lawful (hl : s.ringLawful) (he : s.mgmt.engine = .running) : (entering s).ringLawful := by
  obtain ⟨hheld, hfree, -, hemitting, hworking, hscrub, hlow⟩ := hl
  exact ⟨hheld, hfree, .inr (.inl rfl), hemitting, hworking, fun h => (nomatch (hscrub h).symm.trans he), hlow⟩

theorem forcedClose_of_drainingTo {c : Cause} {h : Tbl Holding} {v : State} (f : ForcedClose c (drainingTo s h s) v) :
    ForcedClose c s v := ⟨f.opened, f.complete, f.closed, f.others, f.misses, f.counted, f.working⟩

/-- A ring has a held slot after the waiting ones are closed and H_low is offered where it had one before. -/
theorem ringFree_offer {c : Cause} {v : State} (hl : s.ringLawful) (hclosed : Closed c s v)
    (hstill : s.ringFree = true → v.store = s.store) : v.offer.ringFree = s.ringFree := by
  cases hr : s.ringFree with
  | true =>
    have hfree : v.ringFree = true := by
      unfold State.ringFree
      rw [hstill hr]
      exact hr
    rw [offer_ringFree hfree, hfree]
  | false =>
    obtain ⟨g, hg⟩ := exists_held hl hr
    refine Bool.eq_false_iff.2 fun hfree => hg ?_
    have hv : (v.slot g).state = .free := by
      have hoffered := slot_of_ringFree hfree g
      rw [hclosed.slot_offer] at hoffered
      split at hoffered
      · cases hoffered
      · exact hoffered
    rwa [hclosed.slot, closedRecord_free] at hv

/-- PAUSE_NOW closes the waiting slots, forms the batches and offers slot H_low: all that then differs is what
`drainingTo` takes from the state it leaves. -/
theorem entering_forced (hcan : s.canonical) (hl : s.ringLawful) (he : s.mgmt.engine = .running) :
    ((entering s).closeAll .forcedDrain).mgmt.engine = .draining
      ∧ ∃ h, HeldTaken s h ∧ ∃ v, ((entering s).closeAll .forcedDrain).formAllBatches.offer = v
        ∧ v = drainingTo s h v ∧ ForcedClose .forcedDrain s v ∧ v.ringFree = s.ringFree := by
  have hcause : Cause.forcedDrain ≠ .complete ∧ Cause.forcedDrain ≠ .deadline := ⟨by decide, by decide⟩
  have hlawful := entering_lawful hl he
  have hclosed := closed_closeAll (s := entering s) hcause hcan hlawful
  have honly := (closedAlong_closeAll (s := entering s) hcause hcan).only
  have hstill : s.ringFree = true → (entering s).closeAll .forcedDrain = entering s :=
    fun h => closeAll_ringFree _ h
  generalize (entering s).closeAll .forcedDrain = w at hclosed honly hstill ⊢
  have hcomposer : w.composer = s.composer := by
    rw [honly]
    rfl
  have hprofiles : w.profiles = s.profiles := by
    rw [honly]
    rfl
  have hengine : w.mgmt.engine = .draining := by
    rw [honly]
    rfl
  obtain ⟨-, -, -, -, -, -, -, hw, -⟩ := hcan
  obtain ⟨h, htaken, hformed⟩ := formAllBatches_handedOn hw hcomposer hprofiles
  have hoffered : Closed .forcedDrain (drainingTo s h s) { w with composer := handedOn s h } :=
    ⟨by rw [honly]; rfl, hclosed.wfRing, hclosed.slot, hclosed.ctx, hclosed.counted⟩
  have hlow : w.store.hLow = s.store.hLow ∧ w.store.floor = s.store.floor := by
    rw [honly]
    exact ⟨rfl, rfl⟩
  refine ⟨hengine, h, htaken, _, rfl, ?_, ?_, ?_⟩ <;> rw [hformed]
  · refine hoffered.offer_only.trans ?_
    rw [hlow.1, hlow.2]
    rfl
  · exact forcedClose_of_drainingTo hoffered.forcedClose
  · exact ringFree_offer (s := drainingTo s h s) hlawful hoffered fun hfree => by rw [hstill hfree]; rfl

end

/-! ### The batches and the answer enter the queue (R132, R147, R164) -/

/-- The composer's frames have entered the queue while the directive is executed. -/
def handedOver (s : State) (h : Tbl Holding) (u : State) : State :=
  { drainingTo s h u with
    composer := { (drainingTo s h u).composer with outbound := [] }
    egress := enterAll s.tru.osc s.heldBatches s.egress }

/-- The drain is judged and the directive's execution is over, but for its answer. -/
def drained (s : State) (h : Tbl Holding) (u : State) : State :=
  { handedOver s h u with
    mgmt := { s.mgmt with engine := if s.ringFree = true then .paused else .draining } }

section
variable {s u : State} {h : Tbl Holding}

theorem settle_drainingTo (ho : s.composer.outbound = []) (hl : s.egress.link ≠ .ready)
    (hr : s.egress.queue.length + s.heldBatches.length ≤ 32) : (drainingTo s h u).settle = handedOver s h u := by
  have houtbound : (drainingTo s h u).composer.outbound = s.heldBatches ++ [] := by
    change s.composer.outbound ++ s.heldBatches = _
    rw [ho, List.nil_append, List.append_nil]
  have hfuel : 2 * (drainingTo s h u).composer.outbound.length + (drainingTo s h u).mgmt.formed.length + 8 =
      s.heldBatches.length + (s.heldBatches.length + (drainingTo s h u).mgmt.formed.length + 8) := by
    rw [houtbound, List.append_nil]
    omega
  have hlink : (enterAll s.tru.osc s.heldBatches s.egress).link ≠ .ready := by
    rw [enterAll_eq]
    exact hl
  unfold State.settle
  rw [hfuel, settleSteps_enterAll (s := drainingTo s h u) _ rfl hl houtbound (heldBatches_unmarked s) hr]
  exact settleSteps_rest _ (egressStep_rest (.inl hlink) rfl (.inr rfl) nofun)

theorem judgeDrain_judgeDrain (s : State) : s.judgeDrain.judgeDrain = s.judgeDrain := by
  by_cases hend : s.mgmt.engine = .draining ∧ s.ringFree = true ∧ s.composerEmpty = true
  · have hpaused : s.judgeDrain = s.setEngine .paused := if_pos hend
    rw [hpaused]
    exact judgeDrain_rest fun hh => nomatch hh.1
  · rw [judgeDrain_rest hend, judgeDrain_rest hend]

/-- A drain that ends with the entry to it ends once, and one that the batches keep from its end ends after them. -/
theorem settleAndJudge_drainingTo (ho : s.composer.outbound = []) (hl : s.egress.link ≠ .ready)
    (hr : s.egress.queue.length + s.heldBatches.length ≤ 32) :
    (drainingTo s h u).judgeDrain.settleAndJudge = (handedOver s h u).judgeDrain := by
  have hsettle := settle_drainingTo (h := h) (u := u) ho hl hr
  by_cases hheld : s.heldBatches = []
  · have houtbound : (drainingTo s h u).composer.outbound = [] := by
      change s.composer.outbound ++ s.heldBatches = []
      rw [ho, hheld]
      rfl
    have hsame : handedOver s h u = drainingTo s h u :=
      hsettle.symm.trans (settle_rest (.inl hl) houtbound (.inr rfl) nofun)
    have hrest : (drainingTo s h u).judgeDrain.settle = (drainingTo s h u).judgeDrain := by
      rw [judgeDrain_eq rfl]
      exact settle_rest (.inl hl) houtbound (.inr rfl) nofun
    unfold State.settleAndJudge
    rw [hrest, judgeDrain_judgeDrain, hsame]
  · have hgoes : (drainingTo s h u).judgeDrain = drainingTo s h u := by
      refine judgeDrain_rest fun hend => ?_
      obtain ⟨-, -, hempty⟩ := hend
      unfold State.composerEmpty at hempty
      rw [Bool.and_eq_true] at hempty
      exact hheld (List.append_eq_nil_iff.1 (List.isEmpty_iff.1 hempty.2)).2
    unfold State.settleAndJudge
    rw [hgoes, hsettle]

theorem handedOver_holdingEmpty (htaken : HeldTaken s h) : (handedOver s h u).holdingEmpty = true := by
  refine (holdingEmpty_iff _).2 fun n hn => ?_
  have hholding : (handedOver s h u).holding n = _ := htaken.holding n hn
  rw [hholding]
  split
  · assumption
  · rfl

/-- The drain is judged by the ring alone once the composer's frames have left (R164). -/
theorem judgeDrain_handedOver (htaken : HeldTaken s h) (hring : u.ringFree = s.ringFree)
    (hworking : s.ringFree = true → u.composer.working = none) :
    (handedOver s h u).judgeDrain = (drained s h u).setExec .executing := by
  have hend : (handedOver s h u).ringFree = true ∧ (handedOver s h u).composerEmpty = true ↔ s.ringFree = true := by
    have hfree : (handedOver s h u).ringFree = s.ringFree := hring
    rw [hfree, and_iff_left_iff_imp]
    intro hr
    have hnone : (handedOver s h u).composer.working = none := hworking hr
    unfold State.composerEmpty
    rw [hnone, handedOver_holdingEmpty htaken]
    rfl
  rw [judgeDrain_eq rfl, if_congr hend rfl rfl]
  rfl

/-- What is left is quiet: an answer enters the queue and nothing else happens. -/
theorem drained_quiet (hquiet : s.quiet) (hr : s.egress.queue.length + s.heldBatches.length + 1 ≤ 32)
    (hring : u.ringFree = s.ringFree) : (drained s h u).quiet := by
  obtain ⟨hidle, hformed, -, -, hl, -⟩ := hquiet
  have hegress : (drained s h u).egress = enterAll s.tru.osc s.heldBatches s.egress := rfl
  refine ⟨hidle, hformed, rfl, ?_, ?_, fun hend => ?_⟩
  · rw [hegress, enterAll_eq]
    unfold entriesAt queueSize
    rw [List.length_append, List.length_map]
    omega
  · rw [hegress, enterAll_eq]
    exact hl
  · obtain ⟨hengine, hfree, -⟩ := hend
    have hpaused : (drained s h u).mgmt.engine = .paused := if_pos (hring.symm.trans hfree)
    cases hpaused.symm.trans hengine

/-- A directive that enters DRAINING is carried out with its batches and its answer in the queue. -/
theorem runDirective_drains {d : Directive} {r : Request} {cls : Nat} (hsource : d.source = r.source)
    (htag : d.tag = r.tag) (hcan : s.canRun r cls) (hquiet : s.quiet)
    (hwork : (s.setExec .executing).directiveWork cls d = ((drainingTo s h u).judgeDrain, some (reply .done)))
    (hr : s.egress.queue.length + s.heldBatches.length + 1 ≤ 32) (htaken : HeldTaken s h)
    (hring : u.ringFree = s.ringFree) (hworking : s.ringFree = true → u.composer.working = none) :
    s.takeDirective d = (drained s h u).answered r (d.code.getD 0) (reply .done) := by
  obtain ⟨⟨hidle, hclass, hbusy⟩, -⟩ := hcan
  have hquiet_drained := drained_quiet (h := h) hquiet hr hring
  obtain ⟨-, -, ho, -, hl, -⟩ := hquiet
  have hsettled : (drainingTo s h u).judgeDrain.settleAndJudge = (drained s h u).setExec .executing :=
    (settleAndJudge_drainingTo ho hl (by omega)).trans
      (judgeDrain_handedOver htaken hring hworking)
  rw [takeDirective_idle hidle, runDirective_answer hbusy (hsource ▸ hclass) hwork, hsettled, hsource, htag]
  exact quiet_answered hquiet_drained r _ _

/-- The batches sent and the answer after them, in the queue. -/
theorem batchesSent_drained {r : Request} {c : Byte} (htaken : HeldTaken s h) :
    BatchesSent s ((drained s h u).answered r c (reply .done))
      [{ s with mgmt := { s.mgmt with
          engine := if s.ringFree = true then .paused else .draining } }.formAnswer r.source r.tag c (reply .done)] := by
  refine ⟨?_, rfl, htaken.holding, rfl⟩
  change (enterAll s.tru.osc s.heldBatches s.egress).queue ++ _ = _
  rw [enterAll_eq]
  unfold entriesAt
  rw [List.map_append, List.append_assoc]
  rfl

end

/-! ### The directives by engine state (R162 to R164) -/

section
variable {s u : State} {r : Request} {cls : Nat} {o : OutcomeCode}

/-- The three directives come to their own work from a permitted sender (R154, R156). -/
theorem engine_checked {c : DirectiveCode} (hc : c = .resume ∨ c = .pause ∨ c = .pauseNow) (hcan : s.canRun r cls)
    (hp : (s.access 0).permits cls = true) :
    (s.setExec .executing).directiveWork cls (plainDirective r c) =
      (s.setExec .executing).ownWork cls c (plainDirective r c) := by
  have hframed : wellFramed c (plainDirective r c) := by
    rcases hc with rfl | rfl | rfl <;> exact ⟨nofun, rfl, rfl⟩
  have hpermitted : (s.setExec .executing).permitted c cls = true := by rcases hc with rfl | rfl | rfl <;> exact hp
  have hlock : lockRefuses c = false := by rcases hc with rfl | rfl | rfl <;> rfl
  refine directiveWork_own rfl ((Checks.checkKnown_wellFramed hframed).trans ?_)
  rw [if_neg fun h => hcan.2 h.1, if_neg (by simp [hpermitted]), if_neg (by simp [hlock])]

/-- Work that leaves the state u and answers at once. -/
theorem engine_completes {c : DirectiveCode} {command : Instr} {work : State × Reply}
    (hc : c = .resume ∨ c = .pause ∨ c = .pauseNow) (hcan : s.canRun r cls) (hp : (s.access 0).permits cls = true)
    (hexec : exec command s = .next (s.takeDirective (plainDirective r c)))
    (hown : (s.setExec .executing).ownWork cls c (plainDirective r c) = (work.1, some work.2))
    (hwork : work = (u.setExec .executing, reply o)) : Completes s command r c u (reply o) :=
  ⟨_, hexec, carried_of_work rfl rfl rfl hcan.1 ((engine_checked hc hcan hp).trans (hown.trans (by rw [hwork])))⟩

theorem resume_completes (hcan : s.canRun r cls) (hp : (s.access 0).permits cls = true)
    (hwork : (s.setExec .executing).resumeWork = (u.setExec .executing, reply o)) :
    Completes s (.resume r) r .resume u (reply o) := engine_completes (.inl rfl) hcan hp rfl rfl hwork

theorem pause_completes (hcan : s.canRun r cls) (hp : (s.access 0).permits cls = true)
    (hwork : (s.setExec .executing).pauseWork = (u.setExec .executing, reply o)) :
    Completes s (.pause r) r .pause u (reply o) := engine_completes (.inr (.inl rfl)) hcan hp rfl rfl hwork

theorem pauseNow_completes (hcan : s.canRun r cls) (hp : (s.access 0).permits cls = true)
    (hwork : (s.setExec .executing).pauseNowWork = (u.setExec .executing, reply o)) :
    Completes s (.pauseNow r) r .pauseNow u (reply o) := engine_completes (.inr (.inr rfl)) hcan hp rfl rfl hwork

/-- RESUME with time enters RUNNING with a FREE ring, and its catch-up finds no slot below the floor (R163). -/
theorem enterRunning_ringFree (h : s.ringFree = true) :
    s.enterRunning = { s with
      mgmt := { s.mgmt with engine := .running, pendingMap := 0 }
      store := { s.store with
        floor := max s.store.floor (s.gnow + 1)
        hLow := max s.store.hLow (max s.store.floor (s.gnow + 1)) } } := by
  have hlow (g : Nat) := slot_of_ringFree h g
  have hfloor : s.gnow < max s.store.floor (s.gnow + 1) := lt_max_of_lt_right (Nat.lt_succ_self s.gnow)
  exact catchUp_beyond
    (s := { s with
      mgmt := { s.mgmt with engine := .running, pendingMap := 0 }
      store := { s.store with
        floor := max s.store.floor (s.gnow + 1)
        hLow := max s.store.hLow (max s.store.floor (s.gnow + 1)) } })
    hfloor (fun hs => nomatch (hlow _).symm.trans hs) (fun hs => nomatch (hlow _).symm.trans hs)

/-- PAUSE with no set held and no slot to offer enters DRAINING, and the drain is judged at once. -/
theorem pauseWork_noneHeld (he : s.mgmt.engine = .running) (hempty : s.holdingEmpty = true)
    (hcomplete : (s.slot s.store.hLow).state ≠ .complete) (hclosed : (s.slot s.store.hLow).state ≠ .closed) :
    (s.setExec .executing).pauseWork = ((s.setEngine
      (if s.ringFree = true ∧ s.composerEmpty = true then .paused else .draining)).setExec .executing, reply .done) := by
  rw [pauseWork_running he, formAllBatches_noneHeld (s := entering s) hempty,
    offer_none (s := entering s) hcomplete hclosed, judgeDrain_eq rfl]
  rfl

/-- With the ring FREE the forced close leaves the composer idle. -/
theorem forced_working {v : State} (hl : s.ringLawful) (hforced : ForcedClose .forcedDrain s v)
    (hring : v.ringFree = s.ringFree) (hfree : s.ringFree = true) : v.composer.working = none := by
  rw [hforced.working, if_neg fun h => ?_, working_of_ringFree hl hfree]
  cases (slot_of_ringFree (hring.trans hfree) _).symm.trans h.1

/-- PAUSE_NOW with no set held. -/
theorem pauseNow_noneHeld (hcan : s.canRun r cls) (hp : (s.access 0).permits cls = true)
    (he : s.mgmt.engine = .running) (hcanon : s.canonical) (hl : s.ringLawful) (hempty : s.holdingEmpty = true) :
    ∃ u, Completes s (.pauseNow r) r .pauseNow u (reply .done)
      ∧ u = { s with ctxs := u.ctxs, store := u.store, composer := { s.composer with working := u.composer.working }
                     mgmt := { s.mgmt with engine := u.mgmt.engine } }
      ∧ u.store = { s.store with ring := u.store.ring, closeCounts := u.store.closeCounts }
      ∧ u.mgmt.engine = (if s.ringFree = true ∧ s.composerEmpty = true then .paused else .draining)
      ∧ ForcedClose .forcedDrain s u := by
  obtain ⟨hengine, h, htaken, v, hoffer, hv, hforced, hring⟩ := entering_forced hcanon hl he
  have hclose : ForcedClose .forcedDrain s (drainingTo s h v) := by
    rw [← hv]
    exact hforced
  have hend : (drainingTo s h v).ringFree = true ∧ (drainingTo s h v).composerEmpty = true ↔
      s.ringFree = true ∧ s.composerEmpty = true := by
    have hfree : (drainingTo s h v).ringFree = s.ringFree := hring
    rw [hfree]
    refine and_congr_right fun hr => ?_
    rw [htaken.noneHeld hempty, drainingTo_noneHeld hempty]
    unfold State.composerEmpty
    dsimp only
    rw [forced_working hl hforced hring hr, working_of_ringFree hl hr]
    rfl
  refine ⟨{ s with
    ctxs := v.ctxs
    store := { s.store with ring := v.store.ring, closeCounts := v.store.closeCounts }
    composer := { s.composer with working := v.composer.working }
    mgmt := { s.mgmt with engine := if s.ringFree = true ∧ s.composerEmpty = true then .paused else .draining } },
    pauseNow_completes hcan hp ?_, rfl, rfl, rfl, ?_⟩
  · rw [pauseNowWork_running he hengine, hoffer, hv, judgeDrain_eq rfl, if_congr hend rfl rfl, htaken.noneHeld hempty,
      drainingTo_noneHeld hempty]
    rfl
  · exact ⟨hclose.opened, hclose.complete, hclose.closed, hclose.others, hclose.misses, hclose.counted, hclose.working⟩

/-- PAUSE leaves the slots, the contexts, the window and the composer's slot as they stand. -/
theorem answered_stands {h : Tbl Holding} {b : Byte} {x : Reply} :
    ((drained s h s).answered r b x).store = s.store ∧ ((drained s h s).answered r b x).ctxs = s.ctxs
      ∧ ((drained s h s).answered r b x).window = s.window
      ∧ ((drained s h s).answered r b x).composer.working = s.composer.working := by
  unfold State.answered drained handedOver drainingTo
  dsimp only
  exact ⟨rfl, rfl, rfl, rfl⟩

theorem forcedClose_answered {v : State} {h : Tbl Holding} {c : Cause} {b : Byte} {x : Reply}
    (f : ForcedClose c s (drainingTo s h v)) : ForcedClose c s ((drained s h v).answered r b x) :=
  ⟨f.opened, f.complete, f.closed, f.others, f.misses, f.counted, f.working⟩

/-- PAUSE of a quiet state with sets held or none, the queue having room for their batches and the answer. -/
theorem pause_quiet (hcan : s.canRun r cls) (hp : (s.access 0).permits cls = true) (he : s.mgmt.engine = .running)
    (hquiet : s.quiet) (hcanon : s.canonical) (hl : s.ringLawful)
    (hr : s.egress.queue.length + s.heldBatches.length + 1 ≤ 32) :
    ∃ h, HeldTaken s h ∧ exec (.pause r) s = .next ((drained s h s).answered r 0x21 (reply .done)) := by
  obtain ⟨-, -, -, -, -, -, -, hw, -⟩ := hcanon
  have hlow : (s.slot s.store.hLow).state ≠ .complete ∧ (s.slot s.store.hLow).state ≠ .closed := by
    obtain ⟨-, -, -, -, -, -, hlow⟩ := hl
    exact hlow
  obtain ⟨h, htaken, hformed⟩ := entering_formed hw hlow
  have hwork : (s.setExec .executing).pauseWork = ((drainingTo s h s).judgeDrain, reply .done) := by
    rw [pauseWork_running he, hformed]
  have hdirective := (engine_checked (c := .pause) (.inr (.inl rfl)) hcan hp).trans
    (congrArg (fun x : State × Reply => (x.1, some x.2)) hwork)
  exact ⟨h, htaken, congrArg _
    (runDirective_drains rfl rfl hcan hquiet hdirective hr htaken rfl (working_of_ringFree hl))⟩

/-- PAUSE_NOW of a quiet state, the queue having room for the batches and the answer. -/
theorem pauseNow_quiet (hcan : s.canRun r cls) (hp : (s.access 0).permits cls = true) (he : s.mgmt.engine = .running)
    (hquiet : s.quiet) (hcanon : s.canonical) (hl : s.ringLawful)
    (hr : s.egress.queue.length + s.heldBatches.length + 1 ≤ 32) :
    ∃ h v, HeldTaken s h ∧ ForcedClose .forcedDrain s (drainingTo s h v)
      ∧ exec (.pauseNow r) s = .next ((drained s h v).answered r 0x22 (reply .done)) := by
  obtain ⟨hengine, h, htaken, v, hoffer, hv, hforced, hring⟩ := entering_forced hcanon hl he
  have hwork : (s.setExec .executing).pauseNowWork = ((drainingTo s h v).judgeDrain, reply .done) := by
    rw [pauseNowWork_running he hengine, hoffer, ← hv]
  have hdirective := (engine_checked (c := .pauseNow) (.inr (.inr rfl)) hcan hp).trans
    (congrArg (fun x : State × Reply => (x.1, some x.2)) hwork)
  refine ⟨h, v, htaken, ?_, congrArg _
    (runDirective_drains rfl rfl hcan hquiet hdirective hr htaken hring (forced_working hl hforced hring))⟩
  rw [← hv]
  exact hforced

end

/-- Settles O47: by the engine state, and in RUNNING by the sets held. -/
theorem engineStateDirectives : Obligations.EngineStateDirectives := by
  intro s r cls hcan hp resume pause pauseNow low floor
  refine ⟨fun he => ?notPaused, fun he htime => ?noTime, fun he hunset hacquiring hcanon hl => ?time, fun he => ?stopped,
    fun he => ?waiting, fun he hfree hempty hcanon => ?idle, fun he hfree hempty hcomplete hclosed => ?running,
    fun he hcanon hl hempty => pauseNow_noneHeld hcan hp he hcanon hl hempty, fun he hquiet hcanon hl hr => ?held⟩
  case notPaused => exact resume_completes hcan hp (if_neg he)
  case noTime =>
    have hno : ¬hasLocked s.tru.state = true := by rcases htime with h | h <;> rw [h] <;> decide
    exact resume_completes hcan hp ((if_pos he).trans (if_neg hno))
  case time =>
    have hyes : hasLocked s.tru.state = true := by
      cases h : s.tru.state <;> simp_all [hasLocked]
    refine resume_completes hcan hp (((if_pos he).trans (if_pos hyes)).trans ?_)
    rw [enterRunning_ringFree (s := s.setExec .executing) (ringFree_of_paused hl he)]
    rfl
  case stopped =>
    have hwork : (s.setExec .executing).pauseWork = (s.setExec .executing, reply .notRunning)
        ∧ (s.setExec .executing).pauseNowWork = (s.setExec .executing, reply .notRunning) := by
      unfold State.pauseWork State.pauseNowWork
      have hx : (s.setExec .executing).mgmt.engine = s.mgmt.engine := rfl
      rw [hx]
      rcases he with he | he <;> rw [he] <;> exact ⟨rfl, rfl⟩
    obtain ⟨hpause, hnow⟩ := hwork
    exact ⟨pause_completes hcan hp hpause, pauseNow_completes hcan hp hnow⟩
  case waiting =>
    have hwork : (s.setExec .executing).pauseWork = ((s.setEngine .paused).setExec .executing, reply .done)
        ∧ (s.setExec .executing).pauseNowWork = ((s.setEngine .paused).setExec .executing, reply .done) := by
      unfold State.pauseWork State.pauseNowWork
      have hx : (s.setExec .executing).mgmt.engine = s.mgmt.engine := rfl
      rw [hx, he]
      exact ⟨rfl, rfl⟩
    obtain ⟨hpause, hnow⟩ := hwork
    exact ⟨pause_completes hcan hp hpause, pauseNow_completes hcan hp hnow⟩
  case idle =>
    have hheld : s.holdingEmpty = true := by
      unfold State.composerEmpty at hempty
      simp only [Bool.and_eq_true] at hempty
      obtain ⟨⟨-, hheld⟩, -⟩ := hempty
      exact hheld
    have hslot := slot_of_ringFree hfree s.store.hLow
    have hwork := pauseWork_noneHeld he hheld (by rw [hslot]; decide) (by rw [hslot]; decide)
    rw [if_pos ⟨hfree, hempty⟩] at hwork
    exact pause_completes hcan hp hwork
  case running =>
    have hwork := pauseWork_noneHeld he hempty hcomplete hclosed
    rw [if_neg (by simp [hfree])] at hwork
    exact pause_completes hcan hp hwork
  case held =>
    intro engine answer answerNow
    obtain ⟨h, htaken, hexec⟩ := pause_quiet hcan hp he hquiet hcanon hl hr
    obtain ⟨hnow, v, htakenNow, hclose, hexecNow⟩ := pauseNow_quiet hcan hp he hquiet hcanon hl hr
    exact ⟨⟨_, hexec, rfl, batchesSent_drained htaken, answered_stands⟩,
      ⟨_, hexecNow, rfl, batchesSent_drained htakenNow, forcedClose_answered hclose, rfl, rfl⟩⟩

end Sys2Proof.Proofs.EngineStates
end

/-! ## Tables in canonical form and queues within their sizes (O53) -/

section
namespace Sys2Proof.Proofs.Sizes
open Sys2Proof Sys2Proof.Machine Sys2Proof.Laws

/-- The egress queue holds at most 32 entries, each passed over at most 15 times (R139, R145). -/
structure EgressWithin (x : Egress) : Prop where
  length : x.queue.length ≤ queueSize
  bypass : ∀ e ∈ x.queue, e.bypass ≤ 15

/-- The premises of TablesAndQueuesStayBounded, and so its conclusion. -/
structure Sound (s : State) : Prop where
  map : Tbl.wf none s.map = true
  ctxs : Tbl.wf Ctx.zero s.ctxs = true
  conv : Tbl.wf Conversion.zero s.conv = true
  ring : Tbl.wf Slot.empty s.store.ring = true
  pool : Tbl.wf Cell.zero s.store.pool = true
  profiles : Tbl.wf Profile.zero s.profiles = true
  members : Tbl.wf 0 s.members = true
  holding : Tbl.wf Holding.empty s.composer.holding = true
  managers : Tbl.wf Manager.zero s.mgmt.managers = true
  access : Tbl.wf Access.zero s.mgmt.access = true
  linkA : s.intake.linkA.bounded
  linkB : s.intake.linkB.bounded
  directives : s.mgmt.queue.length ≤ 4
  egress : EgressWithin s.egress

theorem sound_iff (s : State) : Sound s ↔ s.canonical ∧ s.bounded := by
  constructor
  · rintro ⟨a, b, c, d, e, f, g, h, i, j, k, l, m, ⟨n, o⟩⟩
    exact ⟨⟨a, b, c, d, e, f, g, h, i, j⟩, k, l, m, n, o⟩
  · rintro ⟨⟨a, b, c, d, e, f, g, h, i, j⟩, k, l, m, n, o⟩
    exact ⟨a, b, c, d, e, f, g, h, i, j, k, l, m, ⟨n, o⟩⟩

/-- t is sound where s is. -/
def Stays (s t : State) : Prop := Sound s → Sound t

theorem Stays.refl (s : State) : Stays s s := id

theorem Stays.trans {s t u : State} (h : Stays s t) (k : Stays t u) : Stays s u := k ∘ h

/-- `Stays.trans`, the last operation named first. -/
theorem Stays.after {s t u : State} (k : Stays t u) (h : Stays s t) : Stays s u := k ∘ h

/-- A fold of operations that keep soundness keeps it. -/
theorem stays_foldl {α : Type} {f : State → α → State} (hf : ∀ s a, Stays s (f s a)) (l : List α) (s : State) :
    Stays s (l.foldl f s) := by
  induction l generalizing s with
  | nil => exact .refl s
  | cons a l ih => exact (hf s a).trans (ih _)

/-! ### What is written outside the tables and the queues -/

theorem stays_tru (s : State) (x : Tru) : Stays s { s with tru := x } := fun hs => { hs with }

theorem stays_setParams (s : State) (p : Params) : Stays s (s.setParams p) := fun hs => { hs with }

theorem stays_window (s : State) (w : Window) : Stays s { s with window := w } := fun hs => { hs with }

theorem stays_nextFree (s : State) : Stays s s.nextFree := fun hs => { hs with }

theorem stays_pending (s : State) (q : List Instr) : Stays s { s with pending := q } := fun hs => { hs with }

theorem stays_outbound (s : State) (busy : Bool) (fs : List OutFrame) :
    Stays s { s with composer := { s.composer with flushBusy := busy, outbound := fs } } := fun hs => { hs with }

theorem stays_deferFlush (s : State) (d : Option Deferred) :
    Stays s { s with mgmt := { s.mgmt with deferredFlush := d } } := fun hs => { hs with }

theorem stays_setEngine (s : State) (e : EngineState) : Stays s (s.setEngine e) := fun hs => { hs with }

theorem stays_setExec (s : State) (e : Execution) : Stays s (s.setExec e) := fun hs => { hs with }

theorem stays_countAnswer (s : State) (r : Reply) : Stays s (s.countAnswer r) := fun hs => { hs with }

theorem stays_countClose (s : State) (c : Cause) : Stays s (s.countClose c) := fun hs => { hs with }

theorem stays_advanceLow (s : State) : Stays s s.advanceLow := fun hs => { hs with }

theorem stays_setFloor (s : State) (f : Nat) : Stays s (s.setFloor f) := fun hs => { hs with }

theorem stays_intakeEnds (s : State) (c : IntakeCount) : Stays s (s.intakeEnds c) := fun hs => { hs with }

/-! ### The tables -/

theorem stays_setWay (s : State) (i : Nat) (b : Option Binding) : Stays s (s.setWay i b) := fun hs =>
  { hs with map := wf_set hs.map i b }

theorem stays_setCtx (s : State) (k : Nat) (c : Ctx) : Stays s (s.setCtx k c) := fun hs =>
  { hs with ctxs := wf_set hs.ctxs k c }

theorem stays_clampConfidence (s : State) : Stays s s.clampConfidence := fun hs =>
  { hs with ctxs := wf_update _ hs.ctxs }

theorem stays_setConversion (s : State) (i : Nat) (c : Conversion) : Stays s (s.setConversion i c) := fun hs =>
  { hs with conv := wf_set hs.conv i c }

theorem stays_setSlot (s : State) (g : Nat) (x : Slot) : Stays s (s.setSlot g x) := fun hs =>
  { hs with ring := wf_set hs.ring _ x }

theorem stays_setProfile (s : State) (n : Nat) (x : Profile) : Stays s (s.setProfile n x) := fun hs =>
  { hs with profiles := wf_set hs.profiles n x }

theorem stays_setMember (s : State) (e k : Nat) : Stays s (s.setMember e k) := fun hs =>
  { hs with members := wf_set hs.members e k }

theorem stays_setHolding (s : State) (n : Nat) (h : Holding) : Stays s (s.setHolding n h) := fun hs =>
  { hs with holding := wf_set hs.holding n h }

theorem stays_setManager (s : State) (i : Nat) (m : Manager) : Stays s (s.setManager i m) := fun hs =>
  { hs with managers := wf_set hs.managers i m }

theorem stays_setAccess (s : State) (i : Nat) (a : Access) : Stays s (s.setAccess i a) := fun hs =>
  { hs with access := wf_set hs.access i a }

/-! ### The ingress FIFOs (R54, R55) -/

theorem bounded_arrive {l : LinkIn} (h : l.bounded) (f : InFrame) : (l.arrive f).bounded := by
  obtain ⟨hlength, hbytes⟩ := h
  unfold LinkIn.arrive
  split
  · exact ⟨hlength, hbytes⟩
  next hf =>
  split
  · next hroom =>
    refine ⟨by rw [List.length_append]; exact hroom, fun x hx => ?_⟩
    rcases List.mem_append.1 hx with hx | hx
    · exact hbytes x hx
    · rw [List.mem_singleton.1 hx]
      exact Nat.not_lt.1 hf
  · exact ⟨hlength, hbytes⟩

/-- The head of a FIFO is taken. -/
theorem bounded_rest {l : LinkIn} {f : InFrame} {rest : List InFrame} (h : l.bounded) (hl : l.fifo = f :: rest) :
    LinkIn.bounded { l with fifo := rest } := by
  obtain ⟨hlength, hbytes⟩ := h
  rw [hl] at hlength hbytes
  exact ⟨(Nat.le_succ _).trans hlength, fun x hx => hbytes x (List.mem_cons_of_mem f hx)⟩

theorem stays_setLinkIn {s : State} {l : Link} {x : LinkIn} (hx : (s.linkIn l).bounded → x.bounded) :
    Stays s (s.setLinkIn l x) := fun hs => by
  cases l with
  | a => exact { hs with linkA := hx hs.linkA }
  | b => exact { hs with linkB := hx hs.linkB }

/-! ### The egress queue (R139, R145, R147, R148) -/

/-- Entries that leave the queue leave it within its size. -/
theorem EgressWithin.sublist {x y : Egress} (h : EgressWithin x) (hq : y.queue.Sublist x.queue) : EgressWithin y :=
  ⟨hq.length_le.trans h.length, fun e he => h.bypass e (hq.subset he)⟩

theorem EgressWithin.enter {x : Egress} (h : EgressWithin x) (hroom : x.queue.length < queueSize) (osc : Nat)
    (f : OutFrame) : EgressWithin (x.enter osc f) := by
  refine ⟨by unfold Egress.enter; rw [List.length_append]; exact hroom, fun e he => ?_⟩
  rcases List.mem_append.1 he with he | he
  · exact h.bypass e he
  · rw [List.mem_singleton.1 he]
    exact Nat.zero_le _

/-- Shedding makes a place where a LOW entry waits (R148). -/
theorem shed_length_lt {x : Egress} (h : x.hasLow = true) : x.shed.queue.length < x.queue.length := by
  obtain ⟨e, he, hlow⟩ := List.any_eq_true.1 h
  have hpos : 0 < x.queue.length := List.length_pos_of_mem he
  have hlen : x.shed.queue.length = x.queue.length - 1 := List.length_eraseP_of_mem he hlow
  omega

/-- A frame that is taken finds a free place or the place of a LOW entry (R147, R148). -/
theorem EgressWithin.takeFrame {x : Egress} (h : EgressWithin x) (ht : x.takes = true) (osc : Nat) (f : OutFrame) :
    EgressWithin (x.takeFrame osc f) := by
  unfold Egress.takeFrame
  by_cases hroom : x.hasRoom = true
  · rw [if_pos hroom]
    exact h.enter (of_decide_eq_true hroom) osc f
  · rw [if_neg hroom]
    have hlow : x.hasLow = true := (Bool.or_eq_true_iff.1 ht).resolve_left hroom
    exact (h.sublist (y := x.shed) List.eraseP_sublist).enter ((shed_length_lt hlow).trans_le h.length) osc f

theorem bypass_passedOver {p : Params} {osc : Nat} {c : PriorityClass} {e : Entry} (h : e.bypass ≤ 15) :
    (e.passedOver p osc c).bypass ≤ 15 := by
  unfold Entry.passedOver
  extract_lets raise
  split
  · exact min_le_right _ _
  · exact h

theorem EgressWithin.select {x : Egress} (h : EgressWithin x) (p : Params) (osc : Nat) :
    EgressWithin (x.select p osc) := by
  unfold Egress.select
  split
  · exact h
  next i _ =>
  split
  · exact h
  next c _ =>
  refine ⟨le_trans ?_ h.length, fun e he => ?_⟩
  · simp only [List.length_append, List.length_map, List.length_take, List.length_drop]
    omega
  · rcases List.mem_append.1 he with he | he
    · obtain ⟨o, ho, rfl⟩ := List.mem_map.1 he
      exact bypass_passedOver (h.bypass o (List.mem_of_mem_take ho))
    · exact h.bypass e (List.mem_of_mem_drop he)

/-! ### What settling does between the producers and the queue (R132, R143, R147 to R149, R153) -/

theorem stays_egress {s : State} {x : Egress} (h : EgressWithin s.egress → EgressWithin x) :
    Stays s { s with egress := x } := fun hs => { hs with egress := h hs.egress }

theorem stays_queueTakes {s : State} (ht : s.egress.takes = true) (f : OutFrame) : Stays s (s.queueTakes f) :=
  stays_egress fun h => h.takeFrame ht s.tru.osc f

theorem stays_formDeferred (s : State) (c : DirectiveCode) (d : Deferred) : Stays s (s.formDeferred c d) :=
  fun hs => { hs with }

theorem stays_flushEnded (s : State) : Stays s s.flushEnded := by
  unfold State.flushEnded
  dsimp only
  split
  · exact fun hs => { hs with }
  · exact (stays_formDeferred _ _ _).after fun hs => { hs with }

theorem stays_offerAnswer (s : State) (a : OutFrame) : Stays s (s.offerAnswer a) := by
  unfold State.offerAnswer
  split
  · next ht => exact (stays_setExec _ .idle).after (stays_queueTakes ht a)
  · exact fun hs => { hs with egress := hs.egress.sublist (List.Sublist.refl _) }

theorem stays_takeOutbound {s : State} (ht : s.egress.takes = true) (f : OutFrame) (rest : List OutFrame) :
    Stays s (s.takeOutbound f rest) := by
  have htaken : Stays s { s.queueTakes f with
      composer := { s.composer with outbound := rest }
      egress := { (s.queueTakes f).egress with composerWaits := false } } :=
    (stays_queueTakes ht f).trans fun hs => { hs with egress := hs.egress.sublist (List.Sublist.refl _) }
  unfold State.takeOutbound
  dsimp only
  split
  · exact htaken.trans (stays_flushEnded _)
  · exact htaken

theorem stays_composerOffer {s t : State} (h : s.composerOffer = some t) : Stays s t := by
  unfold State.composerOffer at h
  split at h
  · cases h
  split at h
  · next ho =>
    cases h
    refine stays_takeOutbound ?_ _ _
    unfold Egress.takes
    simp only [Bool.or_eq_true, Bool.and_eq_true] at ho ⊢
    exact ho.imp_right And.right
  split at h
  · cases h
  · cases h
    exact fun hs => { hs with egress := hs.egress.sublist (List.Sublist.refl _) }

/-- One thing due between the producers and the queue. -/
theorem stays_egressStep {s t : State} (h : s.egressStep = some t) : Stays s t := by
  unfold State.egressStep at h
  split at h
  · cases h
    exact stays_egress fun hx => hx.select _ _
  split at h
  · exact stays_composerOffer h
  · split at h
    · next hroom =>
      cases h
      exact (stays_setExec _ .idle).after (stays_queueTakes (Bool.or_eq_true_iff.2 (.inl hroom)) _)
    · exact stays_composerOffer h
  · split at h
    · exact stays_composerOffer h
    · cases h
      exact (stays_offerAnswer _ _).after fun hs => { hs with }

theorem stays_settleSteps (n : Nat) (s : State) : Stays s (State.settleSteps n s) := by
  induction n generalizing s with
  | zero => exact .refl s
  | succ n ih =>
    unfold State.settleSteps
    split
    · exact .refl s
    · next t h => exact (stays_egressStep h).trans (ih t)

theorem stays_judgeDrain (s : State) : Stays s s.judgeDrain := by
  unfold State.judgeDrain
  split
  · exact stays_setEngine s .paused
  · exact .refl s

theorem stays_settleAndJudge (s : State) : Stays s s.settleAndJudge :=
  (stays_judgeDrain _).after (stays_settleSteps _ s)

end Sys2Proof.Proofs.Sizes
end

/-! ## The blocks' own transitions keep the tables and the queues (O53) -/

section
namespace Sys2Proof.Proofs.Sizes
open Sys2Proof Sys2Proof.Machine Sys2Proof.Laws

/-! ### The store -/

theorem stays_leaveOpen (s : State) (g : Nat) (c : Cause) : Stays s (s.leaveOpen g c) := fun hs => by
  rw [leaveOpen_eq]
  exact { hs with ctxs := wf_update _ hs.ctxs, ring := wf_set hs.ring _ _ }

theorem stays_offer (s : State) : Stays s s.offer := by
  unfold State.offer
  dsimp only
  split
  · exact (stays_setSlot s _ _).trans fun hs => { hs with }
  · exact .refl s

theorem stays_offerIfLow (s : State) (g : Nat) : Stays s (s.offerIfLow g) := by
  unfold State.offerIfLow
  split
  · exact stays_offer s
  · exact .refl s

theorem stays_evaluate (s : State) (g : Nat) : Stays s (s.evaluate g) := by
  unfold State.evaluate
  dsimp only
  split
  · exact (stays_leaveOpen s g _).trans (stays_offerIfLow _ _)
  · exact .refl s

theorem stays_expire (s : State) (g : Nat) : Stays s (s.expire g) := by
  unfold State.expire
  dsimp only
  split
  · exact ((stays_evaluate s g).trans (stays_leaveOpen _ _ _)).trans (stays_offerIfLow _ _)
  · exact stays_evaluate s g

theorem stays_expireIfDue (s : State) (g : Nat) : Stays s (s.expireIfDue g) := by
  unfold State.expireIfDue
  split
  · exact stays_expire s g
  · exact .refl s

theorem stays_closeFor (s : State) (c : Cause) (g : Nat) : Stays s (s.closeFor c g) := by
  unfold State.closeFor
  dsimp only
  split
  · exact stays_leaveOpen s g c
  · exact (stays_setSlot s g _).trans (stays_countClose _ c)
  all_goals exact .refl s

theorem stays_closeAll (s : State) (c : Cause) : Stays s (s.closeAll c) :=
  stays_foldl (fun s g => stays_closeFor s c g) _ s

theorem stays_openSlot (s : State) (g : Nat) : Stays s (s.openSlot g) := by
  unfold State.openSlot
  exact (stays_evaluate _ g).after ((stays_setSlot _ g _).after (stays_window s _))

theorem stays_openSlotNow (s : State) (g : Nat) : Stays s (s.openSlotNow g) :=
  (stays_openSlot s g).trans (stays_expireIfDue _ g)

theorem stays_catchUp (s : State) : Stays s s.catchUp := by
  unfold State.catchUp
  split
  · refine (stays_foldl (fun s g => ?_) s.span s).trans (stays_offer _)
    split
    · exact stays_openSlotNow s g
    · exact .refl s
  · exact .refl s

theorem stays_passFloor (s : State) : Stays s s.passFloor := by
  unfold State.passFloor
  split
  · exact stays_advanceLow s
  · exact .refl s

theorem stays_takeTimeStep (s : State) : Stays s s.takeTimeStep := by
  unfold State.takeTimeStep
  refine (stays_catchUp _).after ((stays_offer _).after ((stays_passFloor _).after ?_))
  exact (stays_closeAll s .timeStep).trans (stays_setFloor _ _)

theorem stays_forceRing (s : State) : Stays s s.forceRing := by
  unfold State.forceRing
  split
  · exact (stays_offer _).after ((stays_leaveOpen s _ _).trans fun hs => { hs with })
  · exact .refl s

theorem stays_storeInstant (s : State) (g : Nat) : Stays s (s.storeInstant g) := by
  unfold State.storeInstant
  split
  · exact .refl s
  split
  · split
    · split
      · exact stays_openSlotNow s g
      · exact .refl s
    · exact stays_evaluate s g
    all_goals exact .refl s
  split
  · exact stays_forceRing s
  · exact .refl s

theorem stays_takeInstant (s : State) : Stays s s.takeInstant :=
  (stays_storeInstant _ _).after (stays_tru s _)

theorem stays_release (s : State) : Stays s s.release := by
  have hfreed : Stays s (s.setSlot s.store.hLow Slot.empty) := stays_setSlot s _ _
  unfold State.release
  refine (stays_judgeDrain _).after ((stays_offer _).after ((stays_catchUp _).after ((stays_advanceLow _).after ?_)))
  exact hfreed.trans fun hs => { hs with }

theorem stays_enterRunning (s : State) : Stays s s.enterRunning := (stays_catchUp _).after fun hs => { hs with }

theorem stays_clearAwaited (s : State) (k : Nat) : Stays s (s.clearAwaited k) := by
  unfold State.clearAwaited
  exact (stays_foldl stays_evaluate _ _).after fun hs => { hs with ring := wf_update _ hs.ring }

/-! ### Intake and placement -/

theorem stays_discard (s : State) (k : Nat) (c : IntakeCount) : Stays s (s.discard k c) :=
  (stays_intakeEnds s c).trans (stays_setCtx _ _ _)

theorem stays_engineDiscard (s : State) (k : Nat) : Stays s (s.engineDiscard k) := by
  unfold State.engineDiscard
  split
  · exact (stays_discard _ _ _).after fun hs => { hs with }
  · exact stays_discard s _ _
  · exact stays_discard s _ _
  all_goals exact .refl s

theorem stays_forcePool (s : State) : Stays s s.forcePool := by
  have hpressed : Stays s { s with store := { s.store with poolPressure := true } } := fun hs => { hs with }
  unfold State.forcePool
  dsimp only
  split
  · exact (stays_offer _).after ((stays_leaveOpen _ _ _).after hpressed)
  · exact hpressed

/-- The cell that a report fills and the record it joins (R96). -/
theorem stays_fillCell (s : State) (q : Placement) (c : Nat) (rest : List Nat) : Stays s (s.fillCell q c rest) :=
  fun hs => { hs with pool := wf_set hs.pool _ _, ring := wf_set hs.ring _ _ }

theorem stays_onTimeNotice (s : State) (q : Placement) : Stays s (s.onTimeNotice q) := by
  unfold State.onTimeNotice
  split
  · exact stays_window s _
  · exact .refl s

theorem stays_lateNotice (s : State) (q : Placement) : Stays s (s.lateNotice q) := by
  unfold State.lateNotice
  split
  · exact stays_window s _
  · exact .refl s

theorem stays_accepted (s : State) (q : Placement) : Stays s (s.accepted q) :=
  ((stays_intakeEnds s .accepted).trans (stays_setCtx _ _ _)).trans (stays_setCtx _ _ _)

theorem stays_acceptReport (s : State) (q : Placement) (c : Nat) (rest : List Nat) :
    Stays s (s.acceptReport q c rest) := by
  unfold State.acceptReport
  exact (stays_accepted _ q).after
    ((stays_evaluate _ _).after ((stays_onTimeNotice _ q).after (stays_fillCell s q c rest)))

theorem stays_placeInSlot (s : State) (q : Placement) : Stays s (s.placeInSlot q) := by
  unfold State.placeInSlot
  split
  · exact stays_discard s _ _
  split
  · exact (stays_forcePool s).trans (stays_discard _ _ _)
  · exact stays_acceptReport s q _ _

theorem stays_place (s : State) (q : Placement) : Stays s (s.place q) := by
  unfold State.place
  split
  · exact (stays_lateNotice s q).trans (stays_discard _ _ _)
  · exact stays_discard s _ _
  split
  · exact ((stays_openSlot s _).trans (stays_placeInSlot _ q)).trans (stays_expireIfDue _ _)
  · exact stays_placeInSlot s q

theorem stays_takePlacement (s : State) : Stays s s.takePlacement := by
  unfold State.takePlacement
  split
  · exact .refl s
  split
  · exact stays_discard s _ _
  · exact stays_place s _

/-- The directive queue takes a directive while fewer than four wait (R60). -/
theorem stays_handDirective (s : State) (f : InFrame) : Stays s (s.handDirective f) := by
  unfold State.handDirective
  split
  · next hroom =>
    refine (stays_intakeEnds _ _).after fun hs => { hs with directives := ?_ }
    rw [List.length_append]
    exact hroom
  · exact stays_intakeEnds s _

theorem stays_admitKept (s : State) (r : Report) (k g : Nat) (residual : Int) (mark : Bool) :
    Stays s (s.admitKept r k g residual mark) := by
  unfold State.admitKept
  dsimp only
  split
  · exact (stays_discard _ _ _).after (stays_setCtx s _ _)
  · exact (stays_setCtx s _ _).trans fun hs => { hs with }

theorem stays_admitKnown (s : State) (r : Report) (k : Nat) : Stays s (s.admitKnown r k) := by
  unfold State.admitKnown
  split
  · exact stays_discard s _ _
  split
  · exact stays_discard s _ _
  split
  · exact stays_engineDiscard s _
  split
  · exact stays_discard s _ _
  · exact stays_discard s _ _
  · exact stays_admitKept s r k _ _ _

theorem stays_admitReport (s : State) (bytes : List Byte) : Stays s (s.admitReport bytes) := by
  unfold State.admitReport
  split
  · exact stays_intakeEnds s _
  split
  · exact stays_intakeEnds s _
  · exact stays_admitKnown s _ _

theorem stays_workOn (s : State) (f : InFrame) : Stays s (s.workOn f) := by
  unfold State.workOn
  split
  · exact stays_intakeEnds s _
  split
  · exact stays_admitReport s _
  · exact stays_handDirective s f
  · exact stays_intakeEnds s _

theorem stays_takeFrame (s : State) : Stays s s.takeFrame := by
  unfold State.takeFrame
  split
  · next l _ _ =>
    split
    · exact .refl s
    · next f rest hl =>
      have htaken : Stays s (s.setLinkIn l { s.linkIn l with fifo := rest }) :=
        stays_setLinkIn fun h => bounded_rest h hl
      exact (stays_workOn _ _).after (htaken.trans fun hs => { hs with })
  · exact .refl s

/-! ### Composition and holding lists -/

theorem stays_pushOutbound (s : State) (f : OutFrame) : Stays s (s.pushOutbound f) := fun hs => { hs with }

theorem stays_formBatch (s : State) (n : Nat) : Stays s (s.formBatch n) := by
  unfold State.formBatch
  dsimp only
  split
  · exact .refl s
  · exact (stays_setHolding s n Holding.empty).trans fun hs => { hs with }

theorem stays_formAllBatches (s : State) : Stays s s.formAllBatches := stays_foldl stays_formBatch _ s

theorem stays_holdSet (s : State) (n : Nat) (bytes : List Byte) : Stays s (s.holdSet n bytes) := by
  unfold State.holdSet
  extract_lets h s1 h1 h2 s2
  have hs1 : Stays s s1 := by
    dsimp only [s1]
    split
    · exact stays_formBatch s n
    · exact .refl s
  have hs2 : Stays s s2 := hs1.trans (stays_setHolding s1 n h2)
  split
  · exact hs2.trans (stays_formBatch s2 n)
  · exact hs2

theorem stays_handOn (s : State) (n : Nat) (bytes : List Byte) : Stays s (s.handOn n bytes) := by
  unfold State.handOn
  dsimp only
  split
  · exact stays_pushOutbound s _
  · exact stays_holdSet s n bytes

theorem stays_profileTurn (s : State) (n : Nat) (x : Slot) : Stays s (s.profileTurn n x) := by
  unfold State.profileTurn
  dsimp only
  split
  · exact (stays_handOn _ _ _).after fun hs => { hs with }
  · exact .refl s

theorem stays_considerNext (s : State) (w : Composing) : Stays s (s.considerNext w) := by
  unfold State.considerNext
  dsimp only
  split
  · exact (stays_profileTurn s _ _).trans fun hs => { hs with }
  · exact .refl s

theorem stays_composed (s : State) : Stays s s.composed := by
  have hdrained : Stays s (if s.mgmt.engine = .draining then s.formAllBatches else s) := by
    split
    · exact stays_formAllBatches s
    · exact .refl s
  unfold State.composed
  exact (stays_release _).after (hdrained.trans fun hs => { hs with })

theorem stays_finishIfComposed (s : State) : Stays s s.finishIfComposed := by
  unfold State.finishIfComposed
  split
  · exact .refl s
  split
  · exact stays_composed s
  · exact .refl s

theorem stays_composeStep (s : State) : Stays s s.composeStep := by
  unfold State.composeStep
  split
  · exact .refl s
  split
  · exact (((stays_considerNext s _).trans (stays_settleAndJudge _)).trans (stays_finishIfComposed _)).trans
      (stays_settleAndJudge _)
  · exact .refl s

theorem stays_holdExpire (s : State) (n : Nat) : Stays s (s.holdExpire n) :=
  (stays_formBatch s n).trans fun hs => { hs with }

theorem stays_holdExpireDue (s : State) : Stays s s.holdExpireDue := by
  refine stays_foldl (fun s n => ?_) _ s
  split
  · exact stays_holdExpire s n
  · exact .refl s

theorem stays_takeHoldExpiry (s : State) (n : Nat) : Stays s (s.takeHoldExpiry n) :=
  (stays_holdExpire s n).trans (stays_settleAndJudge _)

/-! ### Edges and the passing of time -/

theorem stays_truLocked (s : State) : Stays s s.truLocked := by
  unfold State.truLocked
  split
  · exact stays_enterRunning s
  · exact .refl s

theorem stays_takeEdge (s : State) : Stays s s.takeEdge := by
  unfold State.takeEdge
  dsimp only
  split
  · exact stays_tru s _
  · exact (stays_tru s _).trans (stays_truLocked _)
  · exact ((stays_tru s _).trans (stays_takeTimeStep _)).trans (stays_truLocked _)

/-- A tick is a nanosecond and the time limits it reaches (log entry 4). -/
theorem stays_tick (s : State) : Stays s s.tick := by
  unfold State.tick
  extract_lets s1 s2 s3 s4 s5
  have h1 : Stays s s1 := stays_tru s _
  have h2 : Stays s1 s2 := by
    dsimp only [s2]
    split
    · exact stays_tru _ _
    · exact .refl _
  have h3 : Stays s2 s3 := by
    dsimp only [s3]
    split
    · exact .refl _
    split
    · exact stays_tru _ _
    · exact .refl _
  have h4 : Stays s3 s4 := by
    dsimp only [s4]
    split
    · exact stays_takeInstant _
    · exact .refl _
  have h5 : Stays s4 s5 := stays_foldl stays_expireIfDue _ _
  refine ((((h1.trans h2).trans h3).trans h4).trans h5).trans (stays_foldl (fun s n => ?_) _ _)
  split
  · exact stays_takeHoldExpiry s n
  · exact .refl s

end Sys2Proof.Proofs.Sizes
end

/-! ## Directives, commands and steps keep the tables and the queues (O53) -/

section
namespace Sys2Proof.Proofs.Sizes
open Sys2Proof Sys2Proof.Machine Sys2Proof.Laws

/-! ### WRITE_ENTRIES (R158) -/

/-- A write that fails leaves the state, and one that is made keeps it sound. -/
def WriteStays (s : State) : WriteResult → Prop
  | .fails _ => True
  | .written t _ => Stays s t

theorem writeStays_enumerated {α : Type} {s : State} {v : Option α} {k : α → WriteResult}
    (h : ∀ x, WriteStays s (k x)) : WriteStays s (enumerated v k) := by
  cases v with
  | none => trivial
  | some x => exact h x

theorem writeStays_structural {s : State} {r : WriteResult} (h : WriteStays s r) : WriteStays s (s.structural r) := by
  unfold State.structural
  split
  · trivial
  · exact h

theorem writeStays_unless {s : State} {p : Prop} [Decidable p] {c : OutcomeCode} {r : WriteResult}
    (h : WriteStays s r) : WriteStays s (if p then .fails c else r) := by
  split
  · trivial
  · exact h

/-- An entry's first tests refuse it, or leave it to its own (R42, R71, R124, R125, R155, R156). -/
theorem writeStays_guarded {s : State} {o : Option OutcomeCode} {r : WriteResult} (h : WriteStays s r) :
    WriteStays s (match o with
      | some c => .fails c
      | none => r) := by
  cases o with
  | none => exact h
  | some c => trivial

theorem writeStays_numeric {s : State} {lo hi v : Nat} {k : Nat → Bool → WriteResult}
    (h : ∀ x c, WriteStays s (k x c)) : WriteStays s (numeric lo hi v k) := h _ _

theorem writeStays_written {s t : State} {c : Bool} (h : Stays s t) : WriteStays s (.written t c) := h

theorem writeStays_rate (s : State) (r : Nat) : WriteStays s (s.writeRate r) :=
  writeStays_guarded (writeStays_unless (writeStays_unless (writeStays_written fun hs => { hs with })))

/-- No Engine Parameter is a table or a queue; two writes reach the confidences and the holding lists (R49, R133). -/
theorem writeStays_param (s : State) (i v : Nat) : WriteStays s (s.writeParam i v) := by
  have hset : ∀ {p : Params} {c : Bool}, WriteStays s (.written (s.setParams p) c) := stays_setParams s _
  match i with
  | 0 => exact writeParam_rate s v ▸ writeStays_enumerated (writeStays_rate s)
  | 1 =>
    rw [writeParam_mapSelect]
    refine writeStays_enumerated fun _ => writeStays_structural ?_
    cases s.mapOccupied with
    | true => trivial
    | false => exact hset
  | 2 => exact writeParam_mgmtId s v ▸ writeStays_structural (writeStays_numeric fun _ _ => hset)
  | 3 => exact writeParam_lead s v ▸ writeStays_structural (writeStays_numeric fun _ _ => hset)
  | 4 => exact writeParam_ppsEdge s v ▸ writeStays_enumerated fun _ => writeStays_structural hset
  | 5 =>
    rw [writeParam_cSat]
    exact writeStays_numeric fun _ _ => writeStays_written ((stays_clampConfidence _).after (stays_setParams s _))
  | 6 => exact writeParam_cAwait s v ▸ writeStays_numeric fun _ _ => hset
  | 7 =>
    rw [writeParam_wMin]
    exact writeStays_numeric fun _ _ => writeStays_unless (writeStays_written fun hs => { hs with })
  | 8 =>
    rw [writeParam_wMax]
    exact writeStays_numeric fun _ _ => writeStays_unless (writeStays_written fun hs => { hs with })
  | 9 => exact writeParam_w0 s v ▸ writeStays_numeric fun _ _ => hset
  | 10 => exact writeParam_adaptation s v ▸ writeStays_enumerated fun _ => hset
  | 11 => exact writeParam_theta s v ▸ writeStays_enumerated fun _ => hset
  | 12 => exact writeParam_upStep s v ▸ writeStays_enumerated fun _ => hset
  | 13 => exact writeParam_downStep s v ▸ writeStays_enumerated fun _ => hset
  | 14 => exact writeParam_wq s v ▸ writeStays_numeric fun _ _ => writeStays_written (stays_window s _)
  | 15 => exact writeParam_wm1 s v ▸ writeStays_numeric fun _ _ => writeStays_unless hset
  | 16 => exact writeParam_wm2 s v ▸ writeStays_numeric fun _ _ => writeStays_unless hset
  | 17 =>
    rw [writeParam_hMax]
    exact writeStays_numeric fun _ _ => writeStays_written fun hs => { hs with }
  | 18 =>
    rw [writeParam_drift]
    exact writeStays_numeric fun _ _ => writeStays_written fun hs => { hs with }
  | 19 =>
    rw [writeParam_holdLimit]
    exact writeStays_numeric fun _ _ => writeStays_written ((stays_holdExpireDue _).after (stays_setParams s _))
  | 20 => exact writeParam_promotion s v ▸ writeStays_numeric fun _ _ => hset
  | 21 => exact writeParam_highBypassMax s v ▸ writeStays_numeric fun _ _ => hset
  | _ + 22 =>
    exact writeStays_numeric (k := fun x c => .written (s.setParams { s.params with lowBypassMax := x }) c) fun _ _ => hset

/-- One entry of any table, written or refused. -/
theorem writeStays_entry (s : State) (table : Nat) (i : Int) (cls : Nat) (e : List Byte) :
    WriteStays s (s.writeEntry table i cls e) :=
  match table with
  | 0 => writeStays_unless (writeStays_unless (writeStays_param s _ _))
  | 1 => writeStays_guarded (r := .fails .badTable) trivial
  | 2 => writeStays_guarded (writeStays_unless (writeStays_enumerated fun _ => writeStays_written (stays_setCtx s _ _)))
  | 3 => writeStays_guarded (writeStays_enumerated fun _ => writeStays_written (stays_setConversion s _ _))
  | 4 => writeStays_guarded (writeStays_unless (writeStays_enumerated fun _ => writeStays_written (stays_setProfile s _ _)))
  | 5 => writeStays_guarded (writeStays_unless (writeStays_unless (writeStays_written (stays_setMember s _ _))))
  | 6 => writeStays_guarded (writeStays_enumerated fun _ => writeStays_unless (writeStays_written (stays_setManager s _ _)))
  | _ + 7 => writeStays_guarded (writeStays_enumerated fun _ => writeStays_written (stays_setAccess s _ _))

theorem stays_writeTransfer (table cls : Nat) (step : Int) (es : List (List Byte)) (i : Int) (n : Nat) (cl : Bool)
    (s : State) : Stays s (writeTransfer table cls step es i n cl s).1 := by
  induction es generalizing i n cl s with
  | nil => exact .refl s
  | cons e es ih =>
    have he := writeStays_entry s table i cls e
    unfold writeTransfer
    split
    · exact .refl s
    · next t c hw =>
      rw [hw] at he
      exact Stays.trans he (ih _ _ _ t)

/-! ### The other directives' own work -/

theorem stays_bindWork (s : State) (k : Nat) (sid : Half) : Stays s (s.bindWork k sid).1 := by
  unfold State.bindWork
  iterate 4 (split; · exact .refl s)
  split
  · exact .refl s
  · exact (stays_setWay s _ _).trans (stays_setCtx _ _ _)

theorem stays_unbindWork (s : State) (k : Nat) : Stays s (s.unbindWork k).1 := by
  unfold State.unbindWork
  iterate 3 (split; · exact .refl s)
  dsimp only
  split
  · exact stays_setCtx s _ _
  · exact (stays_setWay s _ _).trans (stays_setCtx _ _ _)

theorem stays_enableWork (s : State) (k : Nat) : Stays s (s.enableWork k).1 := by
  unfold State.enableWork
  iterate 4 (split; · exact .refl s)
  exact stays_setCtx s _ _

theorem stays_disableWork (s : State) (k : Nat) : Stays s (s.disableWork k).1 := by
  unfold State.disableWork
  iterate 2 (split; · exact .refl s)
  dsimp only
  exact (stays_clearAwaited _ k).after (stays_setCtx s _ _)

theorem stays_enableProfileWork (s : State) (n : Nat) : Stays s (s.enableProfileWork n).1 := by
  unfold State.enableProfileWork
  split; · exact .refl s
  dsimp only
  iterate 5 (split; · exact .refl s)
  exact stays_setProfile s _ _

theorem stays_disableProfileWork (s : State) (n : Nat) : Stays s (s.disableProfileWork n).1 := by
  unfold State.disableProfileWork
  iterate 2 (split; · exact .refl s)
  exact (stays_formBatch _ n).after (stays_setProfile s _ _)

theorem stays_enterDraining (s : State) : Stays s s.enterDraining := by
  unfold State.enterDraining
  exact (stays_judgeDrain _).after ((stays_offer _).after ((stays_formAllBatches _).after (stays_setEngine s _)))

theorem stays_resumeWork (s : State) : Stays s s.resumeWork.1 := by
  unfold State.resumeWork
  split
  · split
    · dsimp only
      exact stays_enterRunning s
    · exact stays_setEngine s _
  · exact .refl s

theorem stays_pauseWork (s : State) : Stays s s.pauseWork.1 := by
  unfold State.pauseWork
  split
  · dsimp only
    exact stays_enterDraining s
  · exact stays_setEngine s _
  all_goals exact .refl s

theorem stays_pauseNowWork (s : State) : Stays s s.pauseNowWork.1 := by
  unfold State.pauseNowWork
  split
  · dsimp only
    exact (stays_enterDraining _).after ((stays_closeAll _ _).after (stays_setEngine s _))
  · exact stays_setEngine s _
  all_goals exact .refl s

/-- ENGINE_RESET empties the ring and the holding lists, and leaves the FIFOs, the directive queue and the answers that wait
(R69, R108, R137, R151). -/
theorem stays_engineResetWork (s : State) (d : Directive) : Stays s (s.engineResetWork d) := by
  have hblocks : Stays s s.resetBlocks := by
    unfold State.resetBlocks
    refine (stays_flushEnded _).after fun hs => { hs with
      ctxs := wf_update _ hs.ctxs, ring := rfl, holding := rfl, egress := hs.egress.sublist List.filter_sublist }
  exact hblocks.trans fun hs => { hs with }

theorem stays_flushWork (s : State) (d : Directive) : Stays s (s.flushWork d).1 := by
  unfold State.flushWork
  iterate 2 (split; · exact .refl s)
  dsimp only
  exact (stays_deferFlush _ _).after ((stays_outbound _ _ _).after (stays_formAllBatches s))

theorem stays_clearCounts (s : State) : Stays s s.clearCounts := fun hs =>
  { hs with ctxs := wf_update _ hs.ctxs, egress := hs.egress.sublist (List.Sublist.refl _) }

theorem stays_clearFlags (s : State) (selector : Nat) : Stays s (s.clearFlags selector) := by
  unfold State.clearFlags
  split
  · exact fun hs => { hs with }
  · exact fun hs => { hs with }
  · exact stays_egress fun h => h.sublist (List.Sublist.refl _)
  · exact .refl s

theorem stays_statusWork (s : State) (d : Directive) : Stays s (s.statusWork d).1 := by
  unfold State.statusWork
  dsimp only
  split
  · exact stays_clearFlags s _
  · exact .refl s

/-! ### Directives -/

/-- A directive's own work, by its code. -/
theorem stays_ownWork (s : State) (cls : Nat) (c : DirectiveCode) (d : Directive) : Stays s (s.ownWork cls c d).1 := by
  unfold State.ownWork
  cases c with
  | readEntries => exact .refl s
  | writeEntries => exact stays_writeTransfer _ _ _ _ _ _ _ s
  | bindStream => exact stays_bindWork s _ _
  | unbindStream => exact stays_unbindWork s _
  | setStreamState =>
    dsimp only
    split
    · exact stays_enableWork s _
    · exact stays_disableWork s _
  | enableProfile => exact stays_enableProfileWork s _
  | disableProfile => exact stays_disableProfileWork s _
  | resume => exact stays_resumeWork s
  | pause => exact stays_pauseWork s
  | pauseNow => exact stays_pauseNowWork s
  | engineReset => exact stays_engineResetWork s d
  | flushBatches => exact stays_flushWork s d
  | clearCounters => exact stays_clearCounts s
  | lockConfig => exact fun hs => { hs with }
  | readStatus => exact stays_statusWork s d

theorem stays_directiveWork (s : State) (cls : Nat) (d : Directive) : Stays s (s.directiveWork cls d).1 := by
  unfold State.directiveWork
  split
  · exact .refl s
  split
  · exact .refl s
  · exact stays_ownWork s cls _ d

theorem stays_finishDirective (s : State) (d : Directive) (r : Option Reply) : Stays s (s.finishDirective d r) := by
  unfold State.finishDirective
  split
  · exact (stays_settleAndJudge _).after ((stays_setExec s _).trans (stays_nextFree _))
  · exact (stays_settleAndJudge _).after
      (((stays_countAnswer s _).trans (stays_offerAnswer _ _)).trans (stays_nextFree _))

theorem stays_executeDirective (s : State) (d : Directive) : Stays s (s.executeDirective d) := by
  unfold State.executeDirective
  split
  · exact fun hs => { hs with }
  · next cls _ =>
    have hwork : Stays s ((s.setExec .executing).directiveWork cls d).1 :=
      (stays_setExec s _).trans (stays_directiveWork _ cls d)
    exact (hwork.trans (stays_settleAndJudge _)).trans (stays_finishDirective _ d _)

theorem stays_runDirective (s : State) (d : Directive) : Stays s (s.runDirective d) :=
  (stays_takePlacement s).trans (stays_executeDirective _ d)

theorem stays_takeDirective (s : State) (d : Directive) : Stays s (s.takeDirective d) := by
  unfold State.takeDirective
  split
  · exact stays_runDirective s d
  · exact .refl s

/-! ### Events -/

theorem stays_powerOn (s : State) (p : Params) (f : Nat) (q : List Instr) :
    Stays s { State.reset with params := p, free := f, pending := q } := fun _ =>
  { (sound_iff State.reset).2 ⟨Instants.canonical_reset, Instants.bounded_reset⟩ with }

theorem stays_readyIndicated (s : State) : Stays s { s with egress := s.egress.readyIndicated } := by
  refine stays_egress fun h => h.sublist ?_
  unfold Egress.readyIndicated
  split <;> exact List.Sublist.refl _

theorem stays_completionIndicated (s : State) : Stays s { s with egress := s.egress.completionIndicated } := by
  refine stays_egress fun h => h.sublist ?_
  unfold Egress.completionIndicated
  split <;> exact List.Sublist.refl _

/-- The Management Unit takes the head of its queue (R153). -/
theorem stays_queueRest {s : State} {f : InFrame} {rest : List InFrame} (hq : s.mgmt.queue = f :: rest) :
    Stays s { s with mgmt := { s.mgmt with queue := rest } } := fun hs => by
  have hlength := hs.directives
  rw [hq] at hlength
  exact { hs with directives := (Nat.le_succ _).trans hlength }

/-- The scrub zeroes the Cell Pool (R108). -/
theorem stays_scrubDone (s : State) : Stays s s.scrubDone := by
  unfold State.scrubDone
  dsimp only
  split
  · exact fun hs => { hs with pool := rfl }
  · exact (stays_formDeferred _ _ _).after fun hs => { hs with pool := rfl }

/-- The commands that are events. -/
theorem stays_event {c : Instr} {s t : State} (hc : directiveOf c = none) (h : exec c s = .next t) : Stays s t := by
  cases c with
  | powerOnReset pins => cases h; exact stays_powerOn s _ _ _
  | frameArrival after link source frame =>
    cases h
    exact (stays_setLinkIn fun hl => bounded_arrive hl _).after (stays_tru s _)
  | frameTake => cases h; exact stays_takeFrame s
  | placementRequest => cases h; exact stays_takePlacement s
  | instantEvent => cases h; exact (stays_takeInstant _).after (stays_tru s _)
  | deadlineExpiry g =>
    cases h
    split
    · exact (stays_expire _ g).after (stays_tru s _)
    · exact .refl s
  | compositionStep => cases h; exact stays_composeStep s
  | holdExpiry profile =>
    cases h
    split
    · exact .refl s
    · exact (stays_takeHoldExpiry _ _).after (stays_tru s _)
  | readyIndication after =>
    cases h
    exact (stays_settleAndJudge _).after ((stays_readyIndicated _).after (stays_tru s _))
  | completionIndication after => cases h; exact (stays_completionIndicated _).after (stays_tru s _)
  | todMessage after bytes => cases h; exact stays_tru s _
  | ppsEdge after polarity =>
    cases h
    split
    · exact (stays_takeEdge _).after (stays_tru s _)
    · exact stays_tru s _
  | edgeTimerExpiry =>
    cases h
    split
    · exact .refl s
    · exact stays_tru s _
  | holdoverSecond =>
    cases h
    split
    · exact stays_tru s _
    · exact .refl s
  | directiveTake =>
    cases h
    split
    · next hq => exact (stays_queueRest hq).trans (stays_runDirective _ _)
    · exact .refl s
  | scrubCompletion =>
    cases h
    split
    · exact (stays_scrubDone s).trans (stays_settleAndJudge _)
    · exact .refl s
  | writeWindowLimits r limit v => cases limit <;> cases hc
  | writeWatermark r mark v => cases mark <;> cases hc
  | writeHoldoverParameter r param v => cases param <;> cases hc
  | _ => cases hc

/-! ### Steps -/

theorem stays_exec {c : Instr} {s t : State} (h : exec c s = .next t) : Stays s t := by
  cases hc : directiveOf c with
  | none => exact stays_event hc h
  | some x =>
    obtain ⟨r, k, d⟩ := x
    rw [StreamsKept.exec_directive hc] at h
    cases h
    exact stays_takeDirective s d

theorem stays_step {s t : State} (h : step s = .next t) : Stays s t := by
  rcases Ranges.step_cases h with ⟨-, ht⟩ | ⟨c, rest, -, hc⟩
  · exact ht ▸ stays_tick s
  · exact (stays_pending s rest).trans (stays_exec hc)

/-- Settles O53: every command, and the tick, is made of writes that keep the canonical form and of takings that keep the
sizes. -/
theorem tablesAndQueuesStayBounded : Obligations.TablesAndQueuesStayBounded := fun s t hcanon hbound h =>
  (sound_iff t).1 (stays_step h ((sound_iff s).2 ⟨hcanon, hbound⟩))

end Sys2Proof.Proofs.Sizes
end

/-! ## Frames laid out as a head and a tail of bytes (11.1, 11.3) -/

section
namespace Sys2Proof.Proofs.Frames
open Sys2Proof Sys2Proof.Machine Sys2Proof.Laws Sys2Proof.Proofs.Records Sys2Proof.Proofs.Status
  Sys2Proof.Proofs.Admission Sys2Proof.Proofs.FrameTake Sys2Proof.Proofs.Entries

/-! ### A head laid out part by part, and the bytes after it -/

/-- Bytes that begin with a head laid out part by part. -/
structure Headed (bs : List Byte) (head : List Part) (tail : List Byte) : Prop where
  eq : bs = layout head ++ tail
  sized : Sized head

section
variable {bs tail : List Byte} {head : List Part} {off : Nat}

/-- The tail is a part like the head's. -/
theorem Headed.record (h : Headed bs head tail) : Record bs (head ++ [(tail.length, tail)]) [] :=
  ⟨by simp [h.eq, layout], sized_append.2 ⟨h.sized, sized_cons.2 ⟨rfl, sized_nil⟩⟩⟩

theorem Headed.length (h : Headed bs head tail) : bs.length = (head.map Prod.fst).sum + tail.length := by
  rw [h.eq, List.length_append, layout_length h.sized]

theorem Headed.drop (h : Headed bs head tail) (hoff : (head.map Prod.fst).sum = off) : bs.drop off = tail := by
  rw [h.eq, ← hoff, ← layout_length h.sized, List.drop_left]

/-- From a head part's offset on stand the part's bytes. -/
theorem Headed.dropAt (h : Headed bs head tail) {p : Part} (hp : partAt head off = some p) :
    ∃ rest, bs.drop off = p.2 ++ rest := by
  have hrecord := h.record
  rw [hrecord.eq]
  exact (drop_layout hrecord.sized_all (partAt_append (partAt_append hp))).1

theorem Headed.field (h : Headed bs head tail) {k v : Nat} (hp : partAt head off = some (num k v)) :
    Machine.field bs off k = v % 256 ^ k :=
  h.record.field (partAt_append hp)

theorem Headed.byte (h : Headed bs head tail) {v : Nat} (hp : partAt head off = some (num 1 v)) :
    byteAt bs off = BitVec.ofNat 8 v :=
  byteAt_flags h.record (partAt_append hp)

theorem Headed.byte_toNat (h : Headed bs head tail) {v : Nat} (hp : partAt head off = some (num 1 v)) :
    (byteAt bs off).toNat = v % 256 := by
  rw [h.byte hp, BitVec.toNat_ofNat]

end

/-- Parts of one length, each at its place. -/
theorem partAt_map {α : Type} {f : α → Part} {n : Nat} (hn : 0 < n) (hf : ∀ a, (f a).1 = n) {l : List α} {i : Nat} {a : α}
    (h : l[i]? = some a) : partAt (l.map f) (i * n) = some (f a) := by
  induction l generalizing i with
  | nil => cases h
  | cons b l ih =>
    rw [List.map_cons]
    unfold partAt
    cases i with
    | zero =>
      rw [if_pos (Nat.zero_mul n)]
      exact congrArg (some ∘ f) (Option.some.inj h)
    | succ i =>
      have hoff : (i + 1) * n = i * n + n := Nat.succ_mul i n
      rw [hf, hoff, if_neg (by omega), if_neg (by omega), Nat.add_sub_cancel]
      exact ih h

theorem sum_fst_map {α : Type} {f : α → Part} {n : Nat} (hf : ∀ a, (f a).1 = n) (l : List α) :
    ((l.map f).map Prod.fst).sum = l.length * n := by
  have hconst : Prod.fst ∘ f = fun _ => n := funext hf
  rw [List.map_map, hconst, List.map_const', List.sum_replicate_nat]

/-! ### Signed fields -/

/-- A field read where a number's bytes stand. -/
theorem field_of_drop {bs rest : List Byte} {off k v : Nat} (h : bs.drop off = beBytes k v ++ rest) :
    field bs off k = v % 256 ^ k := by
  unfold field
  rw [h, List.take_left' (beBytes_length k v), beNat_beBytes]

/-- A value within the range of k bytes is read back from its two's complement. -/
theorem signedField_of_mod {bs : List Byte} {off k : Nat} {x : Int} (hk : 1 ≤ k)
    (h : field bs off k = (x % 256 ^ k).toNat % 256 ^ k) (hlo : -(256 ^ k) ≤ 2 * x) (hhi : 2 * x < 256 ^ k) :
    signedField bs off k = x := by
  have hcast : ((256 ^ k : Nat) : Int) = 256 ^ k := by push_cast; rfl
  have hpos : (0 : Int) < 256 ^ k := by positivity
  have hmod : x % 256 ^ k = if x < 0 then x + 256 ^ k else x := by
    split
    · rw [← Int.add_emod_right, Int.emod_eq_of_lt (by omega) (by omega)]
    · exact Int.emod_eq_of_lt (by omega) (by omega)
  have hlt : (x % 256 ^ k).toNat < 256 ^ k := by
    have := Int.emod_lt_of_pos x hpos
    omega
  rw [signedField_eq bs off hk, h, Nat.mod_eq_of_lt hlt, hmod]
  split_ifs <;> omega

/-- A signed field read where a signed value's bytes stand. -/
theorem signedField_of_drop {bs rest : List Byte} {off k : Nat} {x : Int} (hk : 1 ≤ k)
    (h : bs.drop off = beInt k x ++ rest) (hlo : -(256 ^ k) ≤ 2 * x) (hhi : 2 * x < 256 ^ k) : signedField bs off k = x :=
  signedField_of_mod hk (field_of_drop h) hlo hhi

/-! ### The common header of a frame the part emits (R170) -/

/-- The parts of the common header. -/
def headerParts (kind length ident specific : Nat) : List Part :=
  [num 1 0xE3, num 1 kind, num 2 length, num 2 ident, num 2 specific]

theorem header_eq (kind length ident specific : Nat) :
    header (BitVec.ofNat 8 kind) length ident specific = layout (headerParts kind length ident specific) := by
  simp only [header, headerParts, layout, num, beBytes_one, List.flatMap_cons, List.flatMap_nil, List.cons_append,
    List.nil_append, List.append_nil, List.append_assoc]
  rfl

theorem sized_headerParts (kind length ident specific : Nat) : Sized (headerParts kind length ident specific) := by
  simp [headerParts, sized_cons, sized_nil, num_length]

/-- A frame that carries its own length passes the header check. -/
theorem headerOk_of_headed {bs tail : List Byte} {kind length ident specific : Nat} {rest : List Part}
    (h : Headed bs (headerParts kind length ident specific ++ rest) tail) (hlen : bs.length = length)
    (hmax : bs.length ≤ 65535) : headerOk bs = true := by
  have hfield : field bs 2 2 = length % 256 ^ 2 := h.field rfl
  have hmin : 8 ≤ bs.length := by
    rw [h.length, List.map_append, List.sum_append]
    change 8 ≤ 8 + _ + _
    omega
  exact (headerOk_iff bs).2 ⟨hmin, h.byte rfl, by omega⟩

/-! ### The set-batch frame (R131) -/

theorem batchFrame_headed (n : Nat) (sets : List (List Byte)) :
    Headed (batchFrame n sets) (headerParts 0x22 (8 + (sets.map List.length).sum) n sets.length) sets.flatten :=
  ⟨congrArg (· ++ sets.flatten) (header_eq 0x22 _ _ _), sized_headerParts _ _ _ _⟩

theorem batchFrame_length (n : Nat) (sets : List (List Byte)) :
    (batchFrame n sets).length = 8 + (sets.map List.length).sum := by
  rw [(batchFrame_headed n sets).length, List.length_flatten]
  rfl

end Sys2Proof.Proofs.Frames
end

/-! ## Member states, member records and set frames (O30) -/

section
namespace Sys2Proof.Proofs.SetFrames
open Sys2Proof Sys2Proof.Machine Sys2Proof.Laws Sys2Proof.Proofs.Records Sys2Proof.Proofs.Status
  Sys2Proof.Proofs.Grid Sys2Proof.Proofs.Admission Sys2Proof.Proofs.Entries Sys2Proof.Proofs.Frames

/-! ### Member states (R129) -/

section
variable {s : State} {x : Slot} {k : Nat}

theorem cellOf_some {c : Cell} (h : s.cellOf x k = some c) : c.ctx = k ∧ ∃ i ∈ x.cells, s.cell i = c := by
  obtain ⟨i, hfind, rfl⟩ := Option.map_eq_some_iff.1 h
  exact ⟨of_decide_eq_true (List.find?_some (p := fun c => decide ((s.cell c).ctx = k)) hfind), i,
    List.mem_of_find?_eq_some hfind, rfl⟩

theorem cellOf_none_iff : s.cellOf x k = none ↔ ∀ i ∈ x.cells, (s.cell i).ctx ≠ k := by
  unfold State.cellOf
  simp only [Option.map_eq_none_iff, List.find?_eq_none, decide_eq_true_eq, ne_eq]

theorem memberState_of_cell {c : Cell} (h : s.cellOf x k = some c) : s.memberState x k = .present c := by
  unfold State.memberState
  rw [h]

/-- Without a cell a member's state is its context's. -/
theorem memberState_of_noCell (h : s.cellOf x k = none) : s.memberState x k =
    if (s.ctx k).binding = none ∨ (s.ctx k).enabled = false then .disabled
    else if s.expected k x.g = false then .notExpected
    else .missing := by
  unfold State.memberState
  rw [h]
  simp only [Option.isNone_iff_eq_none]

theorem memberState_present_iff (c : Cell) : s.memberState x k = .present c ↔ s.cellOf x k = some c := by
  cases h : s.cellOf x k with
  | some d => rw [memberState_of_cell h, MemberState.present.injEq, Option.some.injEq]
  | none =>
    rw [memberState_of_noCell h]
    split_ifs <;> simp

theorem memberState_absent_iff (h : s.cellOf x k = none) :
    (s.memberState x k = .disabled ↔ (s.ctx k).binding = none ∨ (s.ctx k).enabled = false)
      ∧ (s.memberState x k = .notExpected ↔
          (s.ctx k).binding ≠ none ∧ (s.ctx k).enabled = true ∧ s.expected k x.g = false)
      ∧ (s.memberState x k = .missing ↔
          (s.ctx k).binding ≠ none ∧ (s.ctx k).enabled = true ∧ s.expected k x.g = true) := by
  rw [memberState_of_noCell h]
  split
  · next hoff =>
    have hnot : (s.ctx k).binding ≠ none → (s.ctx k).enabled ≠ true := by
      rintro hbound hon
      rcases hoff with hfree | hoff
      · exact hbound hfree
      · exact Bool.eq_false_iff.1 hoff hon
    exact ⟨iff_of_true rfl hoff, iff_of_false nofun fun ⟨hb, he, _⟩ => hnot hb he,
      iff_of_false nofun fun ⟨hb, he, _⟩ => hnot hb he⟩
  · next hon =>
    obtain ⟨hbound, henabled⟩ := not_or.1 hon
    rw [Bool.not_eq_false] at henabled
    cases s.expected k x.g <;> simp [hbound, henabled]

end

/-- The members follow the profile's range (R125). -/
theorem membersOf_getElem? (s : State) (p : Profile) (x : Slot) {i : Nat} (hi : i < p.count) :
    (s.membersOf p x)[i]? =
      some (s.memberId (s.member (p.base + i)), s.memberState x (s.member (p.base + i))) := by
  simp [State.membersOf, State.memberList, hi]

theorem membersOf_length (s : State) (p : Profile) (x : Slot) : (s.membersOf p x).length = p.count := by
  simp [State.membersOf, State.memberList]

/-! ### Packed values (R79 to R82) -/

theorem partBytes_eq (f : Format) : partBytes f = if f = .rect16 then 2 else 4 := by cases f <;> rfl

theorem partBytes_pos (f : Format) : 1 ≤ partBytes f := by cases f <;> decide

/-- A value of 32 bits, as a cell holds its residual, its parts and its frequency fields (R76). -/
abbrev FitsWord (v : Int) : Prop := -2147483648 ≤ v ∧ v ≤ 2147483647

/-- A packed part fits its bytes. -/
theorem packPart_fits (f : Format) (h : Nat) {v : Int} (hv : FitsWord v) :
    -(256 ^ partBytes f) ≤ 2 * packPart f h v ∧ 2 * packPart f h v < 256 ^ partBytes f := by
  obtain ⟨hlo, hhi⟩ := hv
  cases f with
  | rect16 =>
    change -(256 ^ 2) ≤ 2 * satSigned 16 (shiftPart h v) ∧ 2 * satSigned 16 (shiftPart h v) < 256 ^ 2
    rw [satSigned_16]
    omega
  | rect32 =>
    change -(256 ^ 4) ≤ 2 * v ∧ 2 * v < 256 ^ 4
    omega

/-- The bytes of a pair, packed. -/
def packedPair (f : Format) (h : Nat) (x : Int × Int) : List Byte :=
  beInt (partBytes f) (packPart f h x.1) ++ beInt (partBytes f) (packPart f h x.2)

theorem packedPair_length (f : Format) (h : Nat) (x : Int × Int) : (packedPair f h x).length = 2 * partBytes f := by
  unfold packedPair beInt
  rw [List.length_append, beBytes_length, beBytes_length]
  omega

/-- The two parts of a pair, read where its bytes stand. -/
theorem signedField_packedPair {bs rest : List Byte} {off : Nat} {f : Format} {h : Nat} {x : Int × Int}
    (hbs : bs.drop off = packedPair f h x ++ rest) (h1 : FitsWord x.1) (h2 : FitsWord x.2) :
    signedField bs off (partBytes f) = packPart f h x.1
      ∧ signedField bs (off + partBytes f) (partBytes f) = packPart f h x.2 := by
  obtain ⟨hlo1, hhi1⟩ := packPart_fits f h h1
  obtain ⟨hlo2, hhi2⟩ := packPart_fits f h h2
  unfold packedPair at hbs
  rw [List.append_assoc] at hbs
  have hsecond : bs.drop (off + partBytes f) = beInt (partBytes f) (packPart f h x.2) ++ rest := by
    rw [← List.drop_drop, hbs]
    exact List.drop_left' (beBytes_length _ _)
  exact ⟨signedField_of_drop (partBytes_pos f) hbs hlo1 hhi1, signedField_of_drop (partBytes_pos f) hsecond hlo2 hhi2⟩

/-- The frequency fields of a member, packed without a shift (R81). -/
def freqBytes (p : Profile) (c : Cell) : List Byte := (emittedFreq p c).elim [] (packedPair p.format 0)

theorem emittedFreq_eq_some {p : Profile} {c : Cell} {y : Int × Int} :
    emittedFreq p c = some y ↔ p.inclFreq = true ∧ c.freq = some y := by
  unfold emittedFreq
  cases p.inclFreq <;> simp

theorem emittedFreq_isSome {p : Profile} {c : Cell} :
    (emittedFreq p c).isSome = true ↔ p.inclFreq = true ∧ c.freq.isSome = true := by
  unfold emittedFreq
  cases p.inclFreq <;> simp

theorem freqBytes_length (p : Profile) (c : Cell) :
    (freqBytes p c).length = if p.inclFreq = true ∧ c.freq.isSome = true then 2 * partBytes p.format else 0 := by
  rw [← if_congr emittedFreq_isSome rfl rfl]
  unfold freqBytes
  cases emittedFreq p c with
  | none => rfl
  | some y => exact packedPair_length _ _ y

/-- A packed pair as a part. -/
def pairPart (p : Profile) (x : Int × Int) : Part := (2 * partBytes p.format, packedPair p.format p.shift x)

theorem packedBytes_headed (p : Profile) (c : Cell) :
    Headed (packedBytes p c) (c.pairs.map (pairPart p)) (freqBytes p c) := by
  refine ⟨?_, sized_map (packedPair_length _ _) _⟩
  unfold packedBytes layout freqBytes
  rw [List.flatMap_map]
  cases emittedFreq p c <;> rfl

/-- When a member's SATURATED flag is set (R82). -/
theorem memberSaturated_iff (p : Profile) (c : Cell) : memberSaturated p c = true ↔ c.saturated = true
    ∨ (∃ x ∈ c.pairs, packSaturates p.format p.shift x.1 = true ∨ packSaturates p.format p.shift x.2 = true)
    ∨ ∃ y, p.inclFreq = true ∧ c.freq = some y
      ∧ (packSaturates p.format 0 y.1 = true ∨ packSaturates p.format 0 y.2 = true) := by
  simp only [← and_assoc, ← emittedFreq_eq_some]
  unfold memberSaturated
  rw [Bool.or_eq_true, Bool.or_eq_true, List.any_eq_true, or_assoc]
  simp only [Bool.or_eq_true]
  cases emittedFreq p c <;> simp

/-! ### Member records (11.3) -/

/-- The member flags of a PRESENT member. -/
def memberFlags (p : Profile) (c : Cell) : Nat := c.quality + 256 * bit c.offGrid + 512 * bit (memberSaturated p c)

/-- The parts of a PRESENT member's record before its packed values. -/
def memberHead (p : Profile) (sid : Half) (c : Cell) : List Part :=
  [num 2 sid.toNat, num 1 (bit (emittedFreq p c).isSome), num 1 c.pairs.length, num 2 c.flags.toNat,
    num 2 (memberFlags p c), num 4 (c.residual % 256 ^ 4).toNat]

section
variable (p : Profile) (sid : Half) (c : Cell)

theorem member_headed : Headed (memberRecord p sid (.present c)) (memberHead p sid c) (packedBytes p c) := by
  refine ⟨?_, by simp [memberHead, sized_cons, sized_nil, num_length]⟩
  simp only [memberRecord, memberHead, memberFlags, beInt, layout, num, beBytes_one, List.flatMap_cons, List.flatMap_nil,
    List.cons_append, List.nil_append, List.append_nil, List.append_assoc]

theorem member_length : (memberRecord p sid (.present c)).length = 12 + c.pairs.length * (2 * partBytes p.format)
    + (if p.inclFreq = true ∧ c.freq.isSome = true then 2 * partBytes p.format else 0) := by
  rw [(member_headed p sid c).length, (packedBytes_headed p c).length,
    sum_fst_map (n := 2 * partBytes p.format) fun _ => rfl, freqBytes_length, ← Nat.add_assoc]
  rfl

theorem member_presence : byteAt (memberRecord p sid (.present c)) 2 =
    if p.inclFreq = true ∧ c.freq.isSome = true then 1 else 0 := by
  rw [(member_headed p sid c).byte (v := bit (emittedFreq p c).isSome) rfl, ← if_congr emittedFreq_isSome rfl rfl]
  cases (emittedFreq p c).isSome <;> rfl

/-- The station's quality code, OFF_GRID and SATURATED. -/
theorem member_flags (hq : c.quality ≤ 15) :
    (byteAt (memberRecord p sid (.present c)) 7).toNat = c.quality
      ∧ (byteAt (memberRecord p sid (.present c)) 6).getLsbD 0 = c.offGrid
      ∧ (byteAt (memberRecord p sid (.present c)) 6).getLsbD 1 = memberSaturated p c := by
  have hpart : partAt (memberHead p sid c) 6 = some (num 2 (memberFlags p c)) := rfl
  have hhigh : memberFlags p c / 256 ^ 1 = bit c.offGrid + 2 * bit (memberSaturated p c) := by
    unfold memberFlags
    omega
  have hlow : memberFlags p c / 256 ^ 0 % 2 ^ 8 = c.quality := by
    unfold memberFlags
    omega
  have hbyte6 : byteAt (memberRecord p sid (.present c)) 6 = BitVec.ofNat 8 (memberFlags p c / 256 ^ 1) :=
    (member_headed p sid c).record.byte (i := 0) (partAt_append hpart) Nat.two_pos
  have hbyte7 : byteAt (memberRecord p sid (.present c)) 7 = BitVec.ofNat 8 (memberFlags p c / 256 ^ 0) :=
    (member_headed p sid c).record.byte (i := 1) (partAt_append hpart) Nat.one_lt_two
  obtain ⟨hoff, hsat⟩ := twoFlags c.offGrid (memberSaturated p c)
  rw [hbyte6, hbyte7, BitVec.toNat_ofNat, hhigh]
  exact ⟨hlow, hoff, hsat⟩

theorem member_residual (h : FitsWord c.residual) :
    signedField (memberRecord p sid (.present c)) 8 4 = c.residual :=
  signedField_of_mod (by decide) ((member_headed p sid c).field rfl) (by omega) (by omega)

/-- From an offset past the head on a record holds its packed values from there on. -/
theorem member_drop (off : Nat) :
    (memberRecord p sid (.present c)).drop (12 + off) = (packedBytes p c).drop off := by
  rw [← List.drop_drop, (member_headed p sid c).drop (off := 12) rfl]

theorem member_pair {i : Nat} {x : Int × Int} (hx : c.pairs[i]? = some x) (h1 : FitsWord x.1)
    (h2 : FitsWord x.2) :
    let off := 12 + i * (2 * partBytes p.format)
    signedField (memberRecord p sid (.present c)) off (partBytes p.format) = packPart p.format p.shift x.1
      ∧ signedField (memberRecord p sid (.present c)) (off + partBytes p.format) (partBytes p.format) =
        packPart p.format p.shift x.2 := by
  have hpos : 0 < 2 * partBytes p.format := Nat.mul_pos Nat.two_pos (partBytes_pos _)
  obtain ⟨rest, hrest⟩ := (packedBytes_headed p c).dropAt (partAt_map hpos (fun _ => rfl) hx)
  exact signedField_packedPair ((member_drop p sid c _).trans hrest) h1 h2

theorem member_freq {y : Int × Int} (hincl : p.inclFreq = true) (hy : c.freq = some y)
    (h1 : FitsWord y.1) (h2 : FitsWord y.2) :
    let off := 12 + c.pairs.length * (2 * partBytes p.format)
    signedField (memberRecord p sid (.present c)) off (partBytes p.format) = packPart p.format 0 y.1
      ∧ signedField (memberRecord p sid (.present c)) (off + partBytes p.format) (partBytes p.format) =
        packPart p.format 0 y.2 := by
  have hbytes : freqBytes p c = packedPair p.format 0 y ++ [] := by
    rw [List.append_nil, freqBytes, emittedFreq_eq_some.2 ⟨hincl, hy⟩]
    rfl
  have hdrop := (packedBytes_headed p c).drop (sum_fst_map (n := 2 * partBytes p.format) (fun _ => rfl) _)
  exact signedField_packedPair ((member_drop p sid c _).trans (hdrop.trans hbytes)) h1 h2

end

/-! ### What a set says of its PRESENT members (R130) -/

/-- The cells of the PRESENT members, in member order. -/
def presentCells (ms : List (Half × MemberState)) : List Cell :=
  ms.filterMap fun m => match m.2 with
    | .present c => some c
    | _ => none

theorem mem_presentCells {ms : List (Half × MemberState)} {c : Cell} :
    c ∈ presentCells ms ↔ ∃ sid, (sid, MemberState.present c) ∈ ms := by
  unfold presentCells
  rw [List.mem_filterMap]
  constructor
  · rintro ⟨⟨sid, st⟩, hmem, hst⟩
    cases st with
    | present d => exact ⟨sid, Option.some.inj hst ▸ hmem⟩
    | _ => cases hst
  · rintro ⟨sid, hmem⟩
    exact ⟨_, hmem, rfl⟩

theorem setQuality_eq (ms : List (Half × MemberState)) (a : Nat) :
    setQuality a ms = (presentCells ms).foldl (fun a c => max a c.quality) a := by
  unfold setQuality presentCells
  rw [List.foldl_filterMap]
  congr 1
  funext a m
  cases m.2 <;> rfl

theorem stationFlagsOr_eq (ms : List (Half × MemberState)) :
    stationFlagsOr ms = (presentCells ms).foldl (fun a c => a ||| c.flags) 0 := by
  unfold stationFlagsOr presentCells
  rw [List.foldl_filterMap]
  congr 1
  funext a m
  cases m.2 <;> rfl

/-- A running maximum is at least its start and every value, and is one of them. -/
theorem foldl_max_quality (cs : List Cell) (a : Nat) :
    let q := cs.foldl (fun a c => max a c.quality) a
    a ≤ q ∧ (∀ c ∈ cs, c.quality ≤ q) ∧ (q = a ∨ ∃ c ∈ cs, q = c.quality) := by
  induction cs generalizing a with
  | nil => exact ⟨le_rfl, nofun, .inl rfl⟩
  | cons d cs ih =>
    obtain ⟨hstart, hall, hone⟩ := ih (max a d.quality)
    refine ⟨(le_max_left _ _).trans hstart, List.forall_mem_cons.2 ⟨(le_max_right _ _).trans hstart, hall⟩, ?_⟩
    rcases hone with hq | ⟨c, hc, hq⟩
    · rcases max_choice a d.quality with hmax | hmax
      · exact .inl (hq.trans hmax)
      · exact .inr ⟨d, List.mem_cons_self, hq.trans hmax⟩
    · exact .inr ⟨c, List.mem_cons_of_mem _ hc, hq⟩

/-- The set time quality is the greatest of the sampled code and the PRESENT members' qualities. -/
theorem setQuality_greatest (a : Nat) (ms : List (Half × MemberState)) :
    a ≤ setQuality a ms ∧ (∀ c sid, (sid, MemberState.present c) ∈ ms → c.quality ≤ setQuality a ms)
      ∧ (setQuality a ms = a ∨ ∃ c sid, (sid, MemberState.present c) ∈ ms ∧ setQuality a ms = c.quality) := by
  rw [setQuality_eq]
  obtain ⟨hstart, hall, hone⟩ := foldl_max_quality (presentCells ms) a
  refine ⟨hstart, fun c sid hmem => hall c (mem_presentCells.2 ⟨sid, hmem⟩), hone.imp_right ?_⟩
  rintro ⟨c, hc, hq⟩
  obtain ⟨sid, hmem⟩ := mem_presentCells.1 hc
  exact ⟨c, sid, hmem, hq⟩

theorem foldl_or_flags (cs : List Cell) (a : Half) (j : Nat) :
    (cs.foldl (fun a c => a ||| c.flags) a).getLsbD j = true ↔
      a.getLsbD j = true ∨ ∃ c ∈ cs, c.flags.getLsbD j = true := by
  induction cs generalizing a with
  | nil => simp
  | cons d cs ih => rw [List.foldl_cons, ih, BitVec.getLsbD_or, Bool.or_eq_true, or_assoc, List.exists_mem_cons_iff]

theorem stationFlagsOr_getLsbD (ms : List (Half × MemberState)) (j : Nat) :
    (stationFlagsOr ms).getLsbD j = true ↔ ∃ c sid, (sid, MemberState.present c) ∈ ms ∧ c.flags.getLsbD j = true := by
  rw [stationFlagsOr_eq, foldl_or_flags]
  simp [mem_presentCells]

theorem anyMissing_iff (ms : List (Half × MemberState)) : anyMissing ms = true ↔ ∃ sid, (sid, MemberState.missing) ∈ ms := by
  simp [anyMissing]

theorem anySaturated_iff (p : Profile) (ms : List (Half × MemberState)) : anySaturated p ms = true ↔
    ∃ c sid, (sid, MemberState.present c) ∈ ms ∧ memberSaturated p c = true := by
  unfold anySaturated
  rw [List.any_eq_true]
  constructor
  · rintro ⟨⟨sid, st⟩, hmem, hst⟩
    cases st with
    | present c => exact ⟨c, sid, hmem, hst⟩
    | _ => cases hst
  · rintro ⟨c, sid, hmem, hsat⟩
    exact ⟨_, hmem, hsat⟩

/-! ### Flags as the bits of a number -/

/-- The number whose bits are the flags, the first flag bit 0. -/
def flagsNumber : List Bool → Nat
  | [] => 0
  | b :: bs => bit b + 2 * flagsNumber bs

theorem testBit_zero_bit_add (b : Bool) (n : Nat) : (bit b + 2 * n).testBit 0 = b := by
  rw [Nat.testBit_zero, Nat.add_mul_mod_self_left]
  cases b <;> rfl

theorem testBit_succ_bit_add (b : Bool) (n i : Nat) : (bit b + 2 * n).testBit (i + 1) = n.testBit i := by
  have hb := bit_le_one b
  rw [Nat.testBit_succ, show (bit b + 2 * n) / 2 = n by omega]

theorem flagsNumber_testBit (bs : List Bool) (i : Nat) : (flagsNumber bs).testBit i = bs.getD i false := by
  induction bs generalizing i with
  | nil => exact Nat.zero_testBit i
  | cons b bs ih =>
    cases i with
    | zero => exact testBit_zero_bit_add b _
    | succ i => exact (testBit_succ_bit_add b _ i).trans (ih i)

theorem flagsNumber_lt (bs : List Bool) : flagsNumber bs < 2 ^ bs.length := by
  induction bs with
  | nil => decide
  | cons b bs ih =>
    have hb := bit_le_one b
    unfold flagsNumber
    rw [List.length_cons, Nat.pow_succ]
    omega

/-- The state of the Time Reference Unit that a slot sampled. -/
theorem sampled_any (o : Option (TruState × Nat)) (t : TruState) :
    (o.any fun y => y.1 == t) = decide (o.map Prod.fst = some t) := by
  cases o with
  | none => rfl
  | some y => simp [beq_eq_decide]

/-- The set flags, bit 0 first (11.3). -/
def setFlagList (p : Profile) (x : Slot) (ms : List (Half × MemberState)) : List Bool :=
  [decide (x.cause = some .forcedPool), decide (x.cause = some .forcedRing), decide (x.cause = some .forcedDrain),
    decide (x.cause = some .timeStep), decide (x.sampled.map Prod.fst = some .holdover),
    decide (x.sampled.map Prod.fst = some .freerun), anyMissing ms, anySaturated p ms]

theorem setFlags_eq (p : Profile) (x : Slot) (ms : List (Half × MemberState)) :
    setFlags p x ms = flagsNumber (setFlagList p x ms) := by
  unfold setFlags setFlagList
  rw [sampled_any, sampled_any]
  simp only [flagsNumber, beq_eq_decide]
  ring

/-! ### The set frame (11.3) -/

/-- Byte 20 as a number: the format, the frequency and the shift. -/
def formatNumber (p : Profile) : Nat :=
  bit (decide (p.format = .rect32)) + 2 * (bit p.inclFreq + 2 * (4 * (if p.format = .rect32 then 0 else p.shift)))

theorem formatByte_eq (p : Profile) : formatByte p = BitVec.ofNat 8 (formatNumber p) := by
  unfold formatByte formatNumber
  congr 1
  cases p.format
  · change 0 + 2 * bit p.inclFreq + 16 * p.shift = 0 + 2 * (bit p.inclFreq + 2 * (4 * p.shift))
    omega
  · change 1 + 2 * bit p.inclFreq + 16 * 0 = 1 + 2 * (bit p.inclFreq + 2 * (4 * 0))
    omega

theorem formatNumber_bits (p : Profile) :
    (BitVec.ofNat 8 (formatNumber p)).getLsbD 0 = decide (p.format = .rect32)
      ∧ (BitVec.ofNat 8 (formatNumber p)).getLsbD 1 = p.inclFreq
      ∧ (BitVec.ofNat 8 (formatNumber p)).toNat / 16 = (if p.format = .rect32 then 0 else p.shift % 16) := by
  rw [BitVec.getLsbD_ofNat, BitVec.getLsbD_ofNat, BitVec.toNat_ofNat]
  refine ⟨testBit_zero_bit_add _ _, (testBit_succ_bit_add _ _ 0).trans (testBit_zero_bit_add _ _), ?_⟩
  have hformat := bit_le_one (decide (p.format = .rect32))
  have hfreq := bit_le_one p.inclFreq
  unfold formatNumber
  split <;> omega

/-- The bytes of a set after its header of 22 bytes. -/
def memberBytes (p : Profile) (ms : List (Half × MemberState)) : List Byte :=
  ms.flatMap fun m => memberRecord p m.1 m.2

/-- The length of a set frame. -/
def setLength (p : Profile) (ms : List (Half × MemberState)) : Nat :=
  22 + (ms.map fun m => (memberRecord p m.1 m.2).length).sum

/-- The parts of a set's own header, after the common one. -/
def setParts (r : Nat) (p : Profile) (x : Slot) (ms : List (Half × MemberState)) : List Part :=
  [num 4 (x.g / r % 2 ^ 32), num 2 (x.g % r), num 1 r, num 1 (setQuality ((x.sampled.map Prod.snd).getD 0) ms),
    num 2 (setFlags p x ms), num 2 (stationFlagsOr ms).toNat, num 1 (formatNumber p), num 1 0]

theorem sized_setParts (r : Nat) (p : Profile) (x : Slot) (ms : List (Half × MemberState)) : Sized (setParts r p x ms) := by
  simp [setParts, sized_cons, sized_nil, num_length]

theorem setFrame_eq (r n : Nat) (p : Profile) (x : Slot) (ms : List (Half × MemberState)) :
    let body := layout (setParts r p x ms) ++ memberBytes p ms
    setFrame r n p x ms = header 0x21 (8 + body.length) n p.count ++ body := by
  unfold setFrame
  simp only [setParts, memberBytes, formatByte_eq, layout, num, beBytes_one, List.flatMap_cons, List.flatMap_nil,
    List.cons_append, List.nil_append, List.append_nil, List.append_assoc, BitVec.ofNat_eq_ofNat]

theorem setFrame_headed (r n : Nat) (p : Profile) (x : Slot) (ms : List (Half × MemberState)) :
    Headed (setFrame r n p x ms) (headerParts 0x21 (setLength p ms) n p.count ++ setParts r p x ms) (memberBytes p ms) := by
  refine ⟨?_, sized_append.2 ⟨sized_headerParts _ _ _ _, sized_setParts r p x ms⟩⟩
  have hlen : 8 + (layout (setParts r p x ms) ++ memberBytes p ms).length = setLength p ms := by
    rw [List.length_append, layout_length (sized_setParts r p x ms), memberBytes, List.length_flatMap, setLength,
      ← Nat.add_assoc]
    rfl
  rw [setFrame_eq, hlen, layout_append, List.append_assoc]
  exact congrArg (· ++ _) (header_eq 0x21 _ _ _)

section
variable (r n : Nat) (p : Profile) (x : Slot) (ms : List (Half × MemberState))

theorem setFrame_length : (setFrame r n p x ms).length = setLength p ms := by
  rw [(setFrame_headed r n p x ms).length, memberBytes, List.length_flatMap]
  rfl

/-- The set flags field holds the eight flags. -/
theorem setFrame_flag (i : Nat) :
    (field (setFrame r n p x ms) 16 2).testBit i = (setFlagList p x ms).getD i false := by
  have hlt : setFlags p x ms < 2 ^ 8 := setFlags_eq p x ms ▸ flagsNumber_lt (setFlagList p x ms)
  rw [(setFrame_headed r n p x ms).field (k := 2) (v := setFlags p x ms) rfl, Nat.mod_eq_of_lt (by omega), setFlags_eq,
    flagsNumber_testBit]

theorem setFrame_stationFlags (j : Nat) : (field (setFrame r n p x ms) 18 2).testBit j = true ↔
    ∃ c sid, (sid, MemberState.present c) ∈ ms ∧ c.flags.getLsbD j = true := by
  rw [(setFrame_headed r n p x ms).field (k := 2) (v := (stationFlagsOr ms).toNat) rfl,
    Nat.mod_eq_of_lt (b := 256 ^ 2) (stationFlagsOr ms).isLt]
  exact stationFlagsOr_getLsbD ms j

end

/-! ### The obligation -/

/-- Settles O30: each record and frame is a head laid out part by part and a tail of bytes, and its fields are the
parts. -/
theorem setFrameFields : Obligations.SetFrameFields := by
  refine ⟨fun s x k => ⟨memberState_present_iff, fun _ => cellOf_some, cellOf_none_iff, memberState_absent_iff⟩,
    fun s n x => ⟨rfl, membersOf_length s _ x, fun i hi => ⟨_, rfl, membersOf_getElem? s _ x hi⟩⟩,
    fun p sid => ⟨rfl, rfl, rfl, fun c => ?member⟩, fun n sets => ?batch, fun r n p x ms => ?set⟩
  case member =>
    have h := member_headed p sid c
    rw [← partBytes_eq]
    exact ⟨member_length p sid c, (h.field rfl).trans (Nat.mod_eq_of_lt sid.isLt), member_presence p sid c,
      h.byte_toNat rfl, (h.field rfl).trans (Nat.mod_eq_of_lt c.flags.isLt), member_flags p sid c, member_residual p sid c,
      fun _ _ => member_pair p sid c, fun _ => member_freq p sid c, memberSaturated_iff p c⟩
  case batch =>
    have h := batchFrame_headed n sets
    have hlen := batchFrame_length n sets
    exact ⟨hlen, h.drop rfl, h.byte rfl, h.byte rfl, (h.field rfl).trans (congrArg (· % 65536) hlen.symm), h.field rfl,
      h.field rfl, headerOk_of_headed (rest := []) h hlen⟩
  case set =>
    have h := setFrame_headed r n p x ms
    have hlen := setFrame_length r n p x ms
    have hflag := setFrame_flag r n p x ms
    obtain ⟨hsampled, hmember, hone⟩ := setQuality_greatest ((x.sampled.map Prod.snd).getD 0) ms
    have hbyte20 := h.byte (off := 20) (v := formatNumber p) rfl
    obtain ⟨hformat, hfreq, hshift⟩ := formatNumber_bits p
    dsimp only
    rw [hbyte20]
    exact ⟨hlen, h.drop rfl, headerOk_of_headed h hlen, h.byte rfl, h.field rfl, h.field rfl,
      (h.field rfl).trans (Nat.mod_mod _ _), h.field rfl, h.byte_toNat rfl, h.byte_toNat rfl, hsampled, hmember, hone,
      hflag 0, hflag 1, hflag 2, hflag 3, hflag 4, hflag 5, (Bool.eq_iff_iff.1 (hflag 6)).trans (anyMissing_iff ms),
      (Bool.eq_iff_iff.1 (hflag 7)).trans (anySaturated_iff p ms), fun j _ => setFrame_stationFlags r n p x ms j,
      hformat, hfreq, hshift, h.byte rfl⟩

end Sys2Proof.Proofs.SetFrames
end

/-! ## What every operation on the Slot Ring keeps (O56, O57) -/

section
namespace Sys2Proof.Proofs.RingKept
open Sys2Proof Sys2Proof.Machine Sys2Proof.Laws Sys2Proof.Proofs.StreamsKept Sys2Proof.Proofs.Opening

/-! ### The cells that a ring lists (R86) -/

/-- The cells listed by the records of a ring. -/
def listedCells (t : Tbl Slot) : List Nat := t.flatMap fun e => e.2.cells

theorem listedCells_cons (i : Nat) (x : Slot) (t : Tbl Slot) : listedCells ((i, x) :: t) = x.cells ++ listedCells t := rfl

/-- A written ring lists the cells of the record written in place of those of the record it replaces. -/
theorem listedCells_set {t : Tbl Slot} (h : Tbl.wf Slot.empty t = true) (i : Nat) (x : Slot) :
    (listedCells (Tbl.set Slot.empty t i x) ++ (Tbl.get Slot.empty t i).cells).Perm (listedCells t ++ x.cells) := by
  have hnone : ∀ {u : Tbl Slot} {v : Slot}, v = Slot.empty → (listedCells u).Perm (listedCells u ++ v.cells) :=
    fun hv => by rw [hv]; exact (List.append_nil _).symm ▸ .refl _
  induction t with
  | nil =>
    simp only [Tbl.set, Tbl.get]
    split
    · next hx => rw [hx]
    · rw [listedCells_cons]
      exact (List.append_nil _).symm ▸ List.perm_append_comm
  | cons e t ih =>
    obtain ⟨j, w⟩ := e
    simp only [Tbl.set]
    split
    · next hij =>
      have hget : Tbl.get Slot.empty ((j, w) :: t) i = Slot.empty :=
        get_above _ fun e he => (List.mem_cons.1 he).elim (fun h => h ▸ hij) fun he => hij.trans (wf_above h e he)
      rw [hget, show Slot.empty.cells = [] from rfl, List.append_nil]
      split
      · next hx => exact hnone hx
      · rw [listedCells_cons i x]
        exact List.perm_append_comm
    split
    · next hij =>
      rw [get_cons, if_pos hij.symm, listedCells_cons]
      split
      · next hx => rw [hx]; exact List.perm_append_comm.trans ((List.append_nil _).symm ▸ .refl _)
      · rw [listedCells_cons]
        exact List.perm_append_comm.trans ((List.perm_append_comm.append_left _).trans (by rw [List.append_assoc]))
    · next hij =>
      rw [get_cons, if_neg (Ne.symm hij), listedCells_cons, listedCells_cons, List.append_assoc, List.append_assoc]
      exact (ih (wf_tail h)).append_left _

/-- A ring whose records change in other fields than their cells lists the same cells. -/
theorem listedCells_update {f : Nat → Slot → Slot} (hf : ∀ i x, (f i x).cells = x.cells) (t : Tbl Slot) :
    listedCells (Tbl.update Slot.empty f t) = listedCells t := by
  induction t with
  | nil => rfl
  | cons e t ih =>
    obtain ⟨j, w⟩ := e
    simp only [Tbl.update]
    split
    · next hd =>
      have hw : w.cells = [] := by rw [← hf j w, hd]; rfl
      rw [listedCells_cons, hw, ih, List.nil_append]
    · rw [listedCells_cons, listedCells_cons, hf, ih]

/-- Cells that move between the free list and one record stay conserved. -/
theorem conserved_of_moved {free free' ring ring' old new all : List Nat} (h : (free ++ ring).Perm all)
    (hring : (ring' ++ old).Perm (ring ++ new)) (hmoved : (free' ++ new).Perm (free ++ old)) :
    (free' ++ ring').Perm all := by
  refine List.perm_iff_count.2 fun c => ?_
  have h1 := h.count_eq c
  have h2 := hring.count_eq c
  have h3 := hmoved.count_eq c
  rw [List.count_append] at h1 h2 h3 ⊢
  rw [List.count_append] at h2 h3
  omega

/-! ### Contexts that stay enabled -/

/-- A canonical context table stays canonical, and no enabled context is disabled. -/
def EnabledKept (a b : Tbl Ctx) : Prop :=
  Tbl.wf Ctx.zero a = true → Tbl.wf Ctx.zero b = true
    ∧ ∀ k, (Tbl.get Ctx.zero a k).enabled = true → (Tbl.get Ctx.zero b k).enabled = true

theorem EnabledKept.refl (a : Tbl Ctx) : EnabledKept a a := fun h => ⟨h, fun _ => id⟩

theorem EnabledKept.trans {a b c : Tbl Ctx} (h : EnabledKept a b) (k : EnabledKept b c) : EnabledKept a c := fun ha =>
  ⟨(k (h ha).1).1, fun i hi => (k (h ha).1).2 i ((h ha).2 i hi)⟩

theorem enabledKept_of_setup {a b : Tbl Ctx} (h : SetupKept a b) : EnabledKept a b := fun ha =>
  ⟨(h ha).1, fun k hk => ((h ha).2 k).enabled.trans hk⟩

theorem enabledKept_set {a : Tbl Ctx} {k : Nat} {c : Ctx}
    (h : (Tbl.get Ctx.zero a k).enabled = true → c.enabled = true) : EnabledKept a (Tbl.set Ctx.zero a k c) := fun ha => by
  refine ⟨wf_set ha k c, fun i hi => ?_⟩
  rw [get_set ha]
  split
  · next hk => exact h (hk ▸ hi)
  · exact hi

/-! ### The laws, record by record -/

/-- What the laws of the ring ask of the record x at position i; A is whether the contexts awaited are known enabled. -/
structure RecordOk (A : Prop) (s : State) (i : Nat) (x : Slot) : Prop where
  placed : x.state ≠ .free → x.g % 64 = i ∧ s.store.hLow ≤ x.g ∧ x.g ≤ s.store.hLow + 63
  empty : x.state = .free → x = Slot.empty
  live : x.state ≠ .free → s.mgmt.engine = .running ∨ s.mgmt.engine = .draining
  emitting : x.state = .emitting → x.g = s.store.hLow ∧ s.composer.working.isSome = true
  awaited : A → ∀ k, CtxSet.has x.awaited k = true → (s.ctx k).enabled = true

/-- Slot H_low, by the record at its position, is neither COMPLETE nor CLOSED (R101). -/
def Offered (s : State) : Prop :=
  (Tbl.get Slot.empty s.store.ring (s.store.hLow % 64)).state ≠ .complete
    ∧ (Tbl.get Slot.empty s.store.ring (s.store.hLow % 64)).state ≠ .closed

/-- The laws of the ring, canonical tables with them. The parameters say what else is known and kept: O that H_low is offered, C
that the cells are conserved, A that the contexts awaited are enabled. -/
structure Lawful (O C A : Prop) (s : State) : Prop where
  wfRing : Tbl.wf Slot.empty s.store.ring = true
  wfCtxs : Tbl.wf Ctx.zero s.ctxs = true
  records : ∀ i, RecordOk A s i (Tbl.get Slot.empty s.store.ring i)
  working : ∀ w, s.composer.working = some w → w.g = s.store.hLow ∧ w.next ≤ 8
    ∧ (Tbl.get Slot.empty s.store.ring (s.store.hLow % 64)).state = .emitting
  scrub : s.store.scrubbing = true → s.mgmt.engine = .resetting
  cells : C → (s.store.freeList ++ listedCells s.store.ring).Perm (List.range 4096)
  offered : O → Offered s

variable {O P C A : Prop} {s t : State} {g j : Nat} {x : Slot}

theorem Lawful.imp (h : Lawful O C A s) (hp : P → O) : Lawful P C A s := { h with offered := h.offered ∘ hp }

/-- What is kept of a record where the state about it changes. -/
theorem RecordOk.mono {i : Nat} (h : RecordOk A s i x) (hlow : t.store.hLow = s.store.hLow)
    (hlive : s.mgmt.engine = .running ∨ s.mgmt.engine = .draining → t.mgmt.engine = .running ∨ t.mgmt.engine = .draining)
    (hbusy : s.composer.working.isSome = true → t.composer.working.isSome = true)
    (hctx : ∀ k, (s.ctx k).enabled = true → (t.ctx k).enabled = true) : RecordOk A t i x :=
  ⟨hlow ▸ h.placed, h.empty, hlive ∘ h.live, fun he => hlow ▸ (h.emitting he).imp_right hbusy,
    fun ha k hk => hctx k (h.awaited ha k hk)⟩

theorem recordOk_empty (A : Prop) (s : State) (i : Nat) : RecordOk A s i Slot.empty :=
  ⟨fun h => absurd rfl h, fun _ => rfl, fun h => absurd rfl h, fun h => (by cases h), fun _ k hk => by
    rw [show Slot.empty.awaited = 0 from rfl, has_zero] at hk; cases hk⟩

/-- A slot within the span reads the record at its position. -/
theorem Lawful.slot_eq (h : Lawful O C A s) (hlow : s.store.hLow ≤ g) (hhigh : g ≤ s.store.hLow + 63) :
    s.slot g = Tbl.get Slot.empty s.store.ring (g % 64) := by
  have hr := h.records (g % 64)
  by_cases hf : (Tbl.get Slot.empty s.store.ring (g % 64)).state = .free
  · rw [hr.empty hf]
    exact if_neg fun hh => hh.1 hf
  · obtain ⟨hg, hl, hh⟩ := hr.placed hf
    exact if_pos ⟨hf, by omega⟩

theorem Lawful.slot_low (h : Lawful O C A s) :
    s.slot s.store.hLow = Tbl.get Slot.empty s.store.ring (s.store.hLow % 64) := h.slot_eq le_rfl (Nat.le_add_right _ _)

/-- A held slot lies in the span, in an engine state that holds slots, and its record is lawful. -/
theorem Lawful.held (h : Lawful O C A s) (hs : (s.slot g).state ≠ .free) :
    s.store.hLow ≤ g ∧ g ≤ s.store.hLow + 63 ∧ RecordOk A s (g % 64) (s.slot g) := by
  have hr := slot_record hs
  have hok := h.records (g % 64)
  rw [hr] at hok
  obtain ⟨-, hl, hh⟩ := hok.placed hs
  rw [slot_g hs] at hl hh
  exact ⟨hl, hh, hok⟩

theorem Lawful.offered_slot (h : Lawful True C A s) :
    (s.slot s.store.hLow).state ≠ .complete ∧ (s.slot s.store.hLow).state ≠ .closed := by
  rw [h.slot_low]
  exact h.offered trivial

/-- The premises of SlotRingStaysLawful and CellsAreConserved, record by record. -/
theorem lawful_of (hcan : s.canonical) (hl : s.ringLawful) (hc : C → s.cellsConserved) (ha : A → s.awaitedEnabled) :
    Lawful True C A s := by
  obtain ⟨hplaced, hempty, hlive, hemit, hwork, hscrub, hcomplete, hclosed⟩ := hl
  obtain ⟨-, hctxs, -, hring, -⟩ := hcan
  have hheld : ∀ {i}, (Tbl.get Slot.empty s.store.ring i).state ≠ .free →
      s.slot (Tbl.get Slot.empty s.store.ring i).g = Tbl.get Slot.empty s.store.ring i := fun {i} hf => by
    have hi := (hplaced i hf).1
    unfold State.slot
    rw [hi]
    exact if_pos ⟨hf, rfl⟩
  refine ⟨hring, hctxs, fun i => ⟨hplaced i, hempty i, fun hf => ?_, fun he => ?_, fun h k => ha h i k⟩, fun w hw => ?_,
    hscrub, hc, fun _ => ?_⟩
  · rcases hlive with h | h | h
    · exact .inl h
    · exact .inr h
    · exact absurd (h i) hf
  · refine hemit _ ?_
    rw [hheld (by rw [he]; decide)]
    exact he
  · obtain ⟨hg, hn, he⟩ := hwork w hw
    rw [hg] at he
    exact ⟨hg, hn, by rw [slot_record (by rw [he]; decide)]; exact he⟩
  · by_cases hf : (Tbl.get Slot.empty s.store.ring (s.store.hLow % 64)).state = .free
    · exact ⟨by rw [hf]; decide, by rw [hf]; decide⟩
    · have hlow := hheld hf
      obtain ⟨hi, hl, hh⟩ := hplaced _ hf
      rw [show (Tbl.get Slot.empty s.store.ring (s.store.hLow % 64)).g = s.store.hLow by omega] at hlow
      exact ⟨hlow ▸ hcomplete, hlow ▸ hclosed⟩

theorem Lawful.ringLawful (h : Lawful True C A s) : s.ringLawful := by
  refine ⟨fun i => (h.records i).placed, fun i => (h.records i).empty, ?_, fun g he => ?_, fun w hw => ?_, h.scrub,
    h.offered_slot⟩
  · by_cases hf : ∀ i, (Tbl.get Slot.empty s.store.ring i).state = .free
    · exact .inr (.inr hf)
    · push Not at hf
      obtain ⟨i, hi⟩ := hf
      exact ((h.records i).live hi).imp_right .inl
  · have hheld : (s.slot g).state ≠ .free := by rw [he]; decide
    have := (h.held hheld).2.2.emitting he
    rwa [slot_g hheld] at this
  · obtain ⟨hg, hn, he⟩ := h.working w hw
    exact ⟨hg, hn, by rw [hg, h.slot_low]; exact he⟩

/-- A state that agrees in all that the laws speak of, the contexts maybe enabled beyond. -/
theorem Lawful.congr (h : Lawful O C A s) (hring : t.store.ring = s.store.ring) (hlow : t.store.hLow = s.store.hLow)
    (hfree : t.store.freeList = s.store.freeList) (hscrub : t.store.scrubbing = s.store.scrubbing)
    (hwork : t.composer.working = s.composer.working) (he : t.mgmt.engine = s.mgmt.engine)
    (hctx : EnabledKept s.ctxs t.ctxs) : Lawful O C A t := by
  obtain ⟨hwf, hon⟩ := hctx h.wfCtxs
  refine ⟨hring ▸ h.wfRing, hwf, fun i => ?_, ?_, ?_, ?_, ?_⟩
  · rw [hring]
    exact (h.records i).mono hlow (by rw [he]; exact id) (by rw [hwork]; exact id) hon
  · rw [hwork, hlow, hring]; exact h.working
  · rw [hscrub, he]; exact h.scrub
  · rw [hfree, hring]; exact h.cells
  · unfold Offered
    rw [hring, hlow]
    exact h.offered

/-! ### Writing a record -/

/-- One record is written, and cells move between it and the free list; the slot the composer works on may change to one that
the laws allow. -/
theorem Lawful.write (h : Lawful O C A s) (hring : t.store.ring = Tbl.set Slot.empty s.store.ring (g % 64) x)
    (hlow : t.store.hLow = s.store.hLow) (hscrub : t.store.scrubbing = s.store.scrubbing)
    (he : t.mgmt.engine = s.mgmt.engine) (hctx : EnabledKept s.ctxs t.ctxs)
    (hbusy : s.composer.working.isSome = true → t.composer.working.isSome = true) (hx : RecordOk A t (g % 64) x)
    (hwork : ∀ w, t.composer.working = some w → w.g = s.store.hLow ∧ w.next ≤ 8
      ∧ (Tbl.get Slot.empty t.store.ring (s.store.hLow % 64)).state = .emitting)
    (hcells : (t.store.freeList ++ x.cells).Perm (s.store.freeList ++ (Tbl.get Slot.empty s.store.ring (g % 64)).cells))
    (hoff : P → Offered t) : Lawful P C A t := by
  obtain ⟨hwf, hon⟩ := hctx h.wfCtxs
  refine ⟨hring ▸ wf_set h.wfRing _ x, hwf, fun i => ?_, ?_, ?_, fun hc => ?_, hoff⟩
  · rw [hring, get_set h.wfRing]
    split
    · next hi => exact hi ▸ hx
    · exact (h.records i).mono hlow (by rw [he]; exact id) hbusy hon
  · rw [hlow]; exact hwork
  · rw [hscrub, he]; exact h.scrub
  · rw [hring]
    exact conserved_of_moved (h.cells hc) (listedCells_set h.wfRing _ x) hcells

/-- A record written by which the slot the composer works on, where there is one, stays EMITTING. -/
theorem Lawful.put (h : Lawful O C A s) (hring : t.store.ring = Tbl.set Slot.empty s.store.ring (g % 64) x)
    (hlow : t.store.hLow = s.store.hLow) (hscrub : t.store.scrubbing = s.store.scrubbing)
    (he : t.mgmt.engine = s.mgmt.engine) (hctx : EnabledKept s.ctxs t.ctxs)
    (hwork : t.composer.working = s.composer.working) (hx : RecordOk A t (g % 64) x)
    (hemit : (Tbl.get Slot.empty s.store.ring (g % 64)).state = .emitting → x.state = .emitting)
    (hcells : (t.store.freeList ++ x.cells).Perm (s.store.freeList ++ (Tbl.get Slot.empty s.store.ring (g % 64)).cells))
    (hoff : P → Offered t) : Lawful P C A t := by
  refine h.write hring hlow hscrub he hctx (by rw [hwork]; exact id) hx (fun w hw => ?_) hcells hoff
  obtain ⟨hg, hn, hs⟩ := h.working w (hwork ▸ hw)
  refine ⟨hg, hn, ?_⟩
  rw [hring, get_set h.wfRing]
  split
  · next hi => exact hemit (hi ▸ hs)
  · exact hs

/-- A write beside slot H_low leaves it as offered as it was. -/
theorem offered_write (hw : Tbl.wf Slot.empty s.store.ring = true)
    (hring : t.store.ring = Tbl.set Slot.empty s.store.ring (g % 64) x) (hlow : t.store.hLow = s.store.hLow)
    (hx : g % 64 = s.store.hLow % 64 → x.state ≠ .complete ∧ x.state ≠ .closed) (h : Offered s) : Offered t := by
  unfold Offered
  rw [hlow, hring, get_set hw]
  split
  · next hi => exact hx hi
  · exact h

/-! ### Leaving OPEN, offering and opening (R87, R97 to R101) -/

theorem Lawful.leaveOpen (h : Lawful O C A s) (hs : (s.slot g).state = .opened) (c : Cause)
    (hg : P → O ∧ g ≠ s.store.hLow) : Lawful P C A (s.leaveOpen g c) := by
  have hheld : (s.slot g).state ≠ .free := by rw [hs]; decide
  obtain ⟨hl, hh, hok⟩ := h.held hheld
  have hrec := slot_record hheld
  have hctx : EnabledKept s.ctxs (s.leaveOpen g c).ctxs := enabledKept_of_setup (keeps_leaveOpen s g c).ctxs
  have hon := (hctx h.wfCtxs).2
  rw [leaveOpen_eq] at hctx hon ⊢
  refine h.put (g := g) (x := (s.slot g).leave c (s.tru.state, s.tru.quality s.params.drift)) rfl rfl rfl rfl hctx rfl
    ⟨fun _ => ?_, fun hf => absurd hf (leave_ne_free _ _ _), fun _ => hok.live hheld, fun he => ?_, fun ha k hk => ?_⟩
    (fun he => ?_) ?_ fun hp => offered_write h.wfRing rfl rfl (fun hi => ?_) (h.offered (hg hp).1)
  · rw [leave_g]; exact hok.placed hheld
  · rw [leave_state] at he; split at he <;> cases he
  · rw [leave_awaited] at hk; exact hon k (hok.awaited ha k hk)
  · rw [hrec, hs] at he; cases he
  · rw [leave_cells, hrec]
  · exact absurd (show g = s.store.hLow by omega) (hg hp).2

theorem Lawful.offer (h : Lawful O C A s) : Lawful P C A s.offer := by
  by_cases hs : (s.slot s.store.hLow).state = .complete ∨ (s.slot s.store.hLow).state = .closed
  · have hheld : (s.slot s.store.hLow).state ≠ .free := by rcases hs with hs | hs <;> rw [hs] <;> decide
    obtain ⟨-, -, hok⟩ := h.held hheld
    rw [offer_some hs]
    refine h.write (g := s.store.hLow) (x := { s.slot s.store.hLow with state := .emitting }) rfl rfl rfl rfl
      (.refl _) (fun _ => rfl) ⟨fun _ => hok.placed hheld, fun hf => (by cases hf), fun _ => hok.live hheld,
        fun _ => ⟨slot_g hheld, rfl⟩, hok.awaited⟩ (fun w hw => ?_) ?_ fun _ => ?_
    · cases hw
      refine ⟨rfl, Nat.zero_le _, ?_⟩
      dsimp only
      rw [get_set h.wfRing, if_pos rfl]
    · rw [slot_record hheld]
    · unfold Offered
      dsimp only
      rw [get_set h.wfRing, if_pos rfl]
      exact ⟨nofun, nofun⟩
  · push Not at hs
    rw [offer_none hs.1 hs.2]
    refine { h with offered := fun _ => ?_ }
    unfold Offered
    rw [← h.slot_low]
    exact hs

/-- A slot leaves OPEN and, where it is slot H_low, is offered. -/
theorem Lawful.leaveAndOffer (h : Lawful O C A s) (hs : (s.slot g).state = .opened) (c : Cause) :
    Lawful O C A ((s.leaveOpen g c).offerIfLow g) := by
  have hlow : (s.leaveOpen g c).store.hLow = s.store.hLow := by rw [leaveOpen_eq]
  unfold State.offerIfLow
  rw [hlow]
  split
  · exact (h.leaveOpen (P := False) hs c False.elim).offer
  · next hg => exact h.leaveOpen hs c fun ho => ⟨ho, hg⟩

theorem Lawful.evaluate (h : Lawful O C A s) (g : Nat) : Lawful O C A (s.evaluate g) := by
  unfold State.evaluate
  dsimp only
  split
  · next hh => exact h.leaveAndOffer hh.1 _
  · exact h

theorem Lawful.expire (h : Lawful O C A s) (g : Nat) : Lawful O C A (s.expire g) := by
  unfold State.expire
  dsimp only
  split
  · next hs => exact (h.evaluate g).leaveAndOffer hs _
  · exact h.evaluate g

theorem Lawful.expireIfDue (h : Lawful O C A s) (g : Nat) : Lawful O C A (s.expireIfDue g) := by
  unfold State.expireIfDue
  split
  · exact h.expire g
  · exact h

/-- Operations that keep the laws, one after the other. -/
theorem Lawful.foldl {α : Type} {f : State → α → State} (hf : ∀ s a, Lawful O C A s → Lawful O C A (f s a)) (l : List α)
    (h : Lawful O C A s) : Lawful O C A (l.foldl f s) := by
  induction l generalizing s with
  | nil => exact h
  | cons a l ih => exact ih (hf s a h)

/-- The record that slot g is opened with (R87). -/
def openedRecord (s : State) (g : Nat) : Slot :=
  { g := g, state := .opened
    deadline := s.instant g + (Window.opening s.params (decide (s.freeCells < s.params.wm2)) s.window).1 * 100000
    awaited := s.awaitedFor g }

/-- What is written at the opening of slot g, before its completion is evaluated (R87). -/
def opening (s : State) (g : Nat) : State :=
  { s with window := (Window.opening s.params (decide (s.freeCells < s.params.wm2)) s.window).2 }.setSlot g
    (openedRecord s g)

theorem openSlot_eq (s : State) (g : Nat) : s.openSlot g = (opening s g).evaluate g := rfl

theorem Lawful.opening (h : Lawful O C A s) (hl : s.store.hLow ≤ g) (hh : g ≤ s.store.hLow + 63)
    (hs : (s.slot g).state = .free) (he : s.mgmt.engine = .running) : Lawful O C A (opening s g) := by
  rw [h.slot_eq hl hh] at hs
  refine h.put (g := g) rfl rfl rfl rfl (.refl _) rfl
    ⟨fun _ => ⟨rfl, hl, hh⟩, fun hf => (by cases hf), fun _ => .inl he, fun hf => (by cases hf), fun _ k hk =>
      ((awaitedFor_iff s g k).1 hk).2.1⟩ (fun hf => ?_) ?_
    fun ho => offered_write h.wfRing rfl rfl (fun _ => ⟨nofun, nofun⟩) (h.offered ho)
  · rw [hs] at hf; cases hf
  · rw [(h.records (g % 64)).empty hs]
    exact .refl _

theorem Lawful.openSlot (h : Lawful O C A s) (hl : s.store.hLow ≤ g) (hh : g ≤ s.store.hLow + 63)
    (hs : (s.slot g).state = .free) (he : s.mgmt.engine = .running) : Lawful O C A (s.openSlot g) :=
  (h.opening hl hh hs he).evaluate g

theorem Lawful.openSlotNow (h : Lawful O C A s) (hl : s.store.hLow ≤ g) (hh : g ≤ s.store.hLow + 63)
    (hs : (s.slot g).state = .free) (he : s.mgmt.engine = .running) : Lawful O C A (s.openSlotNow g) :=
  (h.openSlot hl hh hs he).expireIfDue g

end Sys2Proof.Proofs.RingKept
end

/-! ## The store's larger operations on a lawful ring (O56, O57) -/

section
namespace Sys2Proof.Proofs.RingKept
open Sys2Proof Sys2Proof.Machine Sys2Proof.Laws Sys2Proof.Proofs.StreamsKept
open Sys2Proof.Proofs.TimeStep (nextLow_le_held nextLow_le_bare offer_low)
open Sys2Proof.Proofs.Accepting (RingOnly ringOnly_leaveOpen ringOnly_offerIfLow ringOnly_evaluate ringOnly_openSlot)
open Sys2Proof.Proofs.StreamState (bare unawait clearAwaited_eq)

/-! ### What the operations on slots leave of the store -/

theorem ringOnly_refl (s : State) : RingOnly s s := rfl

theorem low_of_ringOnly {s t : State} (h : RingOnly s t) : t.store.hLow = s.store.hLow := by rw [h]

theorem ringOnly_offer (s : State) : RingOnly s s.offer := by
  unfold State.offer
  dsimp only
  split <;> rfl

theorem ringOnly_expire (s : State) (g : Nat) : RingOnly s (s.expire g) := by
  unfold State.expire
  dsimp only
  split
  · exact ((ringOnly_evaluate s g).trans (ringOnly_leaveOpen _ g _)).trans (ringOnly_offerIfLow _ g)
  · exact ringOnly_evaluate s g

theorem ringOnly_expireIfDue (s : State) (g : Nat) : RingOnly s (s.expireIfDue g) := by
  unfold State.expireIfDue
  split
  · exact ringOnly_expire s g
  · exact ringOnly_refl s

theorem ringOnly_openSlotNow (s : State) (g : Nat) : RingOnly s (s.openSlotNow g) :=
  (ringOnly_openSlot s g).trans (ringOnly_expireIfDue _ g)

/-! ### Catch-up (R89) -/

variable {O P C A : Prop} {s t : State} {g : Nat}

/-- One slot of a catch-up (R89). -/
def catchOne (t : State) (g : Nat) : State := if t.catchesUp g then t.openSlotNow g else t

theorem catchUp_running (he : s.mgmt.engine = .running) : s.catchUp = (s.span.foldl catchOne s).offer := if_pos he

theorem catchUp_idle (he : s.mgmt.engine ≠ .running) : s.catchUp = s := if_neg he

theorem catchOne_only (t : State) (g : Nat) : StoreOnly t (catchOne t g) := by
  unfold catchOne
  split
  · exact openSlotNow_only t g
  · exact .refl t

theorem ringOnly_catchOne (t : State) (g : Nat) : RingOnly t (catchOne t g) := by
  unfold catchOne
  split
  · exact ringOnly_openSlotNow t g
  · exact ringOnly_refl t

theorem catchesUp_iff (s : State) (g : Nat) :
    s.catchesUp g = true ↔ s.store.floor ≤ g ∧ g ≤ s.gnow ∧ (s.slot g).state = .free := by
  unfold State.catchesUp
  simp only [Bool.and_eq_true, decide_eq_true_eq, and_assoc]

theorem Lawful.catchOne (h : Lawful O C A s) (hl : s.store.hLow ≤ g) (hh : g ≤ s.store.hLow + 63)
    (he : s.mgmt.engine = .running) : Lawful O C A (catchOne s g) := by
  unfold RingKept.catchOne
  split
  · next hg => exact h.openSlotNow hl hh ((catchesUp_iff s g).1 hg).2.2 he
  · exact h

theorem mem_span_iff (s : State) (g : Nat) : g ∈ s.span ↔ s.store.hLow ≤ g ∧ g ≤ s.store.hLow + 63 := by
  unfold State.span
  rw [List.mem_map]
  constructor
  · rintro ⟨i, hi, rfl⟩
    have := List.mem_range.1 hi
    omega
  · rintro ⟨hl, hh⟩
    exact ⟨g - s.store.hLow, List.mem_range.2 (by omega), by omega⟩

theorem Lawful.catchAll {l : List Nat} (h : Lawful O C A s) (hl : ∀ g ∈ l, s.store.hLow ≤ g ∧ g ≤ s.store.hLow + 63)
    (he : s.mgmt.engine = .running) : Lawful O C A (l.foldl RingKept.catchOne s) := by
  induction l generalizing s with
  | nil => exact h
  | cons g l ih =>
    obtain ⟨hlow, hhigh⟩ := hl g (List.mem_cons_self ..)
    refine ih (h.catchOne hlow hhigh he) ?_ (by rw [(catchOne_only s g).mgmt]; exact he)
    rw [low_of_ringOnly (ringOnly_catchOne s g)]
    exact fun g hg => hl g (List.mem_cons_of_mem _ hg)

theorem Lawful.catchUp (h : Lawful O C A s) : Lawful O C A s.catchUp := by
  by_cases he : s.mgmt.engine = .running
  · rw [catchUp_running he]
    exact (h.catchAll (fun g => (mem_span_iff s g).1) he).offer
  · rw [catchUp_idle he]
    exact h

/-! ### Forced closes and instants (R88, R90, R104) -/

theorem Lawful.closeFor (h : Lawful O C A s) (c : Cause) (g : Nat) : Lawful False C A (s.closeFor c g) := by
  unfold State.closeFor
  dsimp only
  split
  · next hs => exact h.leaveOpen hs c False.elim
  · next hs =>
    have hheld : (s.slot g).state ≠ .free := by rw [hs]; decide
    obtain ⟨-, -, hok⟩ := h.held hheld
    refine h.put (g := g) (x := { s.slot g with state := .closed, cause := some c }) rfl rfl rfl rfl (.refl _) rfl
      ⟨fun _ => hok.placed hheld, nofun, fun _ => hok.live hheld, nofun, hok.awaited⟩ (fun he => ?_) ?_ False.elim
    · rw [slot_record hheld, hs] at he; cases he
    · rw [slot_record hheld]; exact .refl _
  all_goals exact h.imp False.elim

theorem Lawful.closeAll (h : Lawful O C A s) (c : Cause) : Lawful False C A (s.closeAll c) :=
  Lawful.foldl (fun _ g ht => ht.closeFor c g) s.span (h.imp False.elim)

theorem Lawful.forceRing (h : Lawful O C A s) : Lawful O C A s.forceRing := by
  unfold State.forceRing
  split
  · next hs =>
    have hclosed : Lawful False C A (s.leaveOpen s.store.hLow .forcedRing) := h.leaveOpen hs _ False.elim
    exact Lawful.offer (O := False) (hclosed.congr rfl rfl rfl rfl rfl rfl (.refl _))
  · exact h

theorem Lawful.storeInstant (h : Lawful O C A s) (g : Nat) : Lawful O C A (s.storeInstant g) := by
  unfold State.storeInstant
  split
  · exact h
  next hlow =>
  split
  · next hhigh =>
    split
    · next hs =>
      split
      · next he => exact h.openSlotNow (by omega) (by omega) hs he
      · exact h
    · exact h.evaluate g
    all_goals exact h
  split
  · exact h.forceRing
  · exact h

/-! ### H_low moves on (R102, R104) -/

theorem low_lt_nextLow (s : State) : s.store.hLow < s.nextLow := by
  unfold State.nextLow
  dsimp only
  have hbare : s.store.hLow < max (s.store.hLow + 1) s.store.floor := Nat.lt_of_succ_le (le_max_left _ _)
  split
  · exact hbare
  · next g hg =>
    have hmem : g ∈ (List.map (fun i => s.store.hLow + i) (List.range 64)).tail := List.mem_of_find?_eq_some hg
    have htail : (List.map (fun i => s.store.hLow + i) (List.range 64)).tail
        = (List.range' 1 63).map fun i => s.store.hLow + i := by
      rw [← List.map_tail]
      rfl
    rw [htail, List.mem_map] at hmem
    obtain ⟨i, hi, rfl⟩ := hmem
    have := (List.mem_range'_1.1 hi).1
    exact lt_min (by omega) hbare

/-- H_low advances from a FREE slot past no held one. -/
theorem Lawful.advanceLow (h : Lawful O C A s) (hs : (s.slot s.store.hLow).state = .free) : Lawful False C A s.advanceLow := by
  rw [h.slot_low] at hs
  refine ⟨h.wfRing, h.wfCtxs, fun i => ?_, fun w hw => ?_, h.scrub, h.cells, False.elim⟩
  · change RecordOk A s.advanceLow i (Tbl.get Slot.empty s.store.ring i)
    have hok := h.records i
    have habove : ∀ hf : (Tbl.get Slot.empty s.store.ring i).state ≠ .free,
        s.store.hLow < (Tbl.get Slot.empty s.store.ring i).g := fun hf => by
      obtain ⟨hi, hl, hh⟩ := hok.placed hf
      refine lt_of_le_of_ne hl fun he => hf ?_
      rw [← hi, ← he]
      exact hs
    refine ⟨fun hf => ?_, hok.empty, hok.live, fun he => ?_, hok.awaited⟩
    · obtain ⟨hi, hl, hh⟩ := hok.placed hf
      have hslot := h.slot_eq hl hh
      rw [hi] at hslot
      have hnext := nextLow_le_held ((mem_span_iff s _).2 ⟨hl, hh⟩) (habove hf) (by rw [hslot]; exact hf)
      have hlt := low_lt_nextLow s
      exact ⟨hi, hnext, (by omega : _ ≤ s.nextLow + 63)⟩
    · have := habove (by rw [he]; decide)
      rw [(hok.emitting he).1] at this
      exact absurd this (lt_irrefl _)
  · have := (h.working w hw).2.2
    rw [hs] at this
    cases this

theorem Lawful.passFloor (h : Lawful O C A s) : Lawful False C A s.passFloor := by
  unfold State.passFloor
  split
  · next hs => exact h.advanceLow hs.1
  · exact h.imp False.elim

theorem Lawful.setFloor (h : Lawful O C A s) (f : Nat) : Lawful O C A (s.setFloor f) :=
  h.congr rfl rfl rfl rfl rfl rfl (.refl _)

theorem Lawful.takeTimeStep (h : Lawful O C A s) : Lawful P C A s.takeTimeStep :=
  (((h.closeAll .timeStep).setFloor (s.gnow + 1)).passFloor.offer).catchUp

/-! ### States with a FREE ring -/

/-- With every record FREE the engine state, H_low and the floor are of no matter to the ring. -/
theorem Lawful.of_free (h : Lawful O C A s) (hf : ∀ i, (Tbl.get Slot.empty s.store.ring i).state = .free)
    (hring : t.store.ring = s.store.ring) (hfree : t.store.freeList = s.store.freeList)
    (hwork : t.composer.working = s.composer.working) (hctx : EnabledKept s.ctxs t.ctxs)
    (hscrub : t.store.scrubbing = true → t.mgmt.engine = .resetting) : Lawful P C A t := by
  refine ⟨hring ▸ h.wfRing, (hctx h.wfCtxs).1, fun i => ?_, fun w hw => ?_, hscrub, ?_, fun _ => ?_⟩
  · rw [hring, (h.records i).empty (hf i)]
    exact recordOk_empty A t i
  · rw [hwork] at hw
    have := (h.working w hw).2.2
    rw [hf] at this
    cases this
  · rw [hfree, hring]; exact h.cells
  · unfold Offered
    rw [hring, hf]
    exact ⟨nofun, nofun⟩

/-- No slot is held where the engine is neither RUNNING nor DRAINING (R105). -/
theorem Lawful.free_of_stopped (h : Lawful O C A s) (hr : s.mgmt.engine ≠ .running) (hd : s.mgmt.engine ≠ .draining) (i : Nat) :
    (Tbl.get Slot.empty s.store.ring i).state = .free := by
  by_contra hf
  exact ((h.records i).live hf).elim hr hd

theorem Lawful.free_of_ringFree (h : Lawful O C A s) (hf : s.ringFree = true) (i : Nat) :
    (Tbl.get Slot.empty s.store.ring i).state = .free := by
  by_contra hi
  have hlt : i < 64 := by
    have := ((h.records i).placed hi).1
    omega
  exact hi (of_decide_eq_true (List.all_eq_true.1 hf i (List.mem_range.2 hlt)))

theorem Lawful.judgeDrain (h : Lawful O C A s) : Lawful O C A s.judgeDrain := by
  unfold State.judgeDrain
  split
  · next hd =>
    refine h.of_free (h.free_of_ringFree hd.2.1) rfl rfl rfl (.refl _) fun hscrub => ?_
    have := h.scrub hscrub
    rw [hd.1] at this
    cases this
  · exact h

/-- RUNNING is entered from a state that holds no slot (R105, R163). -/
theorem Lawful.enterRunning (h : Lawful O C A s) (he : s.mgmt.engine = .paused ∨ s.mgmt.engine = .waitTime) :
    Lawful P C A s.enterRunning := by
  have hstopped : s.mgmt.engine ≠ .running ∧ s.mgmt.engine ≠ .draining ∧ s.mgmt.engine ≠ .resetting := by
    rcases he with he | he <;> rw [he] <;> decide
  obtain ⟨hr, hd, hx⟩ := hstopped
  refine Lawful.catchUp (h.of_free (h.free_of_stopped hr hd) rfl rfl rfl (.refl _) fun hscrub => ?_)
  exact absurd (h.scrub hscrub) hx

/-- An engine that is not RESETTING enters WAIT_TIME or PAUSED with no slot held. -/
theorem Lawful.setEngine_stopped (h : Lawful O C A s) (he : s.mgmt.engine = .paused ∨ s.mgmt.engine = .waitTime)
    (e : EngineState) : Lawful P C A (s.setEngine e) := by
  have hstopped : s.mgmt.engine ≠ .running ∧ s.mgmt.engine ≠ .draining ∧ s.mgmt.engine ≠ .resetting := by
    rcases he with he | he <;> rw [he] <;> decide
  obtain ⟨hr, hd, hx⟩ := hstopped
  exact h.of_free (h.free_of_stopped hr hd) rfl rfl rfl (.refl _) fun hscrub => absurd (h.scrub hscrub) hx

/-- DRAINING is entered from a state that may hold slots. -/
theorem Lawful.setEngine_draining (h : Lawful O C A s) (he : s.mgmt.engine = .running ∨ s.mgmt.engine = .draining) :
    Lawful O C A (s.setEngine .draining) := by
  refine ⟨h.wfRing, h.wfCtxs, fun i => (h.records i).mono rfl (fun _ => .inr rfl) id fun _ => id, h.working, fun hscrub => ?_,
    h.cells, h.offered⟩
  have := h.scrub hscrub
  rw [this] at he
  rcases he with he | he <;> cases he

/-- A ring without a record, with every cell on the free list. -/
theorem lawful_blank (hring : s.store.ring = []) (hfree : s.store.freeList = List.range 4096)
    (hwork : s.composer.working = none) (hscrub : s.store.scrubbing = true → s.mgmt.engine = .resetting)
    (hctx : Tbl.wf Ctx.zero s.ctxs = true) : Lawful P C A s := by
  refine ⟨by rw [hring]; rfl, hctx, fun i => ?_, fun w hw => ?_, hscrub, fun _ => ?_, fun _ => ?_⟩
  · rw [hring]; exact recordOk_empty A s i
  · rw [hwork] at hw; cases hw
  · rw [hring, hfree]; exact (List.append_nil _).symm ▸ .refl _
  · unfold Offered
    rw [hring]
    exact ⟨nofun, nofun⟩

/-! ### Release (R102) -/

/-- The state once the composition-done notice has freed slot H_low, before H_low advances. -/
def freed (s : State) : State :=
  { s.setSlot s.store.hLow Slot.empty with
    store := { (s.setSlot s.store.hLow Slot.empty).store with
      freeList := (s.slot s.store.hLow).cells.foldl (fun l c => c :: l) s.store.freeList
      composed := satInc s.store.composed }
    composer := { s.composer with working := none } }

theorem release_eq (s : State) :
    State.release { s with composer := { s.composer with working := none } } =
      ((freed s).advanceLow.catchUp.offer).judgeDrain := rfl

theorem freed_freeList (s : State) :
    (freed s).store.freeList = (s.slot s.store.hLow).cells.reverse ++ s.store.freeList :=
  List.foldl_flip_cons_eq_append'

theorem Lawful.freed (h : Lawful O C A s) :
    Lawful False C A (freed s) ∧ ((freed s).slot s.store.hLow).state = .free := by
  have hlow := h.slot_low
  have hring : (RingKept.freed s).store.ring = Tbl.set Slot.empty s.store.ring (s.store.hLow % 64) Slot.empty := rfl
  have hget := fun i => get_set h.wfRing (s.store.hLow % 64) Slot.empty i
  refine ⟨⟨hring ▸ wf_set h.wfRing _ _, h.wfCtxs, fun i => ?_, nofun, h.scrub, fun hc => ?_, False.elim⟩, ?_⟩
  · rw [hring, hget]
    split
    · exact recordOk_empty A _ i
    · next hi =>
      have hok := h.records i
      refine ⟨hok.placed, hok.empty, hok.live, fun he => absurd ?_ hi, hok.awaited⟩
      rw [← (hok.emitting he).1]
      exact (hok.placed (by rw [he]; decide)).1
  · rw [hring]
    refine conserved_of_moved (h.cells hc) (listedCells_set h.wfRing (s.store.hLow % 64) Slot.empty) ?_
    rw [freed_freeList, ← hlow]
    exact (List.append_nil _).symm ▸ ((List.reverse_perm _).append_right _).trans List.perm_append_comm
  · have hempty : (RingKept.freed s).slot s.store.hLow = Slot.empty := slot_setSlot_empty h.wfRing
    rw [hempty]
    rfl

/-- The composer's slot is H_low, so the composer is idle and H_low FREE at once. -/
theorem Lawful.release (h : Lawful O C A s) :
    Lawful P C A (State.release { s with composer := { s.composer with working := none } }) := by
  obtain ⟨hf, hs⟩ := h.freed
  rw [release_eq]
  exact ((hf.advanceLow hs).catchUp.offer).judgeDrain

/-! ### A context disabled (R103) -/

/-- The context that is disabled leaves every awaited set. -/
theorem Lawful.disable (h : Lawful O C A s) (k : Nat) :
    Lawful O C A (unawait (s.setCtx k { s.ctx k with enabled := false }) k) := by
  have hget := fun i => get_update (f := fun _ x => if x.state = .free then x else bare k x) (fun _ => rfl) h.wfRing i
  have hstate : ∀ i, (Tbl.get Slot.empty (unawait (s.setCtx k { s.ctx k with enabled := false }) k).store.ring i).state =
      (Tbl.get Slot.empty s.store.ring i).state := fun i => by
    unfold unawait
    rw [show (s.setCtx k { s.ctx k with enabled := false }).store = s.store from rfl]
    dsimp only
    rw [hget]
    split <;> rfl
  refine ⟨wf_update _ h.wfRing, wf_set h.wfCtxs _ _, fun i => ?_, fun w hw => ?_, h.scrub, fun hc => ?_, fun ho => ?_⟩
  · unfold unawait
    rw [show (s.setCtx k { s.ctx k with enabled := false }).store = s.store from rfl]
    dsimp only
    rw [hget]
    have hok := h.records i
    split
    · next hf => rw [hok.empty hf]; exact recordOk_empty A _ i
    · refine ⟨hok.placed, fun hf => absurd hf ‹_›, hok.live, hok.emitting, fun ha j hj => ?_⟩
      unfold bare at hj
      rw [Opening.has_remove, Bool.and_eq_true, decide_eq_true_eq] at hj
      have hctx : ∀ t : Tbl Ctx, t = Tbl.set Ctx.zero s.ctxs k { s.ctx k with enabled := false } →
          (Tbl.get Ctx.zero t j).enabled = (s.ctx j).enabled := fun t ht => by
        rw [ht, get_set h.wfCtxs, if_neg (Ne.symm hj.2)]
        rfl
      exact (hctx _ rfl).trans (hok.awaited ha j hj.1)
  · obtain ⟨hg, hn, he⟩ := h.working w hw
    exact ⟨hg, hn, (hstate _).trans he⟩
  · have hcells : listedCells (unawait (s.setCtx k { s.ctx k with enabled := false }) k).store.ring =
        listedCells s.store.ring := listedCells_update (fun _ x => by split <;> rfl) _
    rw [hcells]
    exact h.cells hc
  · unfold Offered
    rw [hstate]
    exact h.offered ho

theorem Lawful.disabled (h : Lawful O C A s) (k : Nat) :
    Lawful O C A ((s.setCtx k { s.ctx k with enabled := false }).clearAwaited k) := by
  rw [clearAwaited_eq]
  exact Lawful.foldl (fun _ g ht => ht.evaluate g) _ (h.disable k)

end Sys2Proof.Proofs.RingKept
end

/-! ## What the store's operations leave of each slot (O31, O26) -/

section
namespace Sys2Proof.Proofs.RingKept
open Sys2Proof Sys2Proof.Machine Sys2Proof.Laws

variable {O C A : Prop} {s t : State} {g j : Nat} {c : Cause} {l : List Nat}

/-! ### Offering and leaving OPEN, slot by slot -/

/-- The slots once H_low is offered (R101). -/
theorem slot_offer (hw : Tbl.wf Slot.empty s.store.ring = true) (j : Nat) :
    s.offer.slot j =
      if j = s.store.hLow ∧ ((s.slot j).state = .complete ∨ (s.slot j).state = .closed) then
        { s.slot j with state := .emitting }
      else s.slot j := by
  by_cases hs : (s.slot s.store.hLow).state = .complete ∨ (s.slot s.store.hLow).state = .closed
  · have hheld : (s.slot s.store.hLow).state ≠ .free := by rcases hs with hs | hs <;> rw [hs] <;> decide
    have hslot : s.offer.slot j = if j = s.store.hLow then { s.slot s.store.hLow with state := .emitting } else s.slot j := by
      rw [offer_some hs]
      exact StreamState.slot_setSlot_held (x := { s.slot s.store.hLow with state := .emitting }) hw hheld (slot_g hheld) nofun j
    rw [hslot]
    by_cases hj : j = s.store.hLow
    · subst hj
      rw [if_pos rfl, if_pos ⟨rfl, hs⟩]
    · rw [if_neg hj, if_neg fun hh => hj hh.1]
  · rw [offer_none (fun hh => hs (.inl hh)) (fun hh => hs (.inr hh)), if_neg]
    rintro ⟨rfl, hh⟩
    exact hs hh

/-- Slot H_low waits for no second offer. -/
theorem offer_offer (hw : Tbl.wf Slot.empty s.store.ring = true) : s.offer.offer = s.offer := by
  have hlow : s.offer.store.hLow = s.store.hLow := TimeStep.offer_low s
  have hstate : (s.offer.slot s.offer.store.hLow).state ≠ .complete ∧ (s.offer.slot s.offer.store.hLow).state ≠ .closed := by
    rw [hlow, slot_offer hw]
    split
    · exact ⟨nofun, nofun⟩
    · next hh => exact ⟨fun h => hh ⟨rfl, .inl h⟩, fun h => hh ⟨rfl, .inr h⟩⟩
  exact offer_none hstate.1 hstate.2

/-- The record that slot g leaves OPEN with, offered where it is slot H_low (R99, R101). -/
def leftRecord (s : State) (g : Nat) (c : Cause) : Slot :=
  let x := (s.slot g).leave c (s.tru.state, s.tru.quality s.params.drift)
  if g = s.store.hLow then { x with state := .emitting } else x

theorem leftRecord_state (s : State) (g : Nat) (c : Cause) :
    (leftRecord s g c).state ≠ .free ∧ (leftRecord s g c).state ≠ .opened := by
  unfold leftRecord
  dsimp only
  split
  · exact ⟨nofun, nofun⟩
  · rw [leave_state]
    split <;> exact ⟨nofun, nofun⟩

theorem slot_leaveAndOffer (hw : Tbl.wf Slot.empty s.store.ring = true) (hs : (s.slot g).state = .opened) (j : Nat) :
    ((s.leaveOpen g c).offerIfLow g).slot j = if j = g then leftRecord s g c else s.slot j := by
  have hheld : (s.slot g).state ≠ .free := by rw [hs]; decide
  have hleft : ∀ j, (s.leaveOpen g c).slot j =
      if j = g then (s.slot g).leave c (s.tru.state, s.tru.quality s.params.drift) else s.slot j := fun j => by
    rw [leaveOpen_eq]
    exact StreamState.slot_setSlot_held hw hheld ((leave_g _ _ _).trans (slot_g hheld)) (leave_ne_free _ _ _) j
  have hlow : (s.leaveOpen g c).store.hLow = s.store.hLow := by rw [leaveOpen_eq]
  unfold State.offerIfLow leftRecord
  dsimp only
  rw [hlow]
  by_cases hg : g = s.store.hLow
  · rw [if_pos hg, if_pos hg, slot_offer (leaveOpen_wf hw), hleft, hlow]
    by_cases hj : j = g
    · have hleave : ((s.slot g).leave c (s.tru.state, s.tru.quality s.params.drift)).state = .complete
          ∨ ((s.slot g).leave c (s.tru.state, s.tru.quality s.params.drift)).state = .closed := by
        rw [leave_state]
        split
        · exact .inl rfl
        · exact .inr rfl
      rw [if_pos hj, if_pos hj, if_pos ⟨hj.trans hg, hleave⟩]
    · rw [if_neg hj, if_neg hj, if_neg fun hh => hj (hh.1.trans hg.symm)]
  · rw [if_neg hg, if_neg hg, hleft]

/-! ### Completion, expiry and opening, slot by slot -/

theorem slot_evaluate_ne (hw : Tbl.wf Slot.empty s.store.ring = true) (hj : j ≠ g) : (s.evaluate g).slot j = s.slot j := by
  unfold State.evaluate
  dsimp only
  split
  · next hs => rw [slot_leaveAndOffer hw hs.1, if_neg hj]
  · rfl

theorem held_evaluate (hw : Tbl.wf Slot.empty s.store.ring = true) (hs : (s.slot g).state ≠ .free) :
    ((s.evaluate g).slot g).state ≠ .free := by
  unfold State.evaluate
  dsimp only
  split
  · next ho =>
    rw [slot_leaveAndOffer hw ho.1, if_pos rfl]
    exact (leftRecord_state s g _).1
  · exact hs

theorem Lawful.slot_expire_ne (h : Lawful O C A s) (hj : j ≠ g) : (s.expire g).slot j = s.slot j := by
  have heval := slot_evaluate_ne (s := s) h.wfRing hj
  unfold State.expire
  dsimp only
  split
  · next hs => rw [slot_leaveAndOffer (h.evaluate g).wfRing hs, if_neg hj, heval]
  · exact heval

/-- A slot whose expiry is taken is held on, and is not OPEN (R98). -/
theorem Lawful.expire_self (h : Lawful O C A s) (hs : (s.slot g).state ≠ .free) :
    ((s.expire g).slot g).state ≠ .free ∧ ((s.expire g).slot g).state ≠ .opened := by
  unfold State.expire
  dsimp only
  split
  · next ho =>
    rw [slot_leaveAndOffer (h.evaluate g).wfRing ho, if_pos rfl]
    exact leftRecord_state _ g _
  · next ho => exact ⟨held_evaluate h.wfRing hs, ho⟩

theorem Lawful.slot_expireIfDue_ne (h : Lawful O C A s) (hj : j ≠ g) : (s.expireIfDue g).slot j = s.slot j := by
  unfold State.expireIfDue
  split
  · exact h.slot_expire_ne hj
  · rfl

/-- A slot that is OPEN after its expiry was judged has its deadline to come (R87, R98). -/
theorem Lawful.expireIfDue_self (h : Lawful O C A s) (hs : (s.slot g).state ≠ .free) :
    ((s.expireIfDue g).slot g).state ≠ .free
      ∧ (((s.expireIfDue g).slot g).state = .opened → s.tru.now < ((s.expireIfDue g).slot g).deadline) := by
  unfold State.expireIfDue
  split
  · exact ⟨(h.expire_self hs).1, fun ho => absurd ho (h.expire_self hs).2⟩
  · next hdue => exact ⟨hs, fun ho => Nat.lt_of_not_le fun hd => hdue ⟨ho, hd⟩⟩

/-- What can be opened: a FREE slot of the span, in RUNNING. -/
structure Openable (s : State) (g : Nat) : Prop where
  low : s.store.hLow ≤ g
  high : g ≤ s.store.hLow + 63
  free : (s.slot g).state = .free
  running : s.mgmt.engine = .running

theorem slot_free_eq (hs : (s.slot j).state = .free) : s.slot j = Slot.empty := by
  unfold State.slot at hs ⊢
  dsimp only at hs ⊢
  split
  · next hr => rw [if_pos hr] at hs; exact absurd hs hr.1
  · rfl

/-- Two slots of one span at one position are one slot. -/
theorem Lawful.slot_beside (h : Lawful O C A s) (ho : Openable s g) (hj : j ≠ g) (hpos : j % 64 = g % 64) :
    s.slot j = Slot.empty := by
  refine slot_free_eq ?_
  by_contra hheld
  obtain ⟨hl, hh, -⟩ := h.held hheld
  obtain ⟨hlow, hhigh, -, -⟩ := ho
  omega

theorem Lawful.slot_opening (h : Lawful O C A s) (ho : Openable s g) (j : Nat) :
    (RingKept.opening s g).slot j = if j = g then openedRecord s g else s.slot j := by
  have hslot : (RingKept.opening s g).slot j =
      if j = g then openedRecord s g else if j % 64 = g % 64 then Slot.empty else s.slot j :=
    Opening.slot_setSlot (x := openedRecord s g) h.wfRing rfl nofun j
  rw [hslot]
  split
  · rfl
  · next hj =>
    split
    · next hpos => exact (h.slot_beside ho hj hpos).symm
    · rfl

theorem Lawful.slot_openSlotNow_ne (h : Lawful O C A s) (ho : Openable s g) (hj : j ≠ g) :
    (s.openSlotNow g).slot j = s.slot j := by
  have hopening := h.opening ho.low ho.high ho.free ho.running
  have hopened := h.openSlot ho.low ho.high ho.free ho.running
  have heval : (s.openSlot g).slot j = (RingKept.opening s g).slot j := slot_evaluate_ne hopening.wfRing hj
  unfold State.openSlotNow
  rw [hopened.slot_expireIfDue_ne hj, heval, h.slot_opening ho, if_neg hj]

theorem held_openSlot (hw : Tbl.wf Slot.empty s.store.ring = true) : ((s.openSlot g).slot g).state ≠ .free := by
  have hself : (opening s g).slot g = openedRecord s g := slot_setSlot_self hw nofun rfl
  rw [openSlot_eq]
  refine held_evaluate (setSlot_wf hw) ?_
  rw [hself]
  exact nofun

/-- The slot opened is held, and where it is OPEN its deadline is to come. -/
theorem Lawful.openSlotNow_self (h : Lawful O C A s) (ho : Openable s g) :
    ((s.openSlotNow g).slot g).state ≠ .free
      ∧ (((s.openSlotNow g).slot g).state = .opened → s.tru.now < ((s.openSlotNow g).slot g).deadline) := by
  have hself := (h.openSlot ho.low ho.high ho.free ho.running).expireIfDue_self (held_openSlot (g := g) h.wfRing)
  rw [(openSlot_only s g).tru] at hself
  exact hself

/-! ### Catch-up, slot by slot (R89) -/

/-- Another slot that can be opened still can after one is. -/
theorem Lawful.openable_openSlotNow (h : Lawful O C A s) (ho : Openable s g) (hj : Openable s j) (hne : j ≠ g) :
    Openable (s.openSlotNow g) j := by
  have hlow : (s.openSlotNow g).store.hLow = s.store.hLow := low_of_ringOnly (ringOnly_openSlotNow s g)
  refine ⟨hlow ▸ hj.low, hlow ▸ hj.high, ?_, ?_⟩
  · rw [h.slot_openSlotNow_ne ho hne]; exact hj.free
  · rw [(openSlotNow_only s g).mgmt]; exact hj.running

/-- The slots of a list opened one after the other: each is held and, where OPEN, has its deadline to come, and the other slots
stand. -/
theorem Lawful.slot_openAll (h : Lawful O C A s) (hl : ∀ g ∈ l, Openable s g) (hd : l.Nodup) :
    (∀ j, j ∉ l → (l.foldl State.openSlotNow s).slot j = s.slot j)
      ∧ ∀ j ∈ l, ((l.foldl State.openSlotNow s).slot j).state ≠ .free
        ∧ (((l.foldl State.openSlotNow s).slot j).state = .opened →
          s.tru.now < ((l.foldl State.openSlotNow s).slot j).deadline) := by
  induction l generalizing s with
  | nil => exact ⟨fun _ _ => rfl, nofun⟩
  | cons g l ih =>
    obtain ⟨hg, hd⟩ := List.nodup_cons.1 hd
    obtain ⟨hog, hol⟩ := List.forall_mem_cons.1 hl
    have hne : ∀ j ∈ l, j ≠ g := fun j hj he => hg (he ▸ hj)
    obtain ⟨hstand, hopened⟩ := ih (h.openSlotNow hog.low hog.high hog.free hog.running)
      (fun j hj => h.openable_openSlotNow hog (hol j hj) (hne j hj)) hd
    rw [(openSlotNow_only s g).tru] at hopened
    refine ⟨fun j hj => ?_, fun j hj => ?_⟩
    · rw [List.mem_cons, not_or] at hj
      exact (hstand j hj.2).trans (h.slot_openSlotNow_ne hog hj.1)
    · rcases List.mem_cons.1 hj with rfl | hj
      · rw [List.foldl_cons, hstand j hg]
        exact h.openSlotNow_self hog
      · exact hopened j hj

theorem Lawful.openAll (h : Lawful O C A s) (hl : ∀ g ∈ l, Openable s g) (hd : l.Nodup) :
    Lawful O C A (l.foldl State.openSlotNow s) := by
  induction l generalizing s with
  | nil => exact h
  | cons g l ih =>
    obtain ⟨hg, hd⟩ := List.nodup_cons.1 hd
    obtain ⟨hog, hol⟩ := List.forall_mem_cons.1 hl
    exact ih (h.openSlotNow hog.low hog.high hog.free hog.running)
      (fun j hj => h.openable_openSlotNow hog (hol j hj) fun he => hg (he ▸ hj)) hd

/-- Catch-up opens what can be opened when it begins, since one opening frees and holds no other slot. -/
theorem Lawful.catchAll_eq (h : Lawful O C A s) (hl : ∀ g ∈ l, s.store.hLow ≤ g ∧ g ≤ s.store.hLow + 63)
    (he : s.mgmt.engine = .running) (hd : l.Nodup) :
    l.foldl RingKept.catchOne s = (l.filter s.catchesUp).foldl State.openSlotNow s := by
  induction l generalizing s with
  | nil => rfl
  | cons g l ih =>
    obtain ⟨hg, hd⟩ := List.nodup_cons.1 hd
    obtain ⟨hspan, hrest⟩ := List.forall_mem_cons.1 hl
    by_cases hc : s.catchesUp g = true
    · have ho : Openable s g := ⟨hspan.1, hspan.2, ((catchesUp_iff s g).1 hc).2.2, he⟩
      have hone : RingKept.catchOne s g = s.openSlotNow g := if_pos hc
      have honly := openSlotNow_only s g
      have hring := ringOnly_openSlotNow s g
      have hsame : ∀ j ∈ l, (s.openSlotNow g).catchesUp j = s.catchesUp j := fun j hj => by
        have hne : j ≠ g := fun hh => hg (hh ▸ hj)
        unfold State.catchesUp State.gnow
        rw [h.slot_openSlotNow_ne ho hne, honly.params, honly.tru, hring]
      rw [List.filter_cons_of_pos hc, List.foldl_cons, List.foldl_cons, hone,
        ih (h.openSlotNow ho.low ho.high ho.free he) (by rw [low_of_ringOnly hring]; exact hrest)
          (by rw [honly.mgmt]; exact he) hd, List.filter_congr hsame]
    · have hone : RingKept.catchOne s g = s := if_neg hc
      rw [List.filter_cons_of_neg hc, List.foldl_cons, hone, ih h hrest he hd]

/-! ### The slot the composer works on -/

/-- The composer is idle, or has not yet considered a profile for its slot. -/
def Fresh (s : State) : Prop := ∀ w, s.composer.working = some w → w.next = 0

theorem Fresh.offer (h : Fresh s) : Fresh s.offer := by
  unfold State.offer
  dsimp only
  split
  · rintro w ⟨⟩; rfl
  · exact h

theorem Fresh.leaveAndOffer (h : Fresh s) (g : Nat) (c : Cause) : Fresh ((s.leaveOpen g c).offerIfLow g) := by
  have hleft : Fresh (s.leaveOpen g c) := by rw [leaveOpen_eq]; exact h
  unfold State.offerIfLow
  split
  · exact hleft.offer
  · exact hleft

theorem Fresh.evaluate (h : Fresh s) (g : Nat) : Fresh (s.evaluate g) := by
  unfold State.evaluate
  dsimp only
  split
  · exact h.leaveAndOffer g _
  · exact h

theorem Fresh.openSlotNow (h : Fresh s) (g : Nat) : Fresh (s.openSlotNow g) := by
  have hopened : Fresh (s.openSlot g) := Fresh.evaluate (s := opening s g) h g
  unfold State.openSlotNow State.expireIfDue State.expire
  dsimp only
  split
  · split
    · exact (hopened.evaluate g).leaveAndOffer g _
    · exact hopened.evaluate g
  · exact hopened

theorem Fresh.openAll (h : Fresh s) (l : List Nat) : Fresh (l.foldl State.openSlotNow s) := by
  induction l generalizing s with
  | nil => exact h
  | cons g l ih => exact ih (h.openSlotNow g)

end Sys2Proof.Proofs.RingKept
end

/-! ## Operations beside the store (O56, O57, O60) -/

section
namespace Sys2Proof.Proofs.RingKept
open Sys2Proof Sys2Proof.Machine Sys2Proof.Laws Sys2Proof.Proofs.StreamsKept

/-! ### Operations that neither the ring nor the engine state notices -/

/-- t has the ring, H_low, the free list, the scrub, the composer's slot, the engine state and the queue of commands of s, and
every context that s has enabled. -/
structure Aloof (s t : State) : Prop where
  ring : t.store.ring = s.store.ring
  low : t.store.hLow = s.store.hLow
  freeList : t.store.freeList = s.store.freeList
  scrubbing : t.store.scrubbing = s.store.scrubbing
  working : t.composer.working = s.composer.working
  engine : t.mgmt.engine = s.mgmt.engine
  pending : t.pending = s.pending
  ctxs : EnabledKept s.ctxs t.ctxs

theorem Aloof.refl (s : State) : Aloof s s := ⟨rfl, rfl, rfl, rfl, rfl, rfl, rfl, .refl _⟩

theorem Aloof.trans {s t u : State} (h : Aloof s t) (k : Aloof t u) : Aloof s u :=
  ⟨k.ring.trans h.ring, k.low.trans h.low, k.freeList.trans h.freeList, k.scrubbing.trans h.scrubbing,
    k.working.trans h.working, k.engine.trans h.engine, k.pending.trans h.pending, h.ctxs.trans k.ctxs⟩

/-- `Aloof.trans`, the last operation named first. -/
theorem Aloof.after {s t u : State} (k : Aloof t u) (h : Aloof s t) : Aloof s u := h.trans k

/-- A change of fields that the ring and the engine state do not notice. -/
theorem aloof_of_eq {s t : State} (hs : t.store = s.store) (hw : t.composer.working = s.composer.working)
    (he : t.mgmt.engine = s.mgmt.engine) (hp : t.pending = s.pending) (hc : t.ctxs = s.ctxs) : Aloof s t :=
  ⟨by rw [hs], by rw [hs], by rw [hs], by rw [hs], hw, he, hp, hc ▸ .refl _⟩

theorem aloof_of_aside {s t : State} (h : t.aside = s.aside) (he : t.mgmt.engine = s.mgmt.engine) : Aloof s t :=
  aloof_of_eq (aside_store h) (congrArg (fun x : State => x.composer.working) h :) he (congrArg State.pending h :)
    (aside_ctxs h)

theorem aloof_of_agree {s t : State} (h : Agree s t) : Aloof s t := aloof_of_aside h.1 h.2.1

/-- A fold of operations beside the store is one. -/
theorem aloof_foldl {α : Type} {f : State → α → State} (hf : ∀ s a, Aloof s (f s a)) (l : List α) (s : State) :
    Aloof s (l.foldl f s) := by
  induction l generalizing s with
  | nil => exact .refl s
  | cons a l ih => exact (hf s a).trans (ih _)

theorem aloof_tru (s : State) (x : Tru) : Aloof s { s with tru := x } := aloof_of_eq rfl rfl rfl rfl rfl

theorem aloof_intake (s : State) (i : Intake) : Aloof s { s with intake := i } := aloof_of_eq rfl rfl rfl rfl rfl

theorem aloof_window (s : State) (w : Window) : Aloof s { s with window := w } := aloof_of_eq rfl rfl rfl rfl rfl

theorem aloof_egress (s : State) (x : Egress) : Aloof s { s with egress := x } := aloof_of_eq rfl rfl rfl rfl rfl

theorem aloof_setParams (s : State) (p : Params) : Aloof s (s.setParams p) := aloof_of_eq rfl rfl rfl rfl rfl

theorem aloof_setExec (s : State) (e : Execution) : Aloof s (s.setExec e) := aloof_of_eq rfl rfl rfl rfl rfl

theorem aloof_nextFree (s : State) : Aloof s s.nextFree := aloof_of_eq rfl rfl rfl rfl rfl

/-- Another composer that works on the same slot. -/
theorem aloof_composer {s : State} {x : Composer} (h : x.working = s.composer.working) :
    Aloof s { s with composer := x } := aloof_of_eq rfl h rfl rfl rfl

/-- Another Management Unit in the same engine state. -/
theorem aloof_mgmt {s : State} {m : Mgmt} (h : m.engine = s.mgmt.engine) : Aloof s { s with mgmt := m } :=
  aloof_of_eq rfl rfl h rfl rfl

theorem aloof_mgmtCounts (s : State) (c : MgmtCounts) : Aloof s { s with mgmt := { s.mgmt with counts := c } } :=
  aloof_of_eq rfl rfl rfl rfl rfl

theorem aloof_queue (s : State) (q : List InFrame) : Aloof s { s with mgmt := { s.mgmt with queue := q } } :=
  aloof_of_eq rfl rfl rfl rfl rfl

/-- A context written that stays enabled where it was. -/
theorem aloof_setCtx {s : State} {k : Nat} {c : Ctx} (h : (s.ctx k).enabled = true → c.enabled = true) :
    Aloof s (s.setCtx k c) := ⟨rfl, rfl, rfl, rfl, rfl, rfl, rfl, enabledKept_set h⟩

theorem aloof_bumpCtx (s : State) (k : Nat) (c : CtxCount) : Aloof s (s.bumpCtx k c) := aloof_setCtx id

theorem aloof_setWay (s : State) (i : Nat) (b : Option Binding) : Aloof s (s.setWay i b) :=
  aloof_of_eq rfl rfl rfl rfl rfl

theorem aloof_setProfile (s : State) (n : Nat) (x : Profile) : Aloof s (s.setProfile n x) :=
  aloof_of_eq rfl rfl rfl rfl rfl

theorem aloof_setHolding (s : State) (n : Nat) (h : Holding) : Aloof s (s.setHolding n h) :=
  aloof_of_eq rfl rfl rfl rfl rfl

theorem aloof_clampConfidence (s : State) : Aloof s s.clampConfidence :=
  ⟨rfl, rfl, rfl, rfl, rfl, rfl, rfl, enabledKept_of_setup (keeps_clampConfidence s).ctxs⟩

/-! ### Intake -/

theorem aloof_intakeEnds (s : State) (c : IntakeCount) : Aloof s (s.intakeEnds c) := aloof_intake s _

theorem aloof_discard (s : State) (k : Nat) (c : IntakeCount) : Aloof s (s.discard k c) :=
  (aloof_intakeEnds s c).trans (aloof_bumpCtx _ _ _)

theorem aloof_engineDiscard (s : State) (k : Nat) : Aloof s (s.engineDiscard k) := by
  unfold State.engineDiscard
  split
  · exact (aloof_discard _ _ _).after (aloof_mgmt rfl)
  · exact aloof_discard s _ _
  · exact aloof_discard s _ _
  all_goals exact .refl s

theorem aloof_lateNotice (s : State) (q : Placement) : Aloof s (s.lateNotice q) := by
  unfold State.lateNotice
  split
  · exact aloof_window s _
  · exact .refl s

theorem aloof_onTimeNotice (s : State) (q : Placement) : Aloof s (s.onTimeNotice q) := by
  unfold State.onTimeNotice
  split
  · exact aloof_window s _
  · exact .refl s

theorem aloof_accepted (s : State) (q : Placement) : Aloof s (s.accepted q) := by
  unfold State.accepted
  refine (aloof_bumpCtx _ _ _).after ((aloof_setCtx fun h => ?_).after (aloof_intakeEnds s _))
  unfold Ctx.accept
  split <;> exact h

theorem aloof_handDirective (s : State) (f : InFrame) : Aloof s (s.handDirective f) := by
  unfold State.handDirective
  split
  · exact (aloof_intakeEnds _ _).after (aloof_mgmt rfl)
  · exact aloof_intakeEnds s _

theorem aloof_admitKept (s : State) (r : Report) (k g : Nat) (residual : Int) (mark : Bool) :
    Aloof s (s.admitKept r k g residual mark) := by
  have h : Aloof s (s.setCtx k ((s.ctx k).cadence s.params.cSat (s.cadencePeriod k) g)) := aloof_setCtx id
  unfold State.admitKept
  dsimp only
  split
  · exact h.trans (aloof_discard _ _ _)
  · exact h.trans (aloof_intake _ _)

theorem aloof_admitKnown (s : State) (r : Report) (k : Nat) : Aloof s (s.admitKnown r k) := by
  unfold State.admitKnown
  split
  · exact aloof_discard s _ _
  split
  · exact aloof_discard s _ _
  split
  · exact aloof_engineDiscard s _
  split
  · exact aloof_discard s _ _
  · exact aloof_discard s _ _
  · exact aloof_admitKept s r k _ _ _

theorem aloof_admitReport (s : State) (bytes : List Byte) : Aloof s (s.admitReport bytes) := by
  unfold State.admitReport
  split
  · exact aloof_intakeEnds s _
  · split
    · exact aloof_intakeEnds s _
    · exact aloof_admitKnown s _ _

theorem aloof_workOn (s : State) (f : InFrame) : Aloof s (s.workOn f) := by
  unfold State.workOn
  split
  · exact aloof_intakeEnds s _
  split
  · exact aloof_admitReport s _
  · exact aloof_handDirective s f
  · exact aloof_intakeEnds s _

theorem aloof_setLinkIn (s : State) (l : Link) (x : LinkIn) : Aloof s (s.setLinkIn l x) := by
  rw [setLinkIn_only]
  exact aloof_intake s _

theorem aloof_takeFrame (s : State) : Aloof s s.takeFrame := by
  unfold State.takeFrame
  split
  · split
    · exact .refl s
    · exact (aloof_workOn _ _).after ((aloof_intake _ _).after (aloof_setLinkIn s _ _))
  · exact .refl s

/-! ### Composition and holding lists -/

theorem aloof_settle (s : State) : Aloof s s.settle := aloof_of_agree (settle_agree s)

theorem aloof_formBatch (s : State) (n : Nat) : Aloof s (s.formBatch n) := by
  unfold State.formBatch
  dsimp only
  split
  · exact .refl s
  · exact aloof_composer rfl

theorem aloof_formAllBatches (s : State) : Aloof s s.formAllBatches := aloof_foldl aloof_formBatch _ s

theorem aloof_holdSet (s : State) (n : Nat) (bytes : List Byte) : Aloof s (s.holdSet n bytes) := by
  unfold State.holdSet
  extract_lets h s1 h1 h2 s2
  have hs1 : Aloof s s1 := by
    dsimp only [s1]
    split
    · exact aloof_formBatch s n
    · exact .refl s
  have hs2 : Aloof s s2 := (aloof_setHolding _ _ _).after hs1
  split
  · exact hs2.trans (aloof_formBatch s2 n)
  · exact hs2

theorem aloof_handOn (s : State) (n : Nat) (bytes : List Byte) : Aloof s (s.handOn n bytes) := by
  unfold State.handOn
  dsimp only
  split
  · exact aloof_composer rfl
  · exact aloof_holdSet s n bytes

theorem aloof_profileTurn (s : State) (n : Nat) (x : Slot) : Aloof s (s.profileTurn n x) := by
  unfold State.profileTurn
  dsimp only
  split
  · exact (aloof_handOn _ _ _).after (aloof_composer rfl)
  · exact .refl s

theorem aloof_holdExpire (s : State) (n : Nat) : Aloof s (s.holdExpire n) :=
  (aloof_formBatch s n).trans (aloof_composer rfl)

theorem aloof_holdExpireDue (s : State) : Aloof s s.holdExpireDue := by
  refine aloof_foldl (fun s n => ?_) _ s
  split
  · exact aloof_holdExpire s n
  · exact .refl s

/-! ### WRITE_ENTRIES (R158, R159) -/

/-- A write that fails leaves the state, and one that is made is beside the store. -/
def WriteAloof (s : State) : WriteResult → Prop
  | .fails _ => True
  | .written t _ => Aloof s t

theorem writeAloof_enumerated {α : Type} {s : State} {v : Option α} {k : α → WriteResult}
    (h : ∀ x, WriteAloof s (k x)) : WriteAloof s (enumerated v k) := by
  cases v with
  | none => trivial
  | some x => exact h x

theorem writeAloof_structural {s : State} {r : WriteResult} (h : WriteAloof s r) : WriteAloof s (s.structural r) := by
  unfold State.structural
  split
  · trivial
  · exact h

theorem writeAloof_numeric {s : State} {lo hi v : Nat} {k : Nat → Bool → WriteResult}
    (h : ∀ x c, WriteAloof s (k x c)) : WriteAloof s (numeric lo hi v k) := h _ _

theorem writeAloof_unless {s : State} {p : Prop} [Decidable p] {c : OutcomeCode} {r : WriteResult}
    (h : WriteAloof s r) : WriteAloof s (if p then .fails c else r) := by
  split
  · trivial
  · exact h

theorem writeAloof_guarded {s : State} {o : Option OutcomeCode} {r : WriteResult} (h : WriteAloof s r) :
    WriteAloof s (match o with
      | some c => .fails c
      | none => r) := by
  cases o with
  | none => exact h
  | some c => trivial

theorem writeAloof_rate (s : State) (r : Nat) : WriteAloof s (s.writeRate r) := by
  have h : WriteAloof s (.written { s with
      params := { s.params with rate := r }
      tru := { s.tru with nextInstant := currentSlot r s.tru.now + 1 } } false) := aloof_of_eq rfl rfl rfl rfl rfl
  exact writeAloof_guarded (writeAloof_unless (writeAloof_unless h))

/-- No Engine Parameter is of the ring; two writes reach the confidences and the holding lists (R49, R133). -/
theorem writeAloof_param (s : State) (i v : Nat) : WriteAloof s (s.writeParam i v) := by
  have hset : ∀ {p : Params} {c : Bool}, WriteAloof s (.written (s.setParams p) c) := aloof_setParams s _
  match i with
  | 0 => exact writeParam_rate s v ▸ writeAloof_enumerated (writeAloof_rate s)
  | 1 =>
    rw [writeParam_mapSelect]
    refine writeAloof_enumerated fun _ => writeAloof_structural ?_
    cases s.mapOccupied with
    | true => trivial
    | false => exact hset
  | 2 => exact writeParam_mgmtId s v ▸ writeAloof_structural (writeAloof_numeric fun _ _ => hset)
  | 3 => exact writeParam_lead s v ▸ writeAloof_structural (writeAloof_numeric fun _ _ => hset)
  | 4 => exact writeParam_ppsEdge s v ▸ writeAloof_enumerated fun _ => writeAloof_structural hset
  | 5 =>
    rw [writeParam_cSat]
    exact writeAloof_numeric fun _ _ => (aloof_setParams s _).trans (aloof_clampConfidence _)
  | 6 => exact writeParam_cAwait s v ▸ writeAloof_numeric fun _ _ => hset
  | 7 =>
    rw [writeParam_wMin]
    exact writeAloof_numeric fun _ _ => writeAloof_unless ((aloof_setParams s _).trans (aloof_window _ _))
  | 8 =>
    rw [writeParam_wMax]
    exact writeAloof_numeric fun _ _ => writeAloof_unless ((aloof_setParams s _).trans (aloof_window _ _))
  | 9 => exact writeParam_w0 s v ▸ writeAloof_numeric fun _ _ => hset
  | 10 => exact writeParam_adaptation s v ▸ writeAloof_enumerated fun _ => hset
  | 11 => exact writeParam_theta s v ▸ writeAloof_enumerated fun _ => hset
  | 12 => exact writeParam_upStep s v ▸ writeAloof_enumerated fun _ => hset
  | 13 => exact writeParam_downStep s v ▸ writeAloof_enumerated fun _ => hset
  | 14 => exact writeParam_wq s v ▸ writeAloof_numeric fun _ _ => aloof_window s _
  | 15 => exact writeParam_wm1 s v ▸ writeAloof_numeric fun _ _ => writeAloof_unless hset
  | 16 => exact writeParam_wm2 s v ▸ writeAloof_numeric fun _ _ => writeAloof_unless hset
  | 17 => exact writeParam_hMax s v ▸ writeAloof_numeric fun _ _ => (aloof_setParams s _).trans (aloof_tru _ _)
  | 18 => exact writeParam_drift s v ▸ writeAloof_numeric fun _ _ => (aloof_setParams s _).trans (aloof_tru _ _)
  | 19 =>
    rw [writeParam_holdLimit]
    exact writeAloof_numeric fun _ _ => (aloof_setParams s _).trans (aloof_holdExpireDue _)
  | 20 => exact writeParam_promotion s v ▸ writeAloof_numeric fun _ _ => hset
  | 21 => exact writeParam_highBypassMax s v ▸ writeAloof_numeric fun _ _ => hset
  | _ + 22 =>
    exact writeAloof_numeric (k := fun x c => .written (s.setParams { s.params with lowBypassMax := x }) c) fun _ _ => hset

/-- One entry of any table, written or refused. -/
theorem writeAloof_entry (s : State) (table : Nat) (i : Int) (cls : Nat) (e : List Byte) :
    WriteAloof s (s.writeEntry table i cls e) := by
  have other : ∀ {t : State} {c : Bool}, t.store = s.store → t.composer = s.composer → t.mgmt.engine = s.mgmt.engine →
      t.pending = s.pending → t.ctxs = s.ctxs → WriteAloof s (.written t c) := fun hs hw he hp hc =>
    aloof_of_eq hs (by rw [hw]) he hp hc
  match table with
  | 0 => exact writeAloof_unless (writeAloof_unless (writeAloof_param s _ _))
  | 1 => exact writeAloof_guarded (r := .fails .badTable) trivial
  | 2 => exact writeAloof_guarded (writeAloof_unless (writeAloof_enumerated fun _ => aloof_setCtx id))
  | 3 => exact writeAloof_guarded (writeAloof_enumerated fun _ => other rfl rfl rfl rfl rfl)
  | 4 => exact writeAloof_guarded (writeAloof_unless (writeAloof_enumerated fun _ => other rfl rfl rfl rfl rfl))
  | 5 => exact writeAloof_guarded (writeAloof_unless (writeAloof_unless (other rfl rfl rfl rfl rfl)))
  | 6 => exact writeAloof_guarded (writeAloof_enumerated fun _ => writeAloof_unless (other rfl rfl rfl rfl rfl))
  | _ + 7 => exact writeAloof_guarded (writeAloof_enumerated fun _ => other rfl rfl rfl rfl rfl)

theorem aloof_writeTransfer (table cls : Nat) (step : Int) (es : List (List Byte)) (i : Int) (n : Nat) (cl : Bool)
    (s : State) : Aloof s (writeTransfer table cls step es i n cl s).1 := by
  induction es generalizing i n cl s with
  | nil => exact .refl s
  | cons e es ih =>
    have he := writeAloof_entry s table i cls e
    unfold writeTransfer
    split
    · exact .refl s
    · next t c hw =>
      rw [hw] at he
      exact Aloof.trans he (ih _ _ _ t)

/-! ### The work of directives beside the store -/

theorem aloof_bindWork (s : State) (k : Nat) (sid : Half) : Aloof s (s.bindWork k sid).1 := by
  unfold State.bindWork
  iterate 4 (split; · exact .refl s)
  split
  · exact .refl s
  · exact (aloof_setWay s _ _).trans (aloof_setCtx id)

theorem aloof_unbindWork (s : State) (k : Nat) : Aloof s (s.unbindWork k).1 := by
  unfold State.unbindWork
  iterate 3 (split; · exact .refl s)
  dsimp only
  split
  · exact aloof_setCtx id
  · exact (aloof_setWay s _ _).trans (aloof_setCtx id)

theorem aloof_enableWork (s : State) (k : Nat) : Aloof s (s.enableWork k).1 := by
  unfold State.enableWork
  iterate 4 (split; · exact .refl s)
  exact aloof_setCtx fun _ => rfl

theorem aloof_enableProfileWork (s : State) (n : Nat) : Aloof s (s.enableProfileWork n).1 := by
  unfold State.enableProfileWork
  split; · exact .refl s
  dsimp only
  iterate 5 (split; · exact .refl s)
  exact aloof_setProfile s _ _

theorem aloof_disableProfileWork (s : State) (n : Nat) : Aloof s (s.disableProfileWork n).1 := by
  unfold State.disableProfileWork
  iterate 2 (split; · exact .refl s)
  exact (aloof_setProfile s _ _).trans (aloof_formBatch _ n)

theorem aloof_flushWork (s : State) (d : Directive) : Aloof s (s.flushWork d).1 := by
  have h := aloof_formAllBatches s
  unfold State.flushWork State.flushBegin
  generalize s.formAllBatches = t at h ⊢
  iterate 2 (split; · exact .refl s)
  exact ⟨h.ring, h.low, h.freeList, h.scrubbing, h.working, h.engine, h.pending, h.ctxs⟩

theorem aloof_clearCounts (s : State) : Aloof s s.clearCounts :=
  ⟨rfl, rfl, rfl, rfl, rfl, rfl, rfl, enabledKept_of_setup (keeps_clearCounts s).ctxs⟩

theorem aloof_clearFlags (s : State) (selector : Nat) : Aloof s (s.clearFlags selector) := by
  unfold State.clearFlags
  split
  · exact ⟨rfl, rfl, rfl, rfl, rfl, rfl, rfl, .refl _⟩
  · exact aloof_intake s _
  · exact aloof_of_eq rfl rfl rfl rfl rfl
  · exact .refl s

theorem aloof_statusWork (s : State) (d : Directive) : Aloof s (s.statusWork d).1 := by
  unfold State.statusWork
  dsimp only
  split
  · exact aloof_clearFlags s _
  · exact .refl s

end Sys2Proof.Proofs.RingKept
end

/-! ## Every step keeps the ring lawful, and moves the engine as the rules join (O56, O57, O60) -/

section
namespace Sys2Proof.Proofs.RingKept
open Sys2Proof Sys2Proof.Machine Sys2Proof.Laws Sys2Proof.Proofs.StreamsKept
open Sys2Proof.Proofs.Ranges (step_cases)

variable {O P C A : Prop} {s t u : State} {g j : Nat} {x : Slot}

theorem Lawful.aloof (h : Lawful O C A s) (k : Aloof s t) : Lawful O C A t :=
  h.congr k.ring k.low k.freeList k.scrubbing k.working k.engine k.ctxs

/-! ### Placement (R94 to R96) -/

/-- A cell leaves the free list for the record of a held slot. -/
theorem Lawful.fillCell (h : Lawful O C A s) (q : Placement) {c : Nat} {rest : List Nat} (hf : s.store.freeList = c :: rest)
    (hs : (s.slot q.g).state ≠ .free) : Lawful O C A (s.fillCell q c rest) := by
  obtain ⟨-, -, hok⟩ := h.held hs
  have hrec := slot_record hs
  refine h.put (g := q.g) (x := { s.slot q.g with
      arrived := CtxSet.add (s.slot q.g).arrived q.ctx
      cells := linkCell (Tbl.set Cell.zero s.store.pool c (s.convert q)) c (s.slot q.g).cells }) rfl rfl rfl rfl (.refl _) rfl
    ⟨hok.placed, fun hfree => absurd hfree hs, hok.live, hok.emitting, hok.awaited⟩ (fun he => ?_) ?_
    fun ho => offered_write h.wfRing rfl rfl (fun hi => ?_) (h.offered ho)
  · rw [hrec] at he; exact he
  · rw [hrec, hf]
    exact ((Accepting.linkCell_perm _ c _).append_left rest).trans List.perm_middle
  · have := h.offered ho
    unfold Offered at this
    rw [← hi, hrec] at this
    exact this

theorem Lawful.acceptReport (h : Lawful O C A s) (q : Placement) {c : Nat} {rest : List Nat}
    (hf : s.store.freeList = c :: rest) (hs : (s.slot q.g).state ≠ .free) : Lawful O C A (s.acceptReport q c rest) :=
  (((h.fillCell q hf hs).aloof (aloof_onTimeNotice _ q)).evaluate q.g).aloof (aloof_accepted _ q)

theorem Lawful.forcePool (h : Lawful O C A s) : Lawful O C A s.forcePool := by
  have hpressed : Lawful O C A { s with store := { s.store with poolPressure := true } } :=
    h.congr rfl rfl rfl rfl rfl rfl (.refl _)
  unfold State.forcePool
  dsimp only
  split
  · next hs => exact (hpressed.leaveOpen (P := False) hs .forcedPool False.elim).offer
  · exact hpressed

theorem Lawful.placeInSlot (h : Lawful O C A s) (q : Placement) (hs : (s.slot q.g).state ≠ .free) :
    Lawful O C A (s.placeInSlot q) := by
  unfold State.placeInSlot
  split
  · exact h.aloof (aloof_discard s _ _)
  · split
    · exact h.forcePool.aloof (aloof_discard _ _ _)
    · next hf => exact h.acceptReport q hf hs

/-- What the first steps of placement leave: the slot is in the span, and RUNNING where it is FREE (R91 to R93). -/
theorem placementReason_none (h : s.placementReason g = none) (hs : (s.slot g).state = .free) :
    s.store.hLow ≤ g ∧ g ≤ s.store.hLow + 63 ∧ s.mgmt.engine = .running := by
  unfold State.placementReason at h
  split at h; · cases h
  next hlate =>
  split at h; · cases h
  split at h; · cases h
  next hring =>
  split at h; · cases h
  next hengine =>
  have hlow : s.store.hLow ≤ g := Placing.hLow_le_of_not_late (mt Placing.isLate_iff.2 hlate)
  rw [hs] at hengine
  exact ⟨hlow, by omega, by by_contra he; exact hengine ⟨he, nofun, nofun⟩⟩

theorem Lawful.place (h : Lawful O C A s) (q : Placement) : Lawful O C A (s.place q) := by
  unfold State.place
  split
  · exact (h.aloof (aloof_lateNotice s q)).aloof (aloof_discard _ _ _)
  · exact h.aloof (aloof_discard s _ _)
  · next hr =>
    split
    · next hs =>
      obtain ⟨hl, hh, he⟩ := placementReason_none hr hs
      exact ((h.openSlot hl hh hs he).placeInSlot q (held_openSlot h.wfRing)).expireIfDue q.g
    · next hs => exact h.placeInSlot q hs

theorem pending_placeInSlot (s : State) (q : Placement) : (s.placeInSlot q).pending = s.pending := by
  unfold State.placeInSlot
  split
  · exact (aloof_discard s _ _).pending
  · split
    · exact (aloof_discard _ _ _).pending.trans (PlacementEnds.forcePool_only s).pending
    · next c rest _ =>
      have hfilled : ((s.fillCell q c rest).onTimeNotice q).pending = s.pending :=
        (PlacementEnds.onTimeNotice_only _ q).pending
      exact (aloof_accepted _ q).pending.trans ((evaluate_only _ q.g).pending.trans hfilled)

theorem pending_place (s : State) (q : Placement) : (s.place q).pending = s.pending := by
  unfold State.place
  split
  · exact (aloof_discard _ _ _).pending.trans (aloof_lateNotice s q).pending
  · exact (aloof_discard s _ _).pending
  · split
    · exact (expireIfDue_only _ q.g).pending.trans ((pending_placeInSlot _ q).trans (openSlot_only s q.g).pending)
    · exact pending_placeInSlot s q

/-! ### Operations that keep the laws, and end a drain at most -/

/-- The queue of commands stands, the engine state stands or a drain ends, and the ring stays lawful. -/
structure Kept (s t : State) : Prop where
  pending : t.pending = s.pending
  engine : t.mgmt.engine = s.mgmt.engine ∨ (s.mgmt.engine = .draining ∧ t.mgmt.engine = .paused)
  lawful : ∀ {C A : Prop}, Lawful True C A s → Lawful True C A t

theorem Kept.refl (s : State) : Kept s s := ⟨rfl, .inl rfl, id⟩

theorem Kept.trans (h : Kept s t) (k : Kept t u) : Kept s u := by
  refine ⟨k.pending.trans h.pending, ?_, k.lawful ∘ h.lawful⟩
  rcases h.engine with hs | ⟨hd, hp⟩
  · rw [← hs]; exact k.engine
  · rcases k.engine with ht | ⟨hd', -⟩
    · exact .inr ⟨hd, ht.trans hp⟩
    · rw [hp] at hd'; cases hd'

theorem Aloof.kept (h : Aloof s t) : Kept s t := ⟨h.pending, .inl h.engine, fun hs => hs.aloof h⟩

theorem kept_of_only (h : StoreOnly s t) (hl : ∀ {C A : Prop}, Lawful True C A s → Lawful True C A t) : Kept s t :=
  ⟨h.pending, .inl (by rw [h.mgmt]), hl⟩

/-- A fold of operations that keep the laws keeps them. -/
theorem kept_foldl {α : Type} {f : State → α → State} (hf : ∀ s a, Kept s (f s a)) (l : List α) (s : State) :
    Kept s (l.foldl f s) := by
  induction l generalizing s with
  | nil => exact .refl s
  | cons a l ih => exact (hf s a).trans (ih _)

theorem kept_judgeDrain (s : State) : Kept s s.judgeDrain :=
  ⟨(congrArg State.pending (judgeDrain_aside s) :), judgeDrain_engine s, Lawful.judgeDrain⟩

theorem kept_settleAndJudge (s : State) : Kept s s.settleAndJudge := (aloof_settle s).kept.trans (kept_judgeDrain _)

theorem kept_takePlacement (s : State) : Kept s s.takePlacement := by
  refine ⟨?_, .inl (by rw [(PlacementEnds.ended_takePlacement s).mgmt]), fun h => ?_⟩
  · unfold State.takePlacement
    split
    · rfl
    · split
      · exact (aloof_discard s _ _).pending
      · exact pending_place s _
  · unfold State.takePlacement
    split
    · exact h
    · split
      · exact h.aloof (aloof_discard s _ _)
      · exact h.place _

theorem kept_expire (s : State) (g : Nat) : Kept s (s.expire g) := kept_of_only (expire_only s g) fun h => h.expire g

theorem kept_expireIfDue (s : State) (g : Nat) : Kept s (s.expireIfDue g) :=
  kept_of_only (expireIfDue_only s g) fun h => h.expireIfDue g

theorem kept_takeInstant (s : State) : Kept s s.takeInstant :=
  (aloof_tru s { s.tru with nextInstant := s.tru.nextInstant + 1 }).kept.trans
    (kept_of_only (storeInstant_only _ _) fun h => h.storeInstant _)

theorem kept_takeTimeStep (s : State) : Kept s s.takeTimeStep := kept_of_only (takeTimeStep_only s) Lawful.takeTimeStep

/-- The composer goes on to the next profile of its slot (R128). -/
theorem Lawful.nextProfile (h : Lawful O C A s) {w : Composing} (hw : s.composer.working = some w) (hn : w.next < 8) :
    Lawful O C A { s with composer := { s.composer with working := some { w with next := w.next + 1 } } } := by
  refine ⟨h.wfRing, h.wfCtxs, fun i => (h.records i).mono rfl id (fun _ => rfl) fun _ => id, fun v hv => ?_, h.scrub, h.cells,
    h.offered⟩
  obtain ⟨hg, -, he⟩ := h.working w hw
  cases hv
  exact ⟨hg, hn, he⟩

theorem kept_considerNext {w : Composing} (hw : s.composer.working = some w) : Kept s (s.considerNext w) := by
  unfold State.considerNext
  dsimp only
  split
  · next hn =>
    have hturn := aloof_profileTurn s w.next (s.slot w.g)
    exact hturn.kept.trans ⟨rfl, .inl rfl, fun h => h.nextProfile (hturn.working.trans hw) hn⟩
  · exact .refl s

theorem kept_release (s : State) :
    Kept s (State.release { s with composer := { s.composer with working := none } }) := by
  have honly : StoreOnly s (freed s).advanceLow.catchUp.offer :=
    ((only_with s s.ctxs s.window (freed s).advanceLow.store none).trans (catchUp_only (freed s).advanceLow)).trans
      (offer_only _)
  have hjudge := kept_judgeDrain (freed s).advanceLow.catchUp.offer
  refine ⟨?_, ?_, Lawful.release⟩
  · rw [release_eq]; exact hjudge.pending.trans honly.pending
  · rw [release_eq, ← honly.mgmt]; exact hjudge.engine

theorem kept_composed (s : State) : Kept s s.composed := by
  have hformed : Kept s (if s.mgmt.engine = .draining then s.formAllBatches else s) := by
    split
    · exact (aloof_formAllBatches s).kept
    · exact .refl s
  exact hformed.trans (kept_release _)

theorem kept_finishIfComposed (s : State) : Kept s s.finishIfComposed := by
  unfold State.finishIfComposed
  split
  · exact .refl s
  split
  · exact kept_composed s
  · exact .refl s

theorem kept_composeStep (s : State) : Kept s s.composeStep := by
  unfold State.composeStep
  split
  · exact .refl s
  next w hw =>
  split
  · exact (((kept_considerNext hw).trans (kept_settleAndJudge _)).trans (kept_finishIfComposed _)).trans
      (kept_settleAndJudge _)
  · exact .refl s

theorem kept_takeHoldExpiry (s : State) (n : Nat) : Kept s (s.takeHoldExpiry n) :=
  (aloof_holdExpire s n).kept.trans (kept_settleAndJudge _)

theorem kept_tru (s : State) (x : Tru) : Kept s { s with tru := x } := (aloof_tru s x).kept

/-- A tick is a nanosecond and the time limits it reaches (log entry 4). -/
theorem kept_tick (s : State) : Kept s s.tick := by
  unfold State.tick
  extract_lets s1 s2 s3 s4 s5
  have h1 : Kept s s1 := kept_tru s _
  have h2 : Kept s1 s2 := by
    dsimp only [s2]
    split
    · exact kept_tru _ _
    · exact .refl _
  have h3 : Kept s2 s3 := by
    dsimp only [s3]
    split
    · exact .refl _
    · split
      · exact kept_tru _ _
      · exact .refl _
  have h4 : Kept s3 s4 := by
    dsimp only [s4]
    split
    · exact kept_takeInstant _
    · exact .refl _
  have h5 : Kept s4 s5 := kept_foldl kept_expireIfDue _ _
  refine ((((h1.trans h2).trans h3).trans h4).trans h5).trans (kept_foldl (fun s n => ?_) _ _)
  split
  · exact kept_takeHoldExpiry s n
  · exact .refl s

theorem kept_finishDirective (s : State) (d : Directive) (r : Option Reply) : Kept s (s.finishDirective d r) := by
  unfold State.finishDirective
  split
  · exact ((aloof_setExec s _).trans (aloof_nextFree _)).kept.trans (kept_settleAndJudge _)
  · next r =>
    have hcount : Aloof s (s.countAnswer r) := aloof_mgmt rfl
    exact ((hcount.trans (aloof_of_agree (offerAnswer_agree _ _))).trans (aloof_nextFree _)).kept.trans
      (kept_settleAndJudge _)

/-! ### What moves the engine (R105, R162 to R165) -/

/-- The engine states that the rules join to one. -/
def joinedTo (e : EngineState) : List EngineState :=
  match e with
  | .paused => [.waitTime, .running, .resetting]
  | .waitTime => [.paused, .running, .resetting]
  | .running => [.draining, .paused, .resetting]
  | .draining => [.paused, .resetting]
  | .resetting => [.paused]

/-- The queue of commands stands, the engine state stands or moves as the rules join, and the ring stays lawful. -/
structure Moves (s t : State) : Prop where
  pending : t.pending = s.pending
  engine : t.mgmt.engine = s.mgmt.engine ∨ t.mgmt.engine ∈ joinedTo s.mgmt.engine
  lawful : ∀ {C A : Prop}, Lawful True C A s → Lawful True C A t

theorem Kept.moves (h : Kept s t) : Moves s t :=
  ⟨h.pending, h.engine.imp_right fun ⟨hd, hp⟩ => by rw [hd, hp]; decide, h.lawful⟩

/-- After a move a drain may end: where DRAINING can be entered, PAUSED can. -/
theorem Moves.kept (h : Moves s t) (k : Kept t u) : Moves s u := by
  refine ⟨k.pending.trans h.pending, ?_, k.lawful ∘ h.lawful⟩
  have hjoined : ∀ e : EngineState, .draining = e ∨ .draining ∈ joinedTo e → EngineState.paused ∈ joinedTo e := fun e => by
    cases e <;> decide
  rcases k.engine with ht | ⟨hd, hp⟩
  · rw [ht]; exact h.engine
  · rw [hp]
    exact .inr (hjoined _ (hd ▸ h.engine))

/-- Before a move an operation may come that the engine state does not notice. -/
theorem Moves.after (k : Moves t u) (h : Kept s t) (he : t.mgmt.engine = s.mgmt.engine) : Moves s u :=
  ⟨k.pending.trans h.pending, he ▸ k.engine, k.lawful ∘ h.lawful⟩

/-- RUNNING entered, before the catch-up. -/
def entered (s : State) : State :=
  { s with
    mgmt := { s.mgmt with engine := .running, pendingMap := 0 }
    store := { s.store with
      floor := max s.store.floor (s.gnow + 1)
      hLow := max s.store.hLow (max s.store.floor (s.gnow + 1)) } }

theorem moves_enterRunning (he : s.mgmt.engine = .paused ∨ s.mgmt.engine = .waitTime) : Moves s s.enterRunning := by
  have honly : StoreOnly (entered s) s.enterRunning := catchUp_only (entered s)
  refine ⟨honly.pending, .inr ?_, fun h => h.enterRunning he⟩
  have hrunning : s.enterRunning.mgmt.engine = .running := congrArg Mgmt.engine honly.mgmt
  rw [hrunning]
  rcases he with he | he <;> rw [he] <;> decide

theorem moves_setEngine (hs : s.mgmt.engine = .paused ∨ s.mgmt.engine = .waitTime) {e : EngineState}
    (he : e ∈ joinedTo s.mgmt.engine) : Moves s (s.setEngine e) := ⟨rfl, .inr he, fun h => h.setEngine_stopped hs e⟩

/-- DRAINING is entered from RUNNING, the waiting slots closed or not (R105, R106, R164). -/
theorem moves_enterDraining (he : s.mgmt.engine = .running) (hp : t.pending = s.pending)
    (ht : t.mgmt.engine = .running ∨ t.mgmt.engine = .draining)
    (hl : ∀ {C A : Prop}, Lawful True C A s → Lawful False C A t) : Moves s t.enterDraining := by
  have hformed := aloof_formAllBatches (t.setEngine .draining)
  unfold State.enterDraining
  generalize (t.setEngine .draining).formAllBatches = v at hformed ⊢
  have honly := offer_only v
  have hjudge := kept_judgeDrain v.offer
  have hengine : v.offer.mgmt.engine = .draining := by
    rw [honly.mgmt, hformed.engine]; rfl
  refine ⟨hjudge.pending.trans (honly.pending.trans (hformed.pending.trans hp)), .inr ?_, fun h =>
    hjudge.lawful (((hl h).setEngine_draining ht).aloof hformed).offer⟩
  have hmem : ∀ e, e = .draining ∨ e = .paused → e ∈ joinedTo s.mgmt.engine := by
    rw [he]
    rintro - (rfl | rfl) <;> decide
  exact hmem _ (hjudge.engine.imp (fun h => h.trans hengine) And.right)

theorem moves_resumeWork (s : State) : Moves s s.resumeWork.1 := by
  unfold State.resumeWork
  split
  · next he =>
    split
    · dsimp only
      exact moves_enterRunning (.inl he)
    · exact moves_setEngine (.inl he) (by rw [he]; decide)
  · exact (Kept.refl s).moves

theorem moves_pauseWork (s : State) : Moves s s.pauseWork.1 := by
  unfold State.pauseWork
  split
  · next he =>
    dsimp only
    exact moves_enterDraining he rfl (.inl he) fun h => h.imp False.elim
  · next he => exact moves_setEngine (.inr he) (by rw [he]; decide)
  all_goals exact (Kept.refl s).moves

theorem moves_pauseNowWork (s : State) : Moves s s.pauseNowWork.1 := by
  unfold State.pauseNowWork
  split
  · next he =>
    have honly := closeAll_only (s.setEngine .draining) .forcedDrain
    dsimp only
    exact moves_enterDraining he honly.pending (.inr (congrArg Mgmt.engine honly.mgmt)) fun h =>
      (h.setEngine_draining (.inl he)).closeAll _
  · next he => exact moves_setEngine (.inr he) (by rw [he]; decide)
  all_goals exact (Kept.refl s).moves

theorem mem_resetting (e : EngineState) : EngineState.resetting = e ∨ .resetting ∈ joinedTo e := by
  cases e <;> decide

/-- Engine reset's work in every block, before the flush is told ended. -/
def blanked (s : State) : State :=
  { s with
    ctxs := Tbl.update Ctx.zero (fun _ c => c.afterReset) s.ctxs
    intake := s.intake.afterReset
    store := s.store.afterReset
    window := Window.afterReset s.params
    composer := s.composer.afterReset
    egress := s.egress.afterReset
    mgmt := { s.mgmt with engine := .resetting, pendingMap := 0, counts := {} } }

theorem afterReset_freeList (y : Store) : y.afterReset.freeList = List.range 4096 := by
  unfold Store.afterReset
  dsimp only

theorem resetBlocks_eq (s : State) : s.resetBlocks = (blanked s).flushEnded := rfl

/-- ENGINE_RESET leaves an empty ring, every cell on the free list (R108, R165). -/
theorem moves_engineResetWork (s : State) (d : Directive) : Moves s (s.engineResetWork d) := by
  have hblank : Moves s (blanked s) := by
    refine ⟨rfl, mem_resetting _, fun h => lawful_blank rfl (afterReset_freeList s.store) rfl (fun _ => rfl) (wf_update _ h.wfCtxs)⟩
  have hended := aloof_of_agree (flushEnded_agree (blanked s))
  rw [← resetBlocks_eq] at hended
  exact hblank.kept (hended.trans (aloof_mgmt (m := (s.engineResetWork d).mgmt) rfl)).kept

/-- A disable changes the contexts, the window, the store and the composer's slot alone. -/
theorem kept_disableWork (s : State) (k : Nat) : Kept s (s.disableWork k).1 := by
  unfold State.disableWork
  iterate 2 (split; · exact .refl s)
  dsimp only
  have honly := clearAwaited_only (s.setCtx k { s.ctx k with enabled := false }) k
  exact ⟨honly.pending, .inl (congrArg Mgmt.engine honly.mgmt), fun h => h.disabled k⟩

/-- A directive's own work, by its code. -/
theorem moves_ownWork (s : State) (cls : Nat) (c : DirectiveCode) (d : Directive) : Moves s (s.ownWork cls c d).1 := by
  unfold State.ownWork
  cases c with
  | readEntries => exact (Kept.refl s).moves
  | writeEntries => exact (aloof_writeTransfer _ _ _ _ _ _ _ s).kept.moves
  | bindStream => exact (aloof_bindWork s _ _).kept.moves
  | unbindStream => exact (aloof_unbindWork s _).kept.moves
  | setStreamState =>
    dsimp only
    split
    · exact (aloof_enableWork s _).kept.moves
    · exact (kept_disableWork s _).moves
  | enableProfile => exact (aloof_enableProfileWork s _).kept.moves
  | disableProfile => exact (aloof_disableProfileWork s _).kept.moves
  | resume => exact moves_resumeWork s
  | pause => exact moves_pauseWork s
  | pauseNow => exact moves_pauseNowWork s
  | engineReset => exact moves_engineResetWork s d
  | flushBatches => exact (aloof_flushWork s d).kept.moves
  | clearCounters => exact (aloof_clearCounts s).kept.moves
  | lockConfig => exact (aloof_mgmt (s := s) (m := s.lockWork.1.mgmt) rfl).kept.moves
  | readStatus => exact (aloof_statusWork s d).kept.moves

theorem moves_directiveWork (s : State) (cls : Nat) (d : Directive) : Moves s (s.directiveWork cls d).1 := by
  unfold State.directiveWork
  split
  · exact (Kept.refl s).moves
  · split
    · exact (Kept.refl s).moves
    · exact moves_ownWork s cls _ d

theorem moves_executeDirective (s : State) (d : Directive) : Moves s (s.executeDirective d) := by
  unfold State.executeDirective
  split
  · exact ((aloof_mgmtCounts s _).trans (aloof_nextFree _)).kept.moves
  · next cls _ =>
    have hwork := (moves_directiveWork (s.setExec .executing) cls d).after (aloof_setExec s _).kept rfl
    exact (hwork.kept (kept_settleAndJudge _)).kept (kept_finishDirective _ d _)

theorem moves_runDirective (s : State) (d : Directive) : Moves s (s.runDirective d) :=
  (moves_executeDirective _ d).after (kept_takePlacement s) (by rw [(PlacementEnds.ended_takePlacement s).mgmt])

theorem moves_takeDirective (s : State) (d : Directive) : Moves s (s.takeDirective d) := by
  unfold State.takeDirective
  split
  · exact moves_runDirective s d
  · exact (Kept.refl s).moves

theorem moves_truLocked (s : State) : Moves s s.truLocked := by
  unfold State.truLocked
  split
  · next he => exact moves_enterRunning (.inr he)
  · exact (Kept.refl s).moves

theorem moves_takeEdge (s : State) : Moves s s.takeEdge := by
  unfold State.takeEdge
  dsimp only
  split
  · exact (kept_tru s _).moves
  · exact (moves_truLocked _).after (kept_tru s _) rfl
  · exact (moves_truLocked _).after ((kept_tru s _).trans (kept_takeTimeStep _))
      (by rw [(takeTimeStep_only _).mgmt])

/-- The scrub ends, which runs in RESETTING alone, where no slot is held (R108, R165). -/
theorem moves_scrubDone (hs : s.store.scrubbing = true) : Moves s s.scrubDone := by
  have hpaused : ∀ e : EngineState, EngineState.paused = e ∨ .paused ∈ joinedTo e := fun e => by
    cases e <;> decide
  have hdone : Moves s { s with
      store := s.store.scrubbed, mgmt := { s.mgmt with engine := .paused, deferredReset := none } } := by
    refine ⟨rfl, hpaused _, fun h => ?_⟩
    have he := h.scrub hs
    exact h.of_free (h.free_of_stopped (by rw [he]; decide) (by rw [he]; decide)) rfl rfl rfl (.refl _) nofun
  unfold State.scrubDone
  dsimp only
  split
  · exact hdone
  · exact hdone.kept (aloof_of_agree (formDeferred_agree _ _ _)).kept

/-- The commands that are events. -/
theorem moves_event {c : Instr} (hc : directiveOf c = none) (hp : ∀ pins, c ≠ .powerOnReset pins)
    (h : exec c s = .next t) : Moves s t := by
  have hwait : ∀ dt, Kept s (s.elapse dt) := fun dt => kept_tru s _
  cases c with
  | powerOnReset pins => exact absurd rfl (hp pins)
  | frameArrival after link source frame => cases h; exact ((hwait _).trans (aloof_setLinkIn _ _ _).kept).moves
  | frameTake => cases h; exact (aloof_takeFrame s).kept.moves
  | placementRequest => cases h; exact (kept_takePlacement s).moves
  | instantEvent => cases h; exact ((hwait _).trans (kept_takeInstant _)).moves
  | deadlineExpiry g =>
    cases h
    split
    · exact ((hwait _).trans (kept_expire _ g)).moves
    · exact (Kept.refl s).moves
  | compositionStep => cases h; exact (kept_composeStep s).moves
  | holdExpiry profile =>
    cases h
    split
    · exact (Kept.refl s).moves
    · exact ((hwait _).trans (kept_takeHoldExpiry _ _)).moves
  | readyIndication after =>
    cases h; exact (((hwait after).trans (aloof_egress _ _).kept).trans (kept_settleAndJudge _)).moves
  | completionIndication after => cases h; exact ((hwait after).trans (aloof_egress _ _).kept).moves
  | todMessage after bytes => cases h; exact ((hwait after).trans (kept_tru _ _)).moves
  | ppsEdge after polarity =>
    cases h
    split
    · exact (moves_takeEdge _).after (hwait after) rfl
    · exact (hwait after).moves
  | edgeTimerExpiry =>
    cases h
    split
    · exact (Kept.refl s).moves
    · exact ((hwait _).trans (kept_tru _ _)).moves
  | holdoverSecond =>
    cases h
    split
    · exact ((hwait _).trans (kept_tru _ _)).moves
    · exact (Kept.refl s).moves
  | directiveTake =>
    cases h
    split
    · exact (moves_runDirective _ _).after (aloof_queue s _).kept rfl
    · exact (Kept.refl s).moves
  | scrubCompletion =>
    cases h
    split
    · next hs => exact (moves_scrubDone hs).kept (kept_settleAndJudge _)
    · exact (Kept.refl s).moves
  | writeWindowLimits r limit v => cases limit <;> cases hc
  | writeWatermark r mark v => cases mark <;> cases hc
  | writeHoldoverParameter r param v => cases param <;> cases hc
  | _ => cases hc

theorem moves_exec {c : Instr} (hp : ∀ pins, c ≠ .powerOnReset pins) (h : exec c s = .next t) : Moves s t := by
  cases hc : directiveOf c with
  | none => exact moves_event hc hp h
  | some x =>
    obtain ⟨r, k, d⟩ := x
    rw [exec_directive hc] at h
    cases h
    exact moves_takeDirective s d

theorem lawful_powerOn {pins : BitVec 4} (h : exec (.powerOnReset pins) s = .next t) :
    t.pending = s.pending ∧ ∀ {C A : Prop}, Lawful True C A t := by
  cases h
  exact ⟨rfl, lawful_blank rfl reset_freeList rfl nofun rfl⟩

theorem lawful_exec {c : Instr} (h : exec c s = .next t) (hs : Lawful True C A s) : Lawful True C A t := by
  by_cases hp : ∀ pins, c ≠ .powerOnReset pins
  · exact (moves_exec hp h).lawful hs
  · push Not at hp
    obtain ⟨pins, rfl⟩ := hp
    exact (lawful_powerOn h).2

theorem lawful_step (h : step s = .next t) (hs : Lawful True C A s) : Lawful True C A t := by
  rcases step_cases h with ⟨-, ht⟩ | ⟨c, rest, -, hc⟩
  · exact ht ▸ (kept_tick s).lawful hs
  · exact lawful_exec hc (s := { s with pending := rest }) (hs.congr rfl rfl rfl rfl rfl rfl (.refl _))

/-- Settles O56: the laws, record by record, are kept by every write that a command or a tick is made of. -/
theorem slotRingStaysLawful : Obligations.SlotRingStaysLawful := fun _ _ hcan hring h =>
  (lawful_step h (lawful_of (C := False) (A := False) hcan hring False.elim False.elim)).ringLawful

/-- Settles O57: cells move between the free list and one record at a time, and a disable clears the bits it must. -/
theorem cellsAreConserved : Obligations.CellsAreConserved := fun s _ hcan hring h => by
  have hlaw := lawful_step h (lawful_of (C := s.cellsConserved) (A := s.awaitedEnabled) hcan hring id id)
  exact ⟨hlaw.cells, fun ha i => (hlaw.records i).awaited ha⟩

theorem exec_next (c : Instr) (s : State) : ∃ t, exec c s = .next t := by
  cases c <;> exact ⟨_, rfl⟩

/-- Settles O60: a command is power-on reset, or keeps its queue and moves the engine as the rules join; and a step takes the
front of the queue and runs it. -/
theorem engineMovesAsTheRulesJoin : Obligations.EngineMovesAsTheRulesJoin := by
  unfold Obligations.EngineMovesAsTheRulesJoin
  intro joined
  have hmoves : ∀ {s t : State}, Moves s t → joined s t := fun h => h.engine
  have hexec : ∀ (c : Instr) (s : State), ∃ t, exec c s = .next t ∧ t.pending = s.pending
      ∧ ((∃ pins, c = .powerOnReset pins) ∨ joined s t) := fun c s => by
    obtain ⟨t, ht⟩ := exec_next c s
    by_cases hp : ∃ pins, c = .powerOnReset pins
    · obtain ⟨pins, rfl⟩ := hp
      exact ⟨t, ht, (lawful_powerOn ht).1, .inl ⟨pins, rfl⟩⟩
    · have h := moves_exec (fun pins hc => hp ⟨pins, hc⟩) ht
      exact ⟨t, ht, h.pending, .inr (hmoves h)⟩
  refine ⟨hexec, fun s => ?_⟩
  unfold step
  split
  · next hq => exact ⟨s.tick, rfl, (kept_tick s).pending.trans (by rw [hq]; rfl), .inr (hmoves (kept_tick s).moves)⟩
  · next c rest hq =>
    obtain ⟨t, ht, hpending, hjoined⟩ := hexec c { s with pending := rest }
    rw [hq]
    exact ⟨t, ht, hpending, hjoined.imp_left fun ⟨pins, hc⟩ => ⟨pins, congrArg some hc⟩⟩

end Sys2Proof.Proofs.RingKept
end

/-! ## The release of the composed slot (O31) -/

section
namespace Sys2Proof.Proofs.RingKept
open Sys2Proof Sys2Proof.Machine Sys2Proof.Laws
open Sys2Proof.Proofs.Accepting (RingOnly)
open Sys2Proof.Proofs.Batches (enterAll enterAll_eq egressStep_takes settleSteps_succ takeOutbound_room heldBatches_unmarked)
open Sys2Proof.Proofs.EngineStates (HeldTaken handedOn formAllBatches_handedOn judgeDrain_eq judgeDrain_judgeDrain ringFree_iff
  slot_of_ringFree)

variable {C A : Prop} {s t : State} {g j : Nat} {w : Composing}

/-! ### The state that the release leaves, before the drain is judged (R89, R101, R102) -/

/-- Slot H_low is freed and H_low has moved on. -/
def released (s : State) : State := (freed s).advanceLow

/-- After that catch-up has run, and the new slot H_low is offered. -/
def onward (s : State) : State := (released s).catchUp.offer

/-- The slots that the release opens: those of catch-up, in RUNNING alone (R89). -/
def opens (s : State) : List Nat := if s.mgmt.engine = .running then s.catchUpSlots (released s).store.hLow else []

/-- A composer at work has slot H_low, which is EMITTING (R101). -/
theorem Lawful.slot_working (h : Lawful True C A s) (hw : s.composer.working = some w) :
    (s.slot s.store.hLow).state = .emitting := by
  rw [h.slot_low]
  exact (h.working w hw).2.2

theorem slot_freed (h : Lawful True C A s) (hg : g ≠ s.store.hLow) : (freed s).slot g = s.slot g := by
  by_cases hpos : g % 64 = s.store.hLow % 64
  · have hget : Tbl.get Slot.empty (freed s).store.ring (g % 64) = Slot.empty := by
      rw [hpos]
      exact (get_set h.wfRing _ _ _).trans (if_pos rfl)
    have hbare : (freed s).slot g = Slot.empty := by
      unfold State.slot
      rw [hget]
      exact if_neg fun hh => hh.1 rfl
    rw [hbare, slot_free_eq]
    by_contra hheld
    obtain ⟨hl, hh, -⟩ := h.held hheld
    omega
  · exact slot_setSlot_ne h.wfRing hpos

theorem released_only (s : State) : StoreOnly s (released s) :=
  ⟨rfl, rfl, rfl, rfl, rfl, rfl, rfl, rfl, rfl, rfl, rfl, rfl⟩

theorem openAll_only (s : State) (l : List Nat) : StoreOnly s (l.foldl State.openSlotNow s) := by
  induction l generalizing s with
  | nil => exact .refl s
  | cons g l ih => exact (openSlotNow_only s g).trans (ih _)

theorem ringOnly_openAll (s : State) (l : List Nat) : RingOnly s (l.foldl State.openSlotNow s) := by
  induction l generalizing s with
  | nil => exact ringOnly_refl s
  | cons g l ih => exact (ringOnly_openSlotNow s g).trans (ih _)

theorem mem_catchUpSlots (s : State) (low g : Nat) : g ∈ s.catchUpSlots low ↔
    (low ≤ g ∧ s.store.floor ≤ g) ∧ (g ≤ low + 63 ∧ g ≤ s.gnow) ∧ (s.slot g).state = .free := by
  have hspan : g ∈ (List.range 64).map (fun i => low + i) ↔ low ≤ g ∧ g ≤ low + 63 :=
    mem_span_iff { s with store := { s.store with hLow := low } } g
  unfold State.catchUpSlots
  rw [List.mem_filter, hspan, decide_eq_true_eq]
  tauto

/-- Catch-up runs over the slots above the freed one, which read as they did before. -/
theorem catchUpSlots_eq (h : Lawful True C A s) :
    (released s).span.filter (released s).catchesUp = s.catchUpSlots (released s).store.hLow := by
  refine List.filter_congr fun g hg => ?_
  have hlow : (released s).store.hLow ≤ g := ((mem_span_iff _ g).1 hg).1
  have hlt : s.store.hLow < (released s).store.hLow := low_lt_nextLow (freed s)
  have hslot : (released s).slot g = s.slot g := slot_freed h (by omega)
  rw [Bool.eq_iff_iff, catchesUp_iff, decide_eq_true_eq, hslot]
  rfl

theorem lawful_released (h : Lawful True C A s) : Lawful False C A (released s) := by
  obtain ⟨hfreed, hlow⟩ := h.freed
  exact hfreed.advanceLow hlow

theorem lawful_onward (h : Lawful True C A s) : Lawful True C A (onward s) := (lawful_released h).catchUp.offer

theorem openable_opens (h : Lawful True C A s) : ∀ g ∈ opens s, Openable (released s) g := by
  intro g hg
  unfold opens at hg
  split at hg
  · next he =>
    obtain ⟨⟨hlow, -⟩, ⟨hhigh, -⟩, hfree⟩ := (mem_catchUpSlots s _ g).1 hg
    have hlt : s.store.hLow < (released s).store.hLow := low_lt_nextLow (freed s)
    have hslot : (released s).slot g = s.slot g := slot_freed h (by omega)
    exact ⟨hlow, hhigh, by rw [hslot]; exact hfree, he⟩
  · cases hg

theorem opens_nodup (s : State) : (opens s).Nodup := by
  unfold opens
  split
  · exact (StreamState.span_nodup (released s)).filter _
  · exact List.nodup_nil

/-- The offer of catch-up and that of the release are one. -/
theorem onward_eq (h : Lawful True C A s) :
    onward s = ((opens s).foldl State.openSlotNow (released s)).offer := by
  have hreleased := lawful_released h
  unfold onward
  by_cases he : s.mgmt.engine = .running
  · have hopens : opens s = s.catchUpSlots (released s).store.hLow := if_pos he
    have hspan := fun g => (mem_span_iff (released s) g).1
    rw [catchUp_running (s := released s) he, offer_offer (hreleased.catchAll hspan he).wfRing,
      hreleased.catchAll_eq hspan he (StreamState.span_nodup _), catchUpSlots_eq h, hopens]
  · have hopens : opens s = [] := if_neg he
    rw [catchUp_idle (s := released s) he, hopens]
    rfl

theorem onward_only (h : Lawful True C A s) : StoreOnly s (onward s) := by
  rw [onward_eq h]
  exact ((released_only s).trans (openAll_only _ _)).trans (offer_only _)

theorem onward_ringOnly (h : Lawful True C A s) : RingOnly (released s) (onward s) := by
  rw [onward_eq h]
  exact (ringOnly_openAll _ _).trans (ringOnly_offer _)

theorem onward_low (h : Lawful True C A s) : (onward s).store.hLow = (released s).store.hLow :=
  low_of_ringOnly (onward_ringOnly h)

/-! ### The slots after the release -/

/-- A record that is offered where it is slot H_low's and complete or closed. -/
def offeredRecord (x : Slot) (low g : Nat) : Slot :=
  { x with state := if g = low ∧ (x.state = .complete ∨ x.state = .closed) then .emitting else x.state }

theorem slot_offer_eq (hw : Tbl.wf Slot.empty s.store.ring = true) (g : Nat) :
    s.offer.slot g = offeredRecord (s.slot g) s.store.hLow g := by
  rw [slot_offer hw]
  unfold offeredRecord
  split <;> rfl

theorem offeredRecord_free (x : Slot) (low g : Nat) : (offeredRecord x low g).state = .free ↔ x.state = .free := by
  unfold offeredRecord
  dsimp only
  split
  · next hh => rcases hh.2 with hx | hx <;> rw [hx] <;> decide
  · rfl

theorem offeredRecord_opened {x : Slot} {low : Nat} (h : (offeredRecord x low g).state = .opened) : x.state = .opened := by
  unfold offeredRecord at h
  dsimp only at h
  split at h
  · cases h
  · exact h

/-- The slots that were held above the freed one stand, but for the offer. -/
theorem onward_held (h : Lawful True C A s) (hg : s.store.hLow < g) (hs : (s.slot g).state ≠ .free) :
    (onward s).slot g = offeredRecord (s.slot g) (onward s).store.hLow g := by
  have hreleased := lawful_released h
  have hslot : (released s).slot g = s.slot g := slot_freed h (by omega)
  have hout : g ∉ opens s := fun hmem => hs (by rw [← hslot]; exact (openable_opens h g hmem).free)
  have hopened := (hreleased.slot_openAll (openable_opens h) (opens_nodup s)).1 g hout
  have hlow := low_of_ringOnly (ringOnly_openAll (released s) (opens s))
  have hlawful := hreleased.openAll (openable_opens h) (opens_nodup s)
  rw [onward_low h, onward_eq h, slot_offer_eq hlawful.wfRing, hopened, hslot, hlow]

/-- Of the slots that were FREE those opened are held, each with its deadline to come where it is OPEN. -/
theorem onward_free (h : Lawful True C A s) (hw : s.composer.working = some w) (hs : (s.slot g).state = .free) :
    (((onward s).slot g).state ≠ .free ↔ g ∈ opens s)
      ∧ (((onward s).slot g).state = .opened → s.tru.now < ((onward s).slot g).deadline) := by
  have hreleased := lawful_released h
  have hne : g ≠ s.store.hLow := by
    rintro rfl
    rw [h.slot_working hw] at hs
    cases hs
  have hslot : (released s).slot g = s.slot g := slot_freed h hne
  have hlawful := hreleased.openAll (openable_opens h) (opens_nodup s)
  obtain ⟨hstands, hopens⟩ := hreleased.slot_openAll (openable_opens h) (opens_nodup s)
  rw [onward_eq h, slot_offer_eq hlawful.wfRing, ne_eq, offeredRecord_free]
  by_cases hmem : g ∈ opens s
  · obtain ⟨hheld, hdeadline⟩ := hopens g hmem
    exact ⟨iff_of_true hheld hmem, fun ho => hdeadline (offeredRecord_opened ho)⟩
  · have hfree : (((opens s).foldl State.openSlotNow (released s)).slot g).state = .free := by
      rw [hstands g hmem, hslot]
      exact hs
    exact ⟨iff_of_false (not_not.2 hfree) hmem, fun ho => (nomatch hfree.symm.trans (offeredRecord_opened ho))⟩

/-! ### What holds of the store after the release (R102) -/

/-- H_low's slot is released from s: t's free list, counts and H_low, and what t offers. -/
structure Released (s t : State) : Prop where
  freeList : t.store.freeList = (s.slot s.store.hLow).cells.reverse ++ s.store.freeList
  pool : t.store.pool = s.store.pool
  composed : t.store.composed = satInc s.store.composed
  floor : t.store.floor = s.store.floor
  rises : s.store.hLow < t.store.hLow
  bare : t.store.hLow ≤ max (s.store.hLow + 1) s.store.floor
  held : ∀ g, s.store.hLow < g → (s.slot g).state ≠ .free → t.store.hLow ≤ g ∧ (t.slot g).state ≠ .free
  stops : t.store.hLow = max (s.store.hLow + 1) s.store.floor ∨ (s.slot t.store.hLow).state ≠ .free
  low : (t.slot t.store.hLow).state ≠ .complete ∧ (t.slot t.store.hLow).state ≠ .closed
  working : t.composer.working = none
    ∨ (t.composer.working = some { g := t.store.hLow, next := 0 } ∧ (t.slot t.store.hLow).state = .emitting)

/-- Only the store and the composer's slot are of matter to it. -/
theorem Released.congr {b y : State} (h : Released b y) (hs : s.store = b.store) (ht : t.store = y.store)
    (hw : t.composer.working = y.composer.working) : Released s t := by
  have hslot : s.slot = b.slot := funext (slot_congr (congrArg Store.ring hs))
  have hslot' : t.slot = y.slot := funext (slot_congr (congrArg Store.ring ht))
  obtain ⟨h1, h2, h3, h4, h5, h6, h7, h8, h9, h10⟩ := h
  constructor <;> simp only [hslot, hslot', hs, ht, hw] <;> assumption

/-- The composer takes up the new slot H_low or nothing. -/
theorem working_onward (h : Lawful True C A s) : (onward s).composer.working = none
    ∨ ((onward s).composer.working = some { g := (onward s).store.hLow, next := 0 }
      ∧ ((onward s).slot (onward s).store.hLow).state = .emitting) := by
  have hfresh : Fresh (onward s) := by
    rw [onward_eq h]
    exact (Fresh.openAll (s := released s) nofun _).offer
  cases hw : (onward s).composer.working with
  | none => exact .inl rfl
  | some w =>
    obtain ⟨hg, -⟩ := (lawful_onward h).working w hw
    refine .inr ⟨?_, (lawful_onward h).slot_working hw⟩
    rw [← hg, ← hfresh w hw]

theorem released_onward (h : Lawful True C A s) : Released s (onward s) := by
  have hring := onward_ringOnly h
  have hlow := onward_low h
  have hnext : (released s).store.hLow = (freed s).nextLow := rfl
  have hrises : s.store.hLow < (released s).store.hLow := low_lt_nextLow (freed s)
  refine ⟨?_, by rw [hring]; rfl, by rw [hring]; rfl, by rw [hring]; rfl, by rw [hlow]; exact hrises, ?_, fun g hg hs => ⟨?_, ?_⟩,
    ?_, (lawful_onward h).offered_slot, working_onward h⟩
  · rw [hring]
    exact freed_freeList s
  · rw [hlow]
    exact TimeStep.nextLow_le_bare (freed s)
  · have hslot : (freed s).slot g = s.slot g := slot_freed h (by omega)
    obtain ⟨hl, hh, -⟩ := h.held hs
    rw [hlow]
    exact TimeStep.nextLow_le_held ((mem_span_iff (freed s) g).2 ⟨hl, hh⟩) hg (by rw [hslot]; exact hs)
  · rw [onward_held h hg hs, ne_eq, offeredRecord_free]
    exact hs
  · rw [hlow]
    refine (TimeStep.nextLow_eq_or_held (freed s)).imp id fun hheld => ?_
    rw [hnext, ← slot_freed h (by rw [← hnext]; omega)]
    exact hheld

/-! ### The batches leave and the drain is judged (R135, R164) -/

/-- The composer's frames have entered the queue. -/
def handed (s : State) : State :=
  { s with
    composer := { s.composer with outbound := [] }
    egress := enterAll s.tru.osc s.composer.outbound s.egress }

variable {fs : List OutFrame}

/-- While the unit is IDLE with no answer formed, frames that end no flush enter the queue as long as it has room. -/
theorem settleSteps_outbound (n : Nat) (hx : s.mgmt.exec = .idle ∧ s.mgmt.formed = []) (hl : s.egress.link ≠ .ready)
    (ho : s.composer.outbound = fs) (hf : ∀ f ∈ fs, f.endsFlush = false) (hr : s.egress.queue.length + fs.length ≤ 32) :
    State.settleSteps (fs.length + n) s = State.settleSteps n (handed s) := by
  induction fs generalizing s with
  | nil =>
    have hsame : handed s = s := by
      have hcomposer : { s.composer with outbound := [] } = s.composer := by rw [← ho]
      unfold handed
      rw [ho, hcomposer]
      rfl
    rw [hsame, List.length_nil, Nat.zero_add]
  | cons f fs ih =>
    rw [List.length_cons] at hr
    obtain ⟨hf0, hrest⟩ := List.forall_mem_cons.1 hf
    have hroom : s.egress.queue.length < 32 := by omega
    have hnext := ih (s := s.takeOutbound f fs)
    rw [takeOutbound_room hroom hf0] at hnext
    rw [List.length_cons, Nat.add_right_comm, settleSteps_succ _ (egressStep_takes (.inr hx) hl ho hroom),
      takeOutbound_room hroom hf0, hnext hx hl rfl hrest]
    · unfold handed
      rw [ho]
      rfl
    · change (s.egress.queue ++ [_]).length + fs.length ≤ 32
      rw [List.length_append, List.length_singleton]
      omega

theorem settle_handed (hx : s.mgmt.exec = .idle ∧ s.mgmt.formed = []) (hl : s.egress.link ≠ .ready)
    (hf : ∀ f ∈ s.composer.outbound, f.endsFlush = false)
    (hr : s.egress.queue.length + s.composer.outbound.length ≤ 32) : s.settle = handed s := by
  obtain ⟨hidle, hformed⟩ := hx
  have hlink : (handed s).egress.link ≠ .ready := by
    unfold handed
    dsimp only
    rw [enterAll_eq]
    exact hl
  have hrest : (handed s).settle = handed s :=
    settle_rest (.inl hlink) rfl (.inl hformed) fun a ha => nomatch hidle.symm.trans ha
  have hfuel : 2 * s.composer.outbound.length + s.mgmt.formed.length + 8 =
      s.composer.outbound.length + (s.composer.outbound.length + 8) := by
    rw [hformed, List.length_nil]
    omega
  unfold State.settle
  rw [hfuel, settleSteps_outbound _ ⟨hidle, hformed⟩ hl rfl hf hr]
  exact settleSteps_rest _ (egressStep_rest (.inl hlink) rfl (.inl hformed) fun a ha => nomatch hidle.symm.trans ha)

/-- A drain that ends before the batches leave ends once, and one that they keep from its end ends after them. -/
theorem settleAndJudge_judged (hx : s.mgmt.exec = .idle ∧ s.mgmt.formed = []) (hl : s.egress.link ≠ .ready)
    (hf : ∀ f ∈ s.composer.outbound, f.endsFlush = false)
    (hr : s.egress.queue.length + s.composer.outbound.length ≤ 32) :
    s.judgeDrain.settleAndJudge = (handed s).judgeDrain := by
  have hsettle := settle_handed hx hl hf hr
  unfold State.settleAndJudge
  by_cases hend : s.mgmt.engine = .draining ∧ s.ringFree = true ∧ s.composerEmpty = true
  · have hout : s.composer.outbound = [] := by
      have hempty := hend.2.2
      unfold State.composerEmpty at hempty
      rw [Bool.and_eq_true] at hempty
      exact List.isEmpty_iff.1 hempty.2
    have hrest : ∀ e, (s.setEngine e).settle = s.setEngine e := fun e =>
      settle_rest (.inl hl) hout (.inl hx.2) fun a ha => nomatch hx.1.symm.trans ha
    have hsame : handed s = s :=
      hsettle.symm.trans (settle_rest (.inl hl) hout (.inl hx.2) fun a ha => nomatch hx.1.symm.trans ha)
    have hpaused : s.judgeDrain = s.setEngine .paused := if_pos hend
    rw [hsame, hpaused, hrest, ← hpaused, judgeDrain_judgeDrain]
  · rw [judgeDrain_rest hend, hsettle]

/-- No answer is on its way, nothing stands on the outbound list, and the link asks for no frame. -/
structure Still (s : State) : Prop where
  exec : s.mgmt.exec = .idle
  formed : s.mgmt.formed = []
  outbound : s.composer.outbound = []
  link : s.egress.link ≠ .ready

theorem Still.settle (h : Still s) : s.settle = s :=
  settle_rest (.inl h.link) h.outbound (.inl h.formed) fun _ ha => nomatch h.exec.symm.trans ha

/-- A drain does not end while the composer has a slot, and nothing else is due. -/
theorem Still.settleAndJudge_working (h : Still s) (hw : s.composer.working = some w) : s.settleAndJudge = s := by
  unfold State.settleAndJudge
  rw [h.settle]
  refine judgeDrain_rest fun hend => ?_
  have hempty := hend.2.2
  unfold State.composerEmpty at hempty
  rw [hw] at hempty
  cases hempty

/-- The eighth profile considered, the composition step is the composition-done notice (R128). -/
theorem composeStep_done (h : Still s) (hw : s.composer.working = some w) (hn : w.next = 8) :
    s.composeStep = s.composed.settleAndJudge := by
  have hconsider : s.considerNext w = s := if_neg (by omega)
  have hfinish : s.finishIfComposed = s.composed := by
    unfold State.finishIfComposed
    rw [hw]
    exact if_pos ⟨by omega, h.outbound⟩
  unfold State.composeStep
  rw [hw]
  dsimp only
  rw [if_pos h.outbound, hconsider, h.settleAndJudge_working hw, hfinish]

/-! ### The notice from the state in which it falls -/

/-- In DRAINING the sets held are made batches before the slot is released (R135). -/
def readied (s : State) : State := if s.mgmt.engine = .draining then s.formAllBatches else s

theorem composed_eq (s : State) : s.composed = (onward (readied s)).judgeDrain := by
  unfold State.composed readied
  dsimp only
  exact release_eq _

theorem readied_eq (hcan : s.canonical) :
    ∃ c, c.working = s.composer.working ∧ readied s = { s with composer := c } := by
  obtain ⟨-, -, -, -, -, -, -, hholding, -⟩ := hcan
  obtain ⟨h, -, hformed⟩ := formAllBatches_handedOn (w := s) hholding rfl rfl
  unfold readied
  split
  · exact ⟨handedOn s h, rfl, hformed⟩
  · exact ⟨s.composer, rfl, rfl⟩

theorem Lawful.withComposer (h : Lawful True C A s) {c : Composer} (hc : c.working = s.composer.working) :
    Lawful True C A { s with composer := c } := h.congr rfl rfl rfl rfl hc rfl (.refl _)

/-- After the notice, the store and the composer's slot are as the release leaves them. -/
theorem composed_aside (s : State) : s.composed.settleAndJudge.aside = (onward (readied s)).aside := by
  rw [settleAndJudge_aside, composed_eq, judgeDrain_aside]

theorem released_composed (hcan : s.canonical) (h : Lawful True C A s) : Released s s.composed.settleAndJudge := by
  obtain ⟨c, hc, hready⟩ := readied_eq hcan
  have hreleased := released_onward (h.withComposer hc)
  have haside := composed_aside s
  rw [hready] at haside
  exact hreleased.congr rfl (aside_store haside) (aside_working haside)

/-! ### In RUNNING -/

/-- Nothing is due after the release, and no drain is judged. -/
theorem composed_running (h : Lawful True C A s) (hstill : Still s) (he : s.mgmt.engine = .running) :
    s.composed.settleAndJudge = onward s := by
  have honly := onward_only h
  have hready : readied s = s := if_neg (by rw [he]; decide)
  have hengine : (onward s).mgmt.engine ≠ .draining := by
    rw [honly.mgmt, he]
    decide
  have hjudge : (onward s).judgeDrain = onward s := judgeDrain_rest fun hend => hengine hend.1
  have hnow : Still (onward s) :=
    ⟨by rw [honly.mgmt]; exact hstill.exec, by rw [honly.mgmt]; exact hstill.formed,
      by rw [honly.composer]; exact hstill.outbound, by rw [honly.egress]; exact hstill.link⟩
  unfold State.settleAndJudge
  rw [composed_eq, hready, hjudge, hnow.settle, hjudge]

/-- The release in RUNNING, written out. -/
theorem onward_running (h : Lawful True C A s) (he : s.mgmt.engine = .running) :
    onward s = ((s.catchUpSlots (onward s).store.hLow).foldl (fun (u : State) g => (u.openSlot g).expireIfDue g)
      { s.setSlot s.store.hLow Slot.empty with
        store := { (s.setSlot s.store.hLow Slot.empty).store with
          freeList := (s.slot s.store.hLow).cells.reverse ++ s.store.freeList
          composed := satInc s.store.composed, hLow := (onward s).store.hLow }
        composer := { s.composer with working := none } }).offer := by
  have hopens : opens s = s.catchUpSlots (released s).store.hLow := if_pos he
  have heq := onward_eq h
  rw [hopens] at heq
  rw [onward_low h, ← freed_freeList]
  exact heq

/-! ### In DRAINING -/

/-- In DRAINING, with room for the batches, the release is followed by the batches and then by the drain's end. -/
theorem composed_draining (hcan : s.canonical) (h : Lawful True C A s) (hstill : Still s) (he : s.mgmt.engine = .draining)
    (hroom : s.egress.queue.length + s.heldBatches.length ≤ 32) :
    ∃ l, HeldTaken s l ∧ s.composed.settleAndJudge = (handed (onward { s with composer := handedOn s l })).judgeDrain := by
  obtain ⟨-, -, -, -, -, -, -, hholding, -⟩ := hcan
  obtain ⟨l, htaken, hformed⟩ := formAllBatches_handedOn (w := s) hholding rfl rfl
  have hready : readied s = { s with composer := handedOn s l } := (if_pos he).trans hformed
  have honly := onward_only (h.withComposer (c := handedOn s l) rfl)
  have hout : (onward { s with composer := handedOn s l }).composer.outbound = s.heldBatches := by
    rw [honly.composer]
    change s.composer.outbound ++ s.heldBatches = _
    rw [hstill.outbound, List.nil_append]
  refine ⟨l, htaken, ?_⟩
  rw [composed_eq, hready]
  refine settleAndJudge_judged ?_ ?_ ?_ ?_
  · rw [honly.mgmt]
    exact ⟨hstill.exec, hstill.formed⟩
  · rw [honly.egress]
    exact hstill.link
  · rw [hout]
    exact heldBatches_unmarked s
  · rw [hout, honly.egress]
    exact hroom

/-- Outside RUNNING the release opens no slot. -/
theorem opens_idle (he : s.mgmt.engine ≠ .running) : opens s = [] := if_neg he

/-- Outside RUNNING the release leaves the contexts and the window. -/
theorem onward_idle (he : s.mgmt.engine ≠ .running) :
    (onward s).ctxs = s.ctxs ∧ (onward s).window = s.window := by
  unfold onward
  rw [catchUp_idle (s := released s) he]
  unfold State.offer
  dsimp only
  split <;> exact ⟨rfl, rfl⟩

/-- The judgement changes the engine state alone. -/
theorem judgeDrain_only (s : State) : ∃ e, s.judgeDrain = s.setEngine e := by
  unfold State.judgeDrain
  split
  · exact ⟨.paused, rfl⟩
  · exact ⟨s.mgmt.engine, rfl⟩

variable {y : State} {l : Tbl Holding}

/-- Once handed over, the batches stand in the queue, and the sets held are gone. -/
theorem batchesSent_handed (honly : StoreOnly { s with composer := handedOn s l } y) (hstill : Still s)
    (htaken : HeldTaken s l) : BatchesSent s (handed y).judgeDrain [] := by
  obtain ⟨e, hjudged⟩ := judgeDrain_only (handed y)
  have hout : y.composer.outbound = s.heldBatches := by
    rw [honly.composer]
    change s.composer.outbound ++ s.heldBatches = _
    rw [hstill.outbound, List.nil_append]
  rw [hjudged]
  refine ⟨?_, rfl, fun n hn => ?_, ?_⟩
  · change (enterAll y.tru.osc y.composer.outbound y.egress).queue = _
    rw [enterAll_eq, hout, honly.egress, honly.tru, List.append_nil]
  · rw [← htaken.holding n hn]
    change Tbl.get Holding.empty y.composer.holding n = _
    rw [honly.composer]
    rfl
  · change y.composer.counts = _
    rw [honly.composer]
    rfl

/-- Once the batches have left, the drain ends exactly where the ring is FREE (R164). -/
theorem engine_handed (honly : StoreOnly { s with composer := handedOn s l } y) (h : Lawful True C A y)
    (he : s.mgmt.engine = .draining) (htaken : HeldTaken s l) :
    (handed y).judgeDrain.mgmt.engine = if (handed y).judgeDrain.ringFree = true then .paused else .draining := by
  have hengine : (handed y).mgmt.engine = .draining := by
    change y.mgmt.engine = _
    rw [honly.mgmt]
    exact he
  have hempty : (handed y).holdingEmpty = true := (Flush.holdingEmpty_iff _).2 fun n hn => by
    have hholding : (handed y).holding n = Tbl.get Holding.empty l n := by
      change Tbl.get Holding.empty y.composer.holding n = _
      rw [honly.composer]
      rfl
    rw [hholding, htaken.holding n hn]
    split
    · assumption
    · rfl
  have hend : (handed y).ringFree = true ∧ (handed y).composerEmpty = true ↔ y.ringFree = true := by
    refine and_iff_left_of_imp fun hfree => ?_
    have hidle : (handed y).composer.working = none := by
      change y.composer.working = none
      cases hw : y.composer.working with
      | none => rfl
      | some w =>
        have hslot := h.slot_working hw
        rw [slot_of_ringFree (s := y) hfree] at hslot
        cases hslot
    unfold State.composerEmpty
    rw [hidle, hempty]
    rfl
  rw [judgeDrain_eq hengine, if_congr hend rfl rfl]
  rfl

theorem handed_judged_aside (y : State) : (handed y).judgeDrain.aside = y.aside := judgeDrain_aside (handed y)

/-! ### The statement -/

theorem composerEmpty_iff (s : State) : s.composerEmpty = true ↔
    s.composer.working = none ∧ (∀ n, n < 8 → (s.holding n).sets = []) ∧ s.composer.outbound = [] := by
  unfold State.composerEmpty
  rw [Bool.and_eq_true, Bool.and_eq_true, Option.isNone_iff_eq_none, List.isEmpty_iff, Flush.holdingEmpty_iff, and_assoc]

/-- Settles O31: what the release does is said of the state before the batches are sent, and the batches and the drain's end
change nothing of the store. -/
theorem compositionReleasesSlot : Obligations.CompositionReleasesSlot := by
  refine ⟨fun s => ⟨ringFree_iff s, Flush.holdingEmpty_iff s, composerEmpty_iff s⟩, ?_⟩
  intro s w hw hidle hformed hout hlink hcan hring
  have hlawful : Lawful True False False s := lawful_of hcan hring False.elim False.elim
  have hstill : Still s := ⟨hidle, hformed, hout, hlink⟩
  have hr := released_composed hcan hlawful
  refine ⟨fun hn => congrArg Host.Outcome.next (composeStep_done hstill hw hn), hr.freeList, hr.pool, hr.composed, hr.floor,
    hr.rises, hr.bare, hr.held, hr.stops, hr.low.1, hr.low.2, hr.working, fun he => ?_, fun he hroom => ?_⟩
  case refine_1 =>
    have hopens : opens s = s.catchUpSlots (onward s).store.hLow := by
      rw [onward_low hlawful]
      exact if_pos he
    have hfree := fun g => onward_free (g := g) hlawful hw
    rw [composed_running hlawful hstill he]
    rw [hopens] at hfree
    exact ⟨onward_running hlawful he, StreamState.storeOnly_eq (onward_only hlawful),
      fun g hg hs => onward_held hlawful hg hs, mem_catchUpSlots s _, hfree⟩
  case refine_2 =>
    obtain ⟨l, htaken, hcomposed⟩ := composed_draining hcan hlawful hstill he hroom
    have hkept : Lawful True False False { s with composer := handedOn s l } := hlawful.withComposer rfl
    have hstopped : s.mgmt.engine ≠ .running := by
      rw [he]
      decide
    have haside : s.composed.settleAndJudge.aside = (onward { s with composer := handedOn s l }).aside := by
      rw [hcomposed, handed_judged_aside]
    have hslot := slot_congr (congrArg Store.ring (aside_store haside))
    obtain ⟨hctxs, hwindow⟩ := onward_idle (s := { s with composer := handedOn s l }) hstopped
    refine ⟨?_, (aside_ctxs haside).trans hctxs, (aside_window haside).trans hwindow, fun g hs => ?_, fun g hg hs => ?_, ?_⟩
    · rw [hcomposed]
      exact batchesSent_handed (onward_only hkept) hstill htaken
    · have hopened := (onward_free hkept hw hs).1
      rw [opens_idle (s := { s with composer := handedOn s l }) hstopped] at hopened
      rw [hslot]
      exact not_not.1 fun hh => nomatch hopened.1 hh
    · rw [hslot, aside_store haside]
      exact onward_held hkept hg hs
    · rw [hcomposed]
      exact engine_handed (onward_only hkept) (lawful_onward hkept) he htaken

end Sys2Proof.Proofs.RingKept
end

/-! ## The expiry of a deadline (O26) -/

section
namespace Sys2Proof.Proofs.RingKept
open Sys2Proof Sys2Proof.Machine Sys2Proof.Laws

variable {s : State} {g : Nat}

theorem exec_deadlineExpiry (s : State) (g : Nat) : exec (.deadlineExpiry g) s =
    .next (if (s.slot g).state = .opened then (s.waitLocal (s.slot g).deadline).expire g else s) := rfl

/-- An OPEN slot that is not whole leaves with cause DEADLINE (R98). -/
theorem expire_unfinished (ho : (s.slot g).state = .opened) (hn : ¬((s.slot g).missing = 0 ∧ s.instant g ≤ s.tru.now)) :
    s.expire g = (s.leaveOpen g .deadline).offerIfLow g := by
  have hstays : s.evaluate g = s := by
    refine evaluate_stays (.inr ?_)
    by_cases hm : (s.slot g).missing = 0
    · exact .inr (Nat.lt_of_not_le fun hi => hn ⟨hm, hi⟩)
    · exact .inl hm
  unfold State.expire
  rw [hstays]
  exact if_pos ho

/-- A whole slot completes, and its deadline then finds it OPEN no longer (R97, R98). -/
theorem expire_whole (hw : Tbl.wf Slot.empty s.store.ring = true) (ho : (s.slot g).state = .opened)
    (hm : (s.slot g).missing = 0) (hi : s.instant g ≤ s.tru.now) : s.expire g = (s.leaveOpen g .complete).offerIfLow g := by
  have hcompletes := evaluate_open ho hm hi
  have hleft : ((s.evaluate g).slot g).state ≠ .opened := by
    rw [hcompletes, slot_leaveAndOffer hw ho, if_pos rfl]
    exact (leftRecord_state s g .complete).2
  unfold State.expire
  rw [if_neg hleft, hcompletes]

/-- Local time stands at the deadline once it was waited for. -/
theorem waitLocal_reaches (hp : s.tru.slewPhase < 10000) (point : Nat) : point ≤ (s.waitLocal point).tru.now := by
  have hreach : s.tru.now + (point - s.tru.now) ≤ (s.waitLocal point).tru.now := Slew.timeFor_reaches hp _
  omega

/-- There is nothing to wait for at a point that has passed. -/
theorem waitLocal_passed {point : Nat} (hpast : point ≤ s.tru.now) (hsettled : TimeOfDay.Settled s.tru) :
    s.waitLocal point = s := by
  have hnone : s.tru.timeFor (point - s.tru.now) = 0 := by
    rw [Nat.sub_eq_zero_of_le hpast]
    unfold Tru.timeFor
    exact if_pos rfl
  unfold State.waitLocal State.elapse
  rw [hnone, TimeOfDay.elapse_zero hsettled]

/-- Settles O26: an expiry is evaluation and then the leaving of what is still OPEN, by whether the slot is whole. -/
theorem deadlineExpiryCloses : Obligations.DeadlineExpiryCloses := by
  intro s g hcan
  have hw : Tbl.wf Slot.empty s.store.ring = true := hcan.2.2.2.1
  have hexec : (s.slot g).state = .opened →
      exec (.deadlineExpiry g) s = .next ((s.waitLocal (s.slot g).deadline).expire g) := fun ho => by
    rw [exec_deadlineExpiry, if_pos ho]
  have hdue : (s.slot g).state = .opened → s.tru.slewPhase < 10000 →
      exec (.deadlineExpiry g) s = .next ((s.waitLocal (s.slot g).deadline).expireIfDue g) := fun ho hp => by
    rw [hexec ho]
    exact congrArg _ (if_pos ⟨ho, waitLocal_reaches hp _⟩).symm
  refine ⟨rfl, fun ho => ?_, fun ho hn => ?_, fun ho hwhole => ?_, hdue, fun ho hpast hp hsettled => ?_, ?_⟩
  · rw [exec_deadlineExpiry, if_neg ho]
  · rw [hexec ho, expire_unfinished (s := s.waitLocal (s.slot g).deadline) ho hn]
  · rw [hexec ho, expire_whole (s := s.waitLocal (s.slot g).deadline) hw ho hwhole.1 hwhole.2]
  · rw [hdue ho hp, waitLocal_passed hpast ⟨hp, hsettled⟩]
  · rintro (ho | hfuture)
    · exact Accepting.expireIfDue_unopened ho
    · exact if_neg fun hh => Nat.not_le_of_lt hfuture hh.2

end Sys2Proof.Proofs.RingKept
end

/-! ## The wait window: the writes of its parameters, the applied window and the evaluation (O4, O28) -/

section
namespace Sys2Proof.Proofs.WaitWindow
open Sys2Proof Sys2Proof.Machine Sys2Proof.Laws Sys2Proof.Proofs.ParamWrites
open Sys2Proof.Proofs.Grid (clampNat_eq)

/-! ### Writes of the window's parameters (R112, R113, R159) -/

/-- An enumerated parameter whose values stand for themselves: refused outside its set, else written by its effect k. -/
theorem completes_member {s : State} {r : Request} {cls : Nat} {c : Instr} {i : Nat} {v : Word} {values : List Nat}
    {k : Nat → WriteResult} (hc : exec c s = .next (s.takeDirective (paramDirective r i v))) (hi : i ≤ 22)
    (hcan : s.canRun r cls) (hp : (s.access 0).permits cls = true)
    (hw : (s.setExec .executing).writeParam i v.toNat = enumerated (memberOf values v.toNat) k) :
    (v.toNat ∉ values → Completes s c r .writeEntries s (refusedEntry .invalidValue))
    ∧ (∀ u b, k v.toNat = .written (u.setExec .executing) b → v.toNat ∈ values →
      Completes s c r .writeEntries u (wrote b)) := by
  obtain ⟨hfail, hwrite⟩ := completes_param hc hi hcan hp
  refine ⟨fun hv => hfail _ ?_, fun u b hk hv => hwrite _ _ ?_⟩
  · rw [hw, memberOf_not_mem hv]
    rfl
  · rw [hw, memberOf_mem hv]
    exact hk

theorem mem_zero_one {v : Nat} : v ∈ [0, 1] ↔ v < 2 := by
  simp only [List.mem_cons, List.not_mem_nil, or_false]
  omega

/-- Settles O4: each limit is tested against the other one, and each enumerated value against its set. -/
theorem windowParameterWrites : Obligations.WindowParameterWrites := by
  intro s r cls v hcan hp x b
  obtain ⟨hfailMin, hwriteMin⟩ :=
    completes_param (c := .writeWindowLimits r .wMin v) (i := 7) (v := v) rfl (by decide) hcan hp
  obtain ⟨hfailMax, hwriteMax⟩ :=
    completes_param (c := .writeWindowLimits r .wMax v) (i := 8) (v := v) rfl (by decide) hcan hp
  obtain ⟨-, hwriteW0⟩ := completes_param (c := .writeW0 r v) (i := 9) (v := v) rfl (by decide) hcan hp
  obtain ⟨-, hwriteWq⟩ := completes_param (c := .writeWq r v) (i := 14) (v := v) rfl (by decide) hcan hp
  obtain ⟨hnoAdapt, hadapt⟩ :=
    completes_member (c := .writeAdaptation r v) rfl (by decide) hcan hp (writeParam_adaptation _ _)
  obtain ⟨hnoTheta, htheta⟩ :=
    completes_member (c := .writeEngineParameter r 11 v) rfl (by decide) hcan hp (writeParam_theta _ _)
  obtain ⟨hnoUp, hup⟩ :=
    completes_member (c := .writeEngineParameter r 12 v) rfl (by decide) hcan hp (writeParam_upStep _ _)
  obtain ⟨hnoDown, hdown⟩ :=
    completes_member (c := .writeEngineParameter r 13 v) rfl (by decide) hcan hp (writeParam_downStep _ _)
  refine ⟨fun h => hfailMin _ ?_, fun h => hwriteMin _ _ ?_, fun h => hfailMax _ ?_, fun h => hwriteMax _ _ ?_,
    hwriteW0 _ _ ?_, fun h => hwriteWq _ _ ?_, fun h => hnoAdapt (mt mem_zero_one.1 (Nat.not_lt.2 h)),
    fun h => hadapt _ _ rfl (mem_zero_one.2 h), fun h => ⟨hnoTheta h, hnoDown h⟩,
    fun h => ⟨htheta _ _ rfl h, hdown _ _ rfl h⟩, hnoUp, hup _ _ rfl⟩
  · rw [writeParam_wMin, numeric_clamp (by decide)]
    exact if_pos h
  · rw [writeParam_wMin, numeric_clamp (by decide)]
    exact if_neg (Nat.not_lt.2 h)
  · rw [writeParam_wMax, numeric_clamp (by decide)]
    exact if_pos h
  · rw [writeParam_wMax, numeric_clamp (by decide)]
    exact if_neg (Nat.not_lt.2 h)
  · rw [writeParam_w0, numeric_clamp (by decide)]
    rfl
  · have hlimits : 16 * s.params.wMin ≤ 16 * s.params.wMax := Nat.mul_le_mul_left 16 h
    rw [← clampNat_eq hlimits]
    exact (writeParam_wq _ _).trans (numeric_clamp hlimits _ _)

/-! ### The fractional pattern (R114) -/

/-- The window of opening j is what floor(j W_q / 16) grows by from j to j + 1, so the windows of a run telescope. -/
theorem fractionalWindow_step (wq j : Nat) : j * wq / 16 + fractionalWindow wq j = (j + 1) * wq / 16 := by
  have hsplit : ∀ n, n * wq / 16 = n * (wq / 16) + n * (wq % 16) / 16 := fun n => by
    conv_lhs => rw [← Nat.div_add_mod wq 16, Nat.mul_add, Nat.mul_left_comm, Nat.mul_add_div (by decide)]
  have hf : wq % 16 < 16 := Nat.mod_lt _ (by decide)
  have hnext : (j + 1) * (wq % 16) = j * (wq % 16) + wq % 16 := Nat.succ_mul ..
  have hquot : (j + 1) * (wq / 16) = j * (wq / 16) + wq / 16 := Nat.succ_mul ..
  rw [hsplit j, hsplit (j + 1), hquot]
  unfold fractionalWindow
  dsimp only
  rw [hnext]
  split_ifs <;> omega

theorem sum_fractionalWindow (wq n : Nat) : ((List.range n).map (fractionalWindow wq)).sum = n * wq / 16 := by
  induction n with
  | zero => simp
  | succ n ih => rw [List.sum_range_succ, ih, fractionalWindow_step]

theorem fractionalWindow_extra {wq j : Nat} (h : j * (wq % 16) / 16 < (j + 1) * (wq % 16) / 16) :
    fractionalWindow wq j = wq / 16 + 1 := congrArg (wq / 16 + ·) (if_pos h)

theorem fractionalWindow_plain {wq j : Nat} (h : (j + 1) * (wq % 16) / 16 ≤ j * (wq % 16) / 16) :
    fractionalWindow wq j = wq / 16 := congrArg (wq / 16 + ·) (if_neg (Nat.not_lt.2 h))

/-! ### The applied window of an opening (R114, R115) -/

theorem opening_overridden (p : Params) (w : Window) :
    Window.opening p true w =
      (p.wMin, { w with lastApplied := p.wMin
                        counts := { w.counts with overridden := satInc w.counts.overridden } }) := rfl

theorem opening_fixed {p : Params} (ha : p.adaptation = false) (w : Window) :
    Window.opening p false w = (p.w0, { w with lastApplied := p.w0 }) := by
  simp [Window.opening, ha]

theorem opening_adaptive {p : Params} (ha : p.adaptation = true) (w : Window) :
    Window.opening p false w =
      (fractionalWindow w.wq w.j,
        { w with lastApplied := fractionalWindow w.wq w.j, j := (w.j + 1) % 16 }) := by
  simp [Window.opening, ha]

/-- The opening counter runs from 0 to 15. -/
theorem wrap_succ (j : Nat) : (if j = 15 then 0 else (j + 1) % 16) = (j + 1) % 16 := by
  split_ifs with h
  · rw [h]
  · rfl

/-! ### The closing notice and the evaluation (R117, R118) -/

theorem closingNotice_counts {p : Params} {n : Nat} {w : Window} (h : w.closings < 15) :
    Window.closingNotice p n w = { w with closings := w.closings + 1 } := if_neg (by omega)

theorem closingNotice_evaluates {p : Params} {n : Nat} {w : Window} (h : w.closings = 15) :
    Window.closingNotice p n w = Window.evaluate p n w := if_pos (by omega)

theorem judge_fixed {p : Params} (n : Nat) (w : Window) (ha : p.adaptation = false) :
    Window.judge p n w = w := if_pos ha

theorem clampWq_eq {p : Params} (h : p.wMin ≤ p.wMax) (v : Nat) :
    clampWq p v = max (16 * p.wMin) (min v (16 * p.wMax)) := clampNat_eq (Nat.mul_le_mul_left 16 h) v

section
variable {p : Params} {n : Nat} {w : Window} (ha : p.adaptation = true)
include ha

theorem judge_idle (ht : w.total = 0) :
    Window.judge p n w = { w with counts := { w.counts with idle := satInc w.counts.idle } } := by
  simp [Window.judge, ha, ht]

theorem judge_raises (ht : 0 < w.total) (hl : p.theta * w.total ≤ 16 * w.late) (hn : p.wm1 ≤ n) :
    Window.judge p n w =
      { w with wq := clampWq p (w.wq + p.upStep), counts := { w.counts with raises := satInc w.counts.raises } } := by
  simp [Window.judge, ha, ht.ne', hl, Nat.not_lt.2 hn]

theorem judge_holds (ht : 0 < w.total) (hl : p.theta * w.total ≤ 16 * w.late) (hn : n < p.wm1) :
    Window.judge p n w = { w with counts := { w.counts with holds := satInc w.counts.holds } } := by
  simp [Window.judge, ha, ht.ne', hl, hn]

theorem judge_lowers (ht : 0 < w.total) (hl : 16 * w.late < p.theta * w.total) :
    Window.judge p n w =
      { w with wq := clampWq p (w.wq - p.downStep), counts := { w.counts with lowers := satInc w.counts.lowers } } := by
  simp [Window.judge, ha, ht.ne', Nat.not_le.2 hl]

end

/-- Settles O28: the windows of sixteen openings telescope to W_q, and an evaluation does as its judgement comes out. -/
theorem waitWindow : Obligations.WaitWindow := by
  refine ⟨fun p w => ⟨opening_overridden p w, fun ha => opening_fixed ha w, fun ha => ?adaptive⟩, ?notice⟩
  case adaptive =>
    refine ⟨?_, fun h => ?_, fun h => ?_, ?_⟩
    · rw [opening_adaptive ha, wrap_succ]
    · rw [opening_adaptive ha, fractionalWindow_extra h]
    · rw [opening_adaptive ha, fractionalWindow_plain h]
    · calc ((List.range 16).map fun j => (Window.opening p false { w with j := j }).1).sum
          = ((List.range 16).map (fractionalWindow w.wq)).sum := by simp only [opening_adaptive ha]
        _ = 16 * w.wq / 16 := sum_fractionalWindow _ _
        _ = w.wq := Nat.mul_div_cancel_left _ (by decide)
  case notice =>
    intro p n w hlimits v clamp
    refine ⟨closingNotice_counts, fun hc => ?_⟩
    have hclamp (q : Nat) : clamp q = clampWq p q := (clampWq_eq hlimits q).symm
    rw [closingNotice_evaluates hc, hclamp, hclamp]
    unfold Window.evaluate
    refine ⟨fun ha => ?_, fun ha ht => ?_, fun ha ht hl hn => ?_, fun ha ht hl hn => ?_, fun ha ht hl => ?_⟩
    · rw [judge_fixed n w ha]
    · rw [judge_idle ha ht]
    · rw [judge_raises ha ht hl hn]
    · rw [judge_holds ha ht hl hn]
    · rw [judge_lowers ha ht hl]

end Sys2Proof.Proofs.WaitWindow
end

/-! ## Writes of Profiles, Member Lists, Managers and Access entries (O42) -/

section
namespace Sys2Proof.Proofs.EntryWrites
open Sys2Proof Sys2Proof.Machine Sys2Proof.Laws

/-! ### The profile an entry carries (R124, R173) -/

/-- The priority class of a code from 0 to 3. -/
def classAt (b : Byte) : PriorityClass :=
  let classes : List PriorityClass := [.high, .medium, .low, .variableClass]
  classes.getD b.toNat .high

theorem classOf_eq {b : Byte} (h : b.toNat ≤ 3) : classOf b = some (classAt b) := by
  have hcodes : b = 0 ∨ b = 1 ∨ b = 2 ∨ b = 3 := by bv_omega
  rcases hcodes with rfl | rfl | rfl | rfl <;> rfl

theorem classOf_none {b : Byte} (h : 3 < b.toNat) : classOf b = none := by
  unfold classOf
  rw [if_neg (by bv_omega), if_neg (by bv_omega), if_neg (by bv_omega), if_neg (by bv_omega)]

/-- The profile at an entry's offsets. -/
def profileAt (e : List Byte) : Profile :=
  { enabled := false, format := if byteAt e 1 = 0 then .rect16 else .rect32, shift := (byteAt e 2).toNat
    inclFreq := decide (byteAt e 3 = 1), dest := BitVec.ofNat 32 (field e 4 4), base := field e 8 2
    count := field e 10 2, decimation := (byteAt e 12).toNat, cls := classAt (byteAt e 13)
    depth := (byteAt e 14).toNat }

/-- A field of an entry of Profiles lies outside its range (R124). -/
def BadProfile (e : List Byte) : Prop :=
  1 < (byteAt e 1).toNat ∨ 15 < (byteAt e 2).toNat ∨ 1 < (byteAt e 3).toNat ∨ 1023 < field e 8 2
    ∨ 256 < field e 10 2 ∨ byteAt e 12 = 0 ∨ 240 < (byteAt e 12).toNat ∨ 3 < (byteAt e 13).toNat
    ∨ byteAt e 14 = 1 ∨ 16 < (byteAt e 14).toNat

theorem profileOf_codes {e : List Byte} (h1 : (byteAt e 1).toNat ≤ 1) (h3 : (byteAt e 3).toNat ≤ 1)
    (h13 : (byteAt e 13).toNat ≤ 3) : profileOf e =
      if field e 8 2 ≤ 1023 ∧ field e 10 2 ≤ 256 ∧ (byteAt e 2).toNat ≤ 15 ∧ 1 ≤ (byteAt e 12).toNat
          ∧ (byteAt e 12).toNat ≤ 240 ∧ (byteAt e 14).toNat ≠ 1 ∧ (byteAt e 14).toNat ≤ 16 then
        some (profileAt e)
      else none := by
  unfold profileOf
  rw [formatOf_eq h1, yesNo_eq h3, classOf_eq h13]
  rfl

theorem profileOf_good {e : List Byte} (h : ¬BadProfile e) : profileOf e = some (profileAt e) := by
  unfold BadProfile at h
  push Not at h
  obtain ⟨h1, h2, h3, hbase, hcount, h12, hk, h13, h14, hq⟩ := h
  rw [profileOf_codes h1 h3 h13]
  exact if_pos ⟨hbase, hcount, h2, by bv_omega, hk, by bv_omega, hq⟩

theorem profileOf_bad {e : List Byte} (h : BadProfile e) : profileOf e = none := by
  by_cases h1 : 1 < (byteAt e 1).toNat
  · unfold profileOf
    rw [formatOf_none h1]
  by_cases h3 : 1 < (byteAt e 3).toNat
  · unfold profileOf
    rw [yesNo_none h3]
    cases formatOf (byteAt e 1) <;> rfl
  by_cases h13 : 3 < (byteAt e 13).toNat
  · unfold profileOf
    rw [classOf_none h13]
    cases formatOf (byteAt e 1) <;> cases yesNo (byteAt e 3) <;> rfl
  rw [profileOf_codes (by omega) (by omega) (by omega)]
  refine if_neg fun ⟨hbase, hcount, h2, h12, hk, h14, hq⟩ => ?_
  unfold BadProfile at h
  bv_omega

/-! ### Member entries (R125) -/

theorem memberInUse_iff (s : State) (i : Nat) : s.memberInUse i = true ↔
    ∃ n, n < 8 ∧ (s.profile n).enabled = true ∧ (s.profile n).base ≤ i ∧ i < (s.profile n).base + (s.profile n).count := by
  unfold State.memberInUse
  simp only [List.any_eq_true, List.mem_range, Bool.and_eq_true, decide_eq_true_eq, and_assoc]

/-! ### The manager an entry carries (R155, R173) -/

/-- The manager at an entry's offsets. -/
def managerAt (e : List Byte) : Manager :=
  { source := BitVec.ofNat 32 (field e 0 4), cls := (byteAt e 4).toNat, enabled := decide (byteAt e 5 = 1) }

theorem managerOf_good {e : List Byte} (h4 : (byteAt e 4).toNat ≤ 3) (h5 : (byteAt e 5).toNat ≤ 1) :
    managerOf e = some (managerAt e) := by
  unfold managerOf
  rw [yesNo_eq h5]
  exact if_pos h4

theorem managerOf_bad {e : List Byte} (h : 3 < (byteAt e 4).toNat ∨ 1 < (byteAt e 5).toNat) : managerOf e = none := by
  by_cases h5 : 1 < (byteAt e 5).toNat
  · unfold managerOf
    rw [yesNo_none h5]
  · unfold managerOf
    rw [yesNo_eq (by omega)]
    exact if_neg (by omega)

/-- The entry's source is that of another entry that is enabled, and the entry would enable it (R155). -/
def takesSource (s : State) (i : Nat) (e : List Byte) : Prop :=
  byteAt e 5 = 1 ∧ ∃ j, j < 4 ∧ j ≠ i ∧ (s.manager j).enabled = true
    ∧ (s.manager j).source = BitVec.ofNat 32 (field e 0 4)

theorem takesSource_iff (s : State) (i : Nat) (e : List Byte) :
    ((managerAt e).enabled && s.sourceTaken i (managerAt e).source) = true ↔ takesSource s i e := by
  unfold takesSource State.sourceTaken managerAt
  simp only [Bool.and_eq_true, List.any_eq_true, List.mem_range, decide_eq_true_eq, beq_iff_eq, and_assoc]

/-! ### The access entry an entry carries (R156) -/

theorem accessOf_good {e : List Byte} (h : ¬(3 < (byteAt e 0).toNat ∨ 15 < (byteAt e 1).toNat)) :
    accessOf e = some { level := (byteAt e 0).toNat, deny := BitVec.ofNat 4 (byteAt e 1).toNat } :=
  if_pos (by omega)

theorem accessOf_bad {e : List Byte} (h : 3 < (byteAt e 0).toNat ∨ 15 < (byteAt e 1).toNat) : accessOf e = none :=
  if_neg (by omega)

/-! ### One entry of each table -/

section
variable {s : State} {cls i : Nat} {e : List Byte}

theorem writeEntry_profile (hg : s.entryGuard 4 i cls = none) : s.writeEntry 4 i cls e =
    if (s.profile i).enabled = true then .fails .busyContext
    else enumerated (profileOf e) fun p =>
      .written (s.setProfile i { p with enabled := (s.profile i).enabled }) false := by
  change s.writeProfileEntry i cls e = _
  unfold State.writeProfileEntry
  rw [hg]
  rfl

theorem writeEntry_member (hg : s.entryGuard 5 i cls = none) : s.writeEntry 5 i cls e =
    if s.memberInUse i = true then .fails .busyContext
    else if 255 < field e 0 2 then .fails .invalidValue
    else .written (s.setMember i (field e 0 2)) false := by
  change s.writeMemberEntry i cls e = _
  unfold State.writeMemberEntry
  rw [hg]
  rfl

theorem writeEntry_manager (hg : s.entryGuard 6 i cls = none) : s.writeEntry 6 i cls e =
    enumerated (managerOf e) fun m =>
      if (m.enabled && s.sourceTaken i m.source) = true then .fails .invalidValue
      else .written (s.setManager i m) false := by
  change s.writeManagerEntry i cls e = _
  unfold State.writeManagerEntry
  rw [hg]
  rfl

theorem writeEntry_access (hg : s.entryGuard 7 i cls = none) : s.writeEntry 7 i cls e =
    enumerated (accessOf e) fun a => .written (s.setAccess i a) false := by
  change s.writeAccessEntry i cls e = _
  unfold State.writeAccessEntry
  rw [hg]
  rfl

end

/-! ### The commands -/

section
variable {s : State} {r : Request} {t : Transfer}

theorem writeProfiles_completes (hm : s.mayWrite r 4 t) :
    ((s.profile t.start.toNat).enabled = true →
      Completes s (.writeProfiles r t) r .writeEntries s (refusedEntry .busyContext))
    ∧ ((s.profile t.start.toNat).enabled = false → BadProfile t.data →
      Completes s (.writeProfiles r t) r .writeEntries s (refusedEntry .invalidValue))
    ∧ ((s.profile t.start.toNat).enabled = false → ¬BadProfile t.data →
      Completes s (.writeProfiles r t) r .writeEntries (s.setProfile t.start.toNat (profileAt t.data)) (wrote false)) := by
  obtain ⟨cls, hg, hfail, hwrite⟩ := completes_entry (c := .writeProfiles r t) (table := 4) rfl (by decide) hm
  have hentry := writeEntry_profile (e := t.data) hg
  refine ⟨fun hon => hfail _ (hentry.trans (if_pos hon)),
    fun hoff hbad => hfail _ ((hentry.trans (if_neg (Bool.eq_false_iff.1 hoff))).trans ?_),
    fun hoff hgood => hwrite _ _ ((hentry.trans (if_neg (Bool.eq_false_iff.1 hoff))).trans ?_)⟩
  · rw [profileOf_bad hbad]
    rfl
  · have hsame : ((s.setExec .executing).profile t.start.toNat).enabled = false := hoff
    rw [profileOf_good hgood, hsame]
    rfl

theorem writeMemberLists_completes (hm : s.mayWrite r 5 t) :
    (s.memberInUse t.start.toNat = true →
      Completes s (.writeMemberLists r t) r .writeEntries s (refusedEntry .busyContext))
    ∧ (¬s.memberInUse t.start.toNat = true → 255 < field t.data 0 2 →
      Completes s (.writeMemberLists r t) r .writeEntries s (refusedEntry .invalidValue))
    ∧ (¬s.memberInUse t.start.toNat = true → field t.data 0 2 ≤ 255 →
      Completes s (.writeMemberLists r t) r .writeEntries (s.setMember t.start.toNat (field t.data 0 2))
        (wrote false)) := by
  obtain ⟨cls, hg, hfail, hwrite⟩ := completes_entry (c := .writeMemberLists r t) (table := 5) rfl (by decide) hm
  have hentry := writeEntry_member (e := t.data) hg
  exact ⟨fun hused => hfail _ (hentry.trans (if_pos hused)),
    fun hfree hbig => hfail _ ((hentry.trans (if_neg hfree)).trans (if_pos hbig)),
    fun hfree hfits => hwrite _ _ ((hentry.trans (if_neg hfree)).trans (if_neg (Nat.not_lt.2 hfits)))⟩

theorem writeManagers_completes (hm : s.mayWrite r 6 t) :
    (3 < (byteAt t.data 4).toNat ∨ 1 < (byteAt t.data 5).toNat ∨ takesSource s t.start.toNat t.data →
      Completes s (.writeManagers r t) r .writeEntries s (refusedEntry .invalidValue))
    ∧ (¬(3 < (byteAt t.data 4).toNat ∨ 1 < (byteAt t.data 5).toNat ∨ takesSource s t.start.toNat t.data) →
      Completes s (.writeManagers r t) r .writeEntries (s.setManager t.start.toNat (managerAt t.data))
        (wrote false)) := by
  obtain ⟨cls, hg, hfail, hwrite⟩ := completes_entry (c := .writeManagers r t) (table := 6) rfl (by decide) hm
  have hentry := writeEntry_manager (e := t.data) hg
  have htaken := takesSource_iff (s.setExec .executing) t.start.toNat t.data
  have hfields (h : ¬(3 < (byteAt t.data 4).toNat ∨ 1 < (byteAt t.data 5).toNat)) :=
    managerOf_good (e := t.data) (by omega) (by omega)
  refine ⟨fun hbad => hfail _ (hentry.trans ?_), fun hgood => hwrite _ _ (hentry.trans ?_)⟩
  · by_cases h : 3 < (byteAt t.data 4).toNat ∨ 1 < (byteAt t.data 5).toNat
    · rw [managerOf_bad h]
      rfl
    · rw [hfields h]
      exact if_pos (htaken.2 ((or_assoc.2 hbad).resolve_left h))
  · obtain ⟨h, hfree⟩ := not_or.1 (mt or_assoc.1 hgood)
    rw [hfields h]
    exact if_neg (mt htaken.1 hfree)

theorem writeAccess_completes (hm : s.mayWrite r 7 t) :
    (3 < (byteAt t.data 0).toNat ∨ 15 < (byteAt t.data 1).toNat →
      Completes s (.writeAccess r t) r .writeEntries s (refusedEntry .invalidValue))
    ∧ (¬(3 < (byteAt t.data 0).toNat ∨ 15 < (byteAt t.data 1).toNat) →
      Completes s (.writeAccess r t) r .writeEntries
        (s.setAccess t.start.toNat
          { level := (byteAt t.data 0).toNat, deny := BitVec.ofNat 4 (byteAt t.data 1).toNat })
        (wrote false)) := by
  obtain ⟨cls, hg, hfail, hwrite⟩ := completes_entry (c := .writeAccess r t) (table := 7) rfl (by decide) hm
  have hentry := writeEntry_access (e := t.data) hg
  refine ⟨fun hbad => hfail _ (hentry.trans ?_), fun hgood => hwrite _ _ (hentry.trans ?_)⟩
  · rw [accessOf_bad hbad]
    rfl
  · rw [accessOf_good hgood]
    rfl

end

/-- Settles O42: table by table, the entry's own tests and then the fields its bytes carry. -/
theorem profileMemberAndManagerWrites : Obligations.ProfileMemberAndManagerWrites := by
  intro s r t e i
  refine ⟨writeProfiles_completes, fun hm => ?_, writeManagers_completes, writeAccess_completes⟩
  intro inUse
  have hused : s.memberInUse i = true ↔ inUse := memberInUse_iff s i
  rw [← hused]
  exact writeMemberLists_completes hm

end Sys2Proof.Proofs.EntryWrites
end

/-! ## What is due between the producers and the egress queue, one thing after the other (R132, R143, R147 to R149) -/

section
namespace Sys2Proof.Proofs.Offers
open Sys2Proof Sys2Proof.Machine Sys2Proof.Laws Sys2Proof.Proofs.Batches

/-! ### A run of what is due -/

/-- In s there are n things due, one after the other, and then t is at rest. -/
inductive Due : Nat → State → State → Prop where
  | rest {s : State} (h : s.egressStep = none) : Due 0 s s
  | step {n : Nat} {s t u : State} (h : s.egressStep = some t) (hrest : Due n t u) : Due (n + 1) s u

section
variable {s t u : State} {n : Nat}

theorem Due.settleSteps (h : Due n s t) (m : Nat) : State.settleSteps (n + m) s = t := by
  induction h with
  | rest h => exact settleSteps_rest _ h
  | step h _ ih => rw [Nat.add_right_comm, settleSteps_succ _ h, ih]

theorem Due.atRest (h : Due n s t) : t.egressStep = none := by
  induction h with
  | rest h => exact h
  | step _ _ ih => exact ih

/-- A run of no more than eight things is within what settling does. -/
theorem Due.settle (h : Due n s t) (hn : n ≤ 8) : s.settle = t := by
  have hfuel : 2 * s.composer.outbound.length + s.mgmt.formed.length + 8
      = n + (2 * s.composer.outbound.length + s.mgmt.formed.length + 8 - n) := by omega
  unfold State.settle
  rw [hfuel]
  exact h.settleSteps _

theorem Due.settleAndJudge (h : Due n s t) (hn : n ≤ 8) : s.settleAndJudge = t.judgeDrain := by
  unfold State.settleAndJudge
  rw [h.settle hn]

/-- A drain does not end while the composer has a slot (R164). -/
theorem judgeDrain_working {w : Composing} (hw : s.composer.working = some w) : s.judgeDrain = s := by
  refine judgeDrain_rest fun hend => ?_
  obtain ⟨-, -, hempty⟩ := hend
  unfold State.composerEmpty at hempty
  rw [hw] at hempty
  cases hempty

/-- A drain does not end while a frame is on offer (R164). -/
theorem judgeDrain_onOffer (ho : s.composer.outbound ≠ []) : s.judgeDrain = s := by
  refine judgeDrain_rest fun hend => ?_
  obtain ⟨-, -, hempty⟩ := hend
  unfold State.composerEmpty at hempty
  rw [Bool.and_eq_true] at hempty
  exact ho (List.isEmpty_iff.1 hempty.2)

end

/-! ### What the queue makes of a frame (R147, R148) -/

section
variable {x : Egress} {osc : Nat} {f : OutFrame} {l r : List Entry} {e : Entry}

theorem hasRoom_of_lt (h : x.queue.length < 32) : x.hasRoom = true := decide_eq_true h

theorem hasRoom_of_full (h : 32 ≤ x.queue.length) : x.hasRoom = false := decide_eq_false (Nat.not_lt.2 h)

theorem hasLow_of_none (h : ∀ o ∈ x.queue, o.frame.cls ≠ .low) : x.hasLow = false := by
  unfold Egress.hasLow
  rw [List.any_eq_false]
  exact fun o ho => by simp [h o ho]

theorem hasLow_of_mem (hq : x.queue = l ++ e :: r) (he : e.frame.cls = .low) : x.hasLow = true := by
  unfold Egress.hasLow
  rw [hq, List.any_append, List.any_cons, he]
  simp

theorem takeFrame_enters (h : x.queue.length < 32) : x.takeFrame osc f = x.enter osc f := by
  unfold Egress.takeFrame
  rw [if_pos (hasRoom_of_lt h)]

/-- The oldest LOW entry e is shed from between l and r, and a frame enters behind them (R148). -/
def displaced (osc : Nat) (x : Egress) (l r : List Entry) (f : OutFrame) : Egress :=
  { x with
    queue := l ++ r ++ [{ frame := f, enqueued := osc }], shedFlag := true
    counts := { x.counts with shed := satInc x.counts.shed, highWater := max x.counts.highWater 32 } }

theorem takeFrame_sheds (hq : x.queue = l ++ e :: r) (hfull : x.queue.length = 32) (he : e.frame.cls = .low)
    (hl : ∀ o ∈ l, o.frame.cls ≠ .low) : x.takeFrame osc f = displaced osc x l r f := by
  have hrest : x.queue.eraseP (fun e => e.frame.cls == .low) = l ++ r := by
    rw [hq, List.eraseP_append_right _ (by simpa using hl), List.eraseP_cons_of_pos (by simp [he])]
  have hlen : (l ++ r).length + 1 = 32 := by
    rw [hq] at hfull
    simp only [List.length_append, List.length_cons] at hfull ⊢
    omega
  unfold Egress.takeFrame
  rw [if_neg (by rw [hasRoom_of_full hfull.ge]; decide)]
  unfold Egress.shed Egress.enter displaced
  dsimp only
  rw [hrest, hlen]

end

/-! ### The two producers' offers (R132, R134, R149, R153) -/

section
variable {s : State} {a f : OutFrame} {rest : List OutFrame}

theorem offerAnswer_taken (h : s.egress.takes = true) : s.offerAnswer a = { s with
    mgmt := { s.mgmt with exec := .idle }, egress := s.egress.takeFrame s.tru.osc a } := if_pos h

/-- The Management Unit waits with an answer that a full queue without a LOW entry does not take (R149, R153). -/
theorem offerAnswer_waits (hfull : 32 ≤ s.egress.queue.length)
    (hlow : ∀ o ∈ s.egress.queue, o.frame.cls ≠ .low) : s.offerAnswer a = { s with
      mgmt := { s.mgmt with exec := .waiting a }
      egress := { s.egress with
        counts := { s.egress.counts with answerWaits := satInc s.egress.counts.answerWaits } } } := by
  refine if_neg ?_
  unfold Egress.takes
  rw [hasRoom_of_full hfull, hasLow_of_none hlow]
  decide

/-- The management state once the deferred answer of a flush is formed (R134, R153). -/
def flushFormed (s : State) (d : Deferred) : Mgmt :=
  { s.mgmt with
    deferredFlush := none
    formed := s.mgmt.formed
      ++ [{ s with composer := { s.composer with flushBusy := false } }.formAnswer d.source d.tag 0x24 (reply .done)]
    counts := { s.mgmt.counts with executed := satInc s.mgmt.counts.executed } }

theorem takeOutbound_plain (hf : f.endsFlush = false) : s.takeOutbound f rest = { s with
    composer := { s.composer with outbound := rest }
    egress := { s.egress.takeFrame s.tru.osc f with composerWaits := false } } := by
  unfold State.takeOutbound
  rw [hf]
  rfl

/-- The frame that ends a flush whose answer is not outstanding (R134). -/
theorem takeOutbound_ends (hf : f.endsFlush = true) (hd : s.mgmt.deferredFlush = none) :
    s.takeOutbound f rest = { s with
      composer := { s.composer with outbound := rest, flushBusy := false }
      egress := { s.egress.takeFrame s.tru.osc f with composerWaits := false } } := by
  unfold State.takeOutbound
  rw [hf]
  unfold State.queueTakes State.flushEnded
  dsimp only
  rw [hd]
  rfl

/-- The frame that ends a flush whose answer is deferred (R134, R153). -/
theorem takeOutbound_answers {d : Deferred} (hf : f.endsFlush = true) (hd : s.mgmt.deferredFlush = some d) :
    s.takeOutbound f rest = { s with
      composer := { s.composer with outbound := rest, flushBusy := false }
      egress := { s.egress.takeFrame s.tru.osc f with composerWaits := false }
      mgmt := flushFormed s d } := by
  unfold State.takeOutbound
  rw [hf]
  unfold State.queueTakes State.flushEnded
  dsimp only
  rw [hd]
  rfl

/-- The composer's frame takes a free place, or that of a LOW entry where the composer does not wait (R148, R149). -/
theorem composerOffer_taken (ho : s.composer.outbound = f :: rest)
    (h : s.egress.queue.length < 32 ∨ s.egress.composerWaits = false ∧ s.egress.hasLow = true) :
    s.composerOffer = some (s.takeOutbound f rest) := by
  unfold State.composerOffer
  rw [ho]
  refine if_pos ?_
  rcases h with hr | ⟨hwaits, hlow⟩
  · rw [hasRoom_of_lt hr, Bool.true_or]
  · rw [hwaits, hlow]
    exact Bool.or_true _

/-- A full queue without a LOW entry makes the composer wait (R149). -/
theorem composerOffer_waits (ho : s.composer.outbound = f :: rest) (hfull : 32 ≤ s.egress.queue.length)
    (hlow : ∀ o ∈ s.egress.queue, o.frame.cls ≠ .low) (hwaits : s.egress.composerWaits = false) :
    s.composerOffer = some { s with
      composer := { s.composer with counts := { s.composer.counts with waits := satInc s.composer.counts.waits } }
      egress := { s.egress with composerWaits := true } } := by
  unfold State.composerOffer
  rw [ho, hasRoom_of_full hfull, hasLow_of_none hlow, hwaits]
  rfl

/-- A composer that waits offers nothing to a full queue (R149). -/
theorem composerOffer_waiting (hfull : 32 ≤ s.egress.queue.length) (hwaits : s.egress.composerWaits = true) :
    s.composerOffer = none := by
  unfold State.composerOffer
  rw [hasRoom_of_full hfull, hwaits]
  cases s.composer.outbound <;> rfl

theorem composerOffer_nothing (ho : s.composer.outbound = []) : s.composerOffer = none := by
  unfold State.composerOffer
  rw [ho]

/-! ### What is due to each producer (R143, R149, R153) -/

/-- The link asks for no frame, or there is none to choose. -/
def NoSelection (x : Egress) : Prop := x.link ≠ .ready ∨ x.queue = []

/-- The composer's offer is what is due while a directive is executed, or the unit is IDLE with no answer formed. -/
theorem egressStep_offer (hl : NoSelection s.egress)
    (hx : s.mgmt.exec = .executing ∨ s.mgmt.exec = .idle ∧ s.mgmt.formed = []) :
    s.egressStep = s.composerOffer := by
  unfold State.egressStep
  rw [if_neg fun h => hl.elim (fun hlink => hlink h.1) h.2]
  rcases hx with hx | ⟨hx, hf⟩
  · rw [hx]
  · rw [hx, hf]

/-- The answer that the unit waits with takes a free place (R149). -/
theorem egressStep_waitingAnswer (hl : NoSelection s.egress) (hx : s.mgmt.exec = .waiting a)
    (hr : s.egress.queue.length < 32) : s.egressStep = some { s with
      mgmt := { s.mgmt with exec := .idle }, egress := s.egress.enter s.tru.osc a } := by
  unfold State.egressStep
  rw [if_neg fun h => hl.elim (fun hlink => hlink h.1) h.2, hx]
  dsimp only
  rw [if_pos (hasRoom_of_lt hr)]
  unfold State.queueTakes
  rw [takeFrame_enters hr]

/-- At a full queue a unit that waits leaves the composer alone to offer. -/
theorem egressStep_stillWaiting (hl : NoSelection s.egress) (hx : s.mgmt.exec = .waiting a)
    (hfull : 32 ≤ s.egress.queue.length) : s.egressStep = s.composerOffer := by
  unfold State.egressStep
  rw [if_neg fun h => hl.elim (fun hlink => hlink h.1) h.2, hx]
  exact if_neg (by rw [hasRoom_of_full hfull]; decide)

/-- An IDLE unit offers the deferred answer that has been formed (R153). -/
theorem egressStep_formed {as : List OutFrame} (hl : NoSelection s.egress) (hx : s.mgmt.exec = .idle)
    (hf : s.mgmt.formed = a :: as) :
    s.egressStep = some (({ s with mgmt := { s.mgmt with formed := as } }).offerAnswer a) := by
  unfold State.egressStep
  rw [if_neg fun h => hl.elim (fun hlink => hlink h.1) h.2, hx, hf]

/-- A READY link with entries in the queue makes a selection (R143). -/
theorem egressStep_selects (hl : s.egress.link = .ready) (hq : s.egress.queue ≠ []) :
    s.egressStep = some { s with egress := s.egress.select s.params s.tru.osc } := if_pos ⟨hl, hq⟩

/-! ### One frame of the composer's (R132, R147) -/

/-- The composer's frame has entered the queue. -/
def sent (s : State) (f : OutFrame) : State :=
  { s with egress := { s.egress.enter s.tru.osc f with composerWaits := false } }

/-- The composer's frame is on the outbound list. -/
def offering (s : State) (f : OutFrame) : State := { s with composer := { s.composer with outbound := [f] } }

theorem takeOutbound_offering (ho : s.composer.outbound = []) (hr : s.egress.queue.length < 32)
    (hf : f.endsFlush = false) : (offering s f).takeOutbound f [] = sent s f := by
  have hcomposer : { s.composer with outbound := [] } = s.composer := by rw [← ho]
  rw [takeOutbound_plain hf, takeFrame_enters (x := (offering s f).egress) hr]
  exact congrArg (fun c => { sent s f with composer := c }) hcomposer

/-- The one frame on offer enters a queue with room, and nothing else is due. -/
theorem due_offering (hx : s.mgmt.exec = .executing ∨ s.mgmt.exec = .idle ∧ s.mgmt.formed = [])
    (ho : s.composer.outbound = []) (hl : s.egress.link ≠ .ready) (hr : s.egress.queue.length < 32)
    (hf : f.endsFlush = false) : Due 1 (offering s f) (sent s f) := by
  have htaken : (offering s f).egressStep = some ((offering s f).takeOutbound f []) :=
    (egressStep_offer (s := offering s f) (.inl hl) hx).trans (composerOffer_taken rfl (.inl hr))
  rw [takeOutbound_offering ho hr hf] at htaken
  exact .step htaken (.rest ((egressStep_offer (s := sent s f) (.inl hl) hx).trans (composerOffer_nothing ho)))

end

end Sys2Proof.Proofs.Offers
end

/-! ## The turn of a profile in a composition step (R128, R131) -/

section
namespace Sys2Proof.Proofs.Turns
open Sys2Proof Sys2Proof.Machine Sys2Proof.Laws Sys2Proof.Proofs.Batches Sys2Proof.Proofs.Offers

/-! ### A built set handed on (R131) -/

/-- The holding list of profile n with a set at its end; its timer runs from the first set on (R131, R133). -/
def joined (s : State) (n : Nat) (bytes : List Byte) : Holding :=
  { sets := (s.holding n).sets ++ [bytes]
    timer := if (s.holding n).sets = [] then some s.tru.osc else (s.holding n).timer }

/-- A set that would not carry the batch above the largest frame joins the list (R131). -/
def Fits (s : State) (n : Nat) (bytes : List Byte) : Prop :=
  (s.holding n).sets = [] ∨ batchLength (s.holding n).sets bytes ≤ 65535

section
variable {s : State} {n : Nat} {bytes : List Byte}

theorem handOn_set (hd : (s.profile n).depth = 0) : s.handOn n bytes =
    s.pushOutbound { bytes := bytes, dest := (s.profile n).dest, kind := .set, cls := (s.profile n).cls } := if_pos hd

/-- A set of a batching profile joins the list that the size rule leaves, which at the profile's depth is a batch. -/
theorem handOn_joins {u : State} (hd : (s.profile n).depth ≠ 0)
    (hu : (if (s.holding n).sets.isEmpty = false ∧ 65535 < batchLength (s.holding n).sets bytes then s.formBatch n
      else s) = u) : s.handOn n bytes =
    if (u.profile n).depth ≤ (u.holding n).sets.length + 1 then (u.setHolding n (joined u n bytes)).formBatch n
    else u.setHolding n (joined u n bytes) := by
  unfold State.handOn
  dsimp only
  rw [if_neg hd]
  unfold State.holdSet
  dsimp only
  rw [hu]
  unfold joined
  simp only [List.isEmpty_iff, List.length_append, List.length_singleton]
  rfl

theorem handOn_fits (hfits : Fits s n bytes) (hd : (s.profile n).depth ≠ 0) : s.handOn n bytes =
    if (s.profile n).depth ≤ (s.holding n).sets.length + 1 then (s.setHolding n (joined s n bytes)).formBatch n
    else s.setHolding n (joined s n bytes) := by
  refine handOn_joins hd (if_neg ?_)
  rintro ⟨hne, hbig⟩
  rcases hfits with h | h
  · rw [h] at hne
    cases hne
  · omega

theorem handOn_held (hfits : Fits s n bytes) (hd : (s.holding n).sets.length + 1 < (s.profile n).depth) :
    s.handOn n bytes = s.setHolding n (joined s n bytes) :=
  (handOn_fits hfits (by omega)).trans (if_neg (Nat.not_le.2 hd))

/-- The batch frame of sets of profile n. -/
def batchAs (s : State) (n : Nat) (sets : List (List Byte)) : OutFrame :=
  { bytes := batchFrame n sets, dest := (s.profile n).dest, kind := .batch, cls := .low }

/-- The held sets of profile n are its batch frame on the outbound list, and a holding list h takes their place. -/
def batchedTo (s : State) (n : Nat) (sets : List (List Byte)) (h : Holding) : State :=
  { s with composer := { s.composer with
    holding := Tbl.set Holding.empty s.composer.holding n h
    outbound := s.composer.outbound ++ [batchAs s n sets]
    counts := { s.composer.counts with batches := satInc s.composer.counts.batches } } }

theorem formBatch_batchedTo (h : (s.holding n).sets ≠ []) :
    s.formBatch n = batchedTo s n (s.holding n).sets Holding.empty := by
  have hbatch : batchOf s n = [batchAs s n (s.holding n).sets] := if_neg h
  rw [formBatch_held h, hbatch]
  rfl

theorem handOn_batched (hw : Tbl.wf Holding.empty s.composer.holding = true) (hfits : Fits s n bytes)
    (hne : (s.profile n).depth ≠ 0) (hd : (s.profile n).depth ≤ (s.holding n).sets.length + 1) :
    s.handOn n bytes = batchedTo s n ((s.holding n).sets ++ [bytes]) Holding.empty := by
  have hread : (s.setHolding n (joined s n bytes)).holding n = joined s n bytes :=
    (holding_setHolding hw n _ n).trans (if_pos rfl)
  rw [handOn_fits hfits hne, if_pos hd,
    formBatch_batchedTo (by rw [hread]; exact List.append_ne_nil_of_right_ne_nil _ (List.cons_ne_nil _ _)), hread]
  unfold batchedTo State.setHolding
  dsimp only
  rw [Accepting.set_set hw]
  rfl

/-- A set that would carry the batch above the largest frame is held alone after it, with a timer of its own (R131). -/
theorem handOn_oversize (hw : Tbl.wf Holding.empty s.composer.holding = true) (hheld : (s.holding n).sets ≠ [])
    (hbig : 65535 < batchLength (s.holding n).sets bytes) (hd : 2 ≤ (s.profile n).depth) :
    s.handOn n bytes = batchedTo s n (s.holding n).sets { sets := [bytes], timer := some s.tru.osc } := by
  have hne : (s.holding n).sets.isEmpty = false := Bool.eq_false_iff.2 fun he => hheld (List.isEmpty_iff.1 he)
  have hempty : (batchedTo s n (s.holding n).sets Holding.empty).holding n = Holding.empty :=
    (holding_setHolding hw n _ n).trans (if_pos rfl)
  rw [handOn_joins (by omega) (if_pos ⟨hne, hbig⟩), formBatch_batchedTo hheld, hempty]
  refine (if_neg (Nat.not_le.2 hd)).trans ?_
  unfold joined
  rw [hempty]
  unfold batchedTo State.setHolding
  dsimp only
  rw [Accepting.set_set hw]
  rfl

end

/-! ### The turn, and the step it stands in (R128) -/

/-- The counts once the set of the next profile is built (R129, R138). -/
def setCounts (s : State) (w : Composing) : ComposerCounts :=
  { s.composer.counts with
    sets := satInc s.composer.counts.sets
    incomplete := if anyMissing (s.membersOf (s.profile w.next) (s.slot w.g)) = true then
      satInc s.composer.counts.incomplete else s.composer.counts.incomplete }

/-- The composer has considered the next profile, its counts being c. -/
def turned (s : State) (w : Composing) (c : ComposerCounts) : State :=
  { s with composer := { s.composer with working := some { w with next := w.next + 1 }, counts := c } }

section
variable {s u : State} {w : Composing} {c : ComposerCounts}

theorem considerNext_passedOver (hn : w.next < 8)
    (h : ¬((s.profile w.next).enabled = true ∧ (s.slot w.g).g % (s.profile w.next).decimation = 0)) :
    s.considerNext w = turned s w s.composer.counts := by
  unfold State.considerNext
  rw [if_pos hn]
  unfold State.profileTurn
  dsimp only
  rw [if_neg h]
  rfl

theorem considerNext_takes (hn : w.next < 8) (he : (s.profile w.next).enabled = true)
    (hk : (s.slot w.g).g % (s.profile w.next).decimation = 0) :
    s.considerNext w =
      let v := { s with composer := { s.composer with counts := setCounts s w } }.handOn w.next
        (s.buildSet w.next (s.slot w.g))
      { v with composer := { v.composer with working := some { w with next := w.next + 1 } } } := by
  unfold State.considerNext
  rw [if_pos hn]
  unfold State.profileTurn
  dsimp only
  rw [if_pos ⟨he, hk⟩]
  rfl

theorem exec_compositionStep (hw : s.composer.working = some w) (ho : s.composer.outbound = []) :
    exec .compositionStep s =
      .next ((s.considerNext w).settleAndJudge.finishIfComposed).settleAndJudge := by
  change Host.Outcome.next s.composeStep = _
  unfold State.composeStep
  rw [hw]
  exact congrArg _ (if_pos ho)

theorem exec_compositionStep_idle (h : s.composer.working = none ∨ s.composer.outbound ≠ []) :
    exec .compositionStep s = .next s := by
  change Host.Outcome.next s.composeStep = _
  unfold State.composeStep
  cases hw : s.composer.working with
  | none => rfl
  | some w => exact congrArg _ (if_neg (h.resolve_left fun hn => nomatch hw.symm.trans hn))

/-- Once what is due after a turn is done, the slot is composed where the eighth turn leaves nothing on offer (R128). -/
theorem exec_compositionStep_due {k : Nat} (hw : s.composer.working = some w) (ho : s.composer.outbound = [])
    (hn : w.next < 8) (hdue : Due k (s.considerNext w) u) (hk : k ≤ 8)
    (hworking : u.composer.working = some { w with next := w.next + 1 }) :
    exec .compositionStep s =
      .next (if w.next = 7 ∧ u.composer.outbound = [] then u.composed.settleAndJudge else u) := by
  have hturn : (s.considerNext w).settleAndJudge = u := (hdue.settleAndJudge hk).trans (judgeDrain_working hworking)
  have hrest : u.settleAndJudge = u :=
    ((Due.rest hdue.atRest).settleAndJudge (Nat.zero_le 8)).trans (judgeDrain_working hworking)
  have hfinish : u.finishIfComposed = if w.next = 7 ∧ u.composer.outbound = [] then u.composed else u := by
    unfold State.finishIfComposed
    rw [hworking]
    exact if_congr (and_congr_left fun _ => by change 8 ≤ w.next + 1 ↔ _; omega) rfl rfl
  rw [exec_compositionStep hw ho, hturn, hfinish]
  split_ifs
  · rfl
  · rw [hrest]

/-- The step by its turn, where nothing stays on offer. -/
theorem exec_compositionStep_turned {k : Nat} (hw : s.composer.working = some w) (ho : s.composer.outbound = [])
    (hn : w.next < 8) (hdue : Due k (s.considerNext w) u) (hk : k ≤ 8)
    (hworking : u.composer.working = some { w with next := w.next + 1 }) (hout : u.composer.outbound = []) :
    exec .compositionStep s = .next (if w.next = 7 then u.composed.settleAndJudge else u) :=
  (exec_compositionStep_due hw ho hn hdue hk hworking).trans
    (congrArg _ (if_congr (and_iff_left_of_imp fun _ => hout) rfl rfl))

/-! ### The turn of a profile that takes the slot, by what its set comes to (R131) -/

/-- The built set of the next profile, as a frame. -/
def setOf (s : State) (w : Composing) : OutFrame :=
  { bytes := s.buildSet w.next (s.slot w.g), dest := (s.profile w.next).dest, kind := .set
    cls := (s.profile w.next).cls }

/-- The next profile is enabled and takes the composed slot (R128). -/
structure Takes (s : State) (w : Composing) : Prop where
  unfinished : w.next < 8
  enabled : (s.profile w.next).enabled = true
  decimated : (s.slot w.g).g % (s.profile w.next).decimation = 0

theorem considerNext_set (h : Takes s w) (ho : s.composer.outbound = []) (hd : (s.profile w.next).depth = 0) :
    s.considerNext w = offering (turned s w (setCounts s w)) (setOf s w) := by
  rw [considerNext_takes h.unfinished h.enabled h.decimated,
    handOn_set (s := { s with composer := { s.composer with counts := setCounts s w } }) hd]
  unfold State.pushOutbound
  dsimp only
  rw [ho]
  rfl

theorem considerNext_held (h : Takes s w) (hfits : Fits s w.next (s.buildSet w.next (s.slot w.g)))
    (hd : (s.holding w.next).sets.length + 1 < (s.profile w.next).depth) :
    s.considerNext w = (turned s w (setCounts s w)).setHolding w.next
      (joined s w.next (s.buildSet w.next (s.slot w.g))) := by
  rw [considerNext_takes h.unfinished h.enabled h.decimated,
    handOn_held (s := { s with composer := { s.composer with counts := setCounts s w } }) hfits hd]
  rfl

/-- The composer with a batch of the next profile on offer, a holding list x in place of the sets in it. -/
def batchOffered (s : State) (w : Composing) (sets : List (List Byte)) (x : Holding) : State :=
  offering ((turned s w { setCounts s w with batches := satInc s.composer.counts.batches }).setHolding w.next x)
    (batchAs s w.next sets)

theorem working_batchedTo (ho : s.composer.outbound = []) (sets : List (List Byte)) (x : Holding) :
    (let v := batchedTo { s with composer := { s.composer with counts := setCounts s w } } w.next sets x
    { v with composer := { v.composer with working := some { w with next := w.next + 1 } } }) =
      batchOffered s w sets x := by
  unfold batchedTo
  dsimp only
  rw [ho]
  rfl

theorem considerNext_batched (h : Takes s w) (ho : s.composer.outbound = [])
    (hw : Tbl.wf Holding.empty s.composer.holding = true) (hfits : Fits s w.next (s.buildSet w.next (s.slot w.g)))
    (hne : (s.profile w.next).depth ≠ 0) (hd : (s.profile w.next).depth ≤ (s.holding w.next).sets.length + 1) :
    s.considerNext w =
      batchOffered s w ((s.holding w.next).sets ++ [s.buildSet w.next (s.slot w.g)]) Holding.empty := by
  rw [considerNext_takes h.unfinished h.enabled h.decimated,
    handOn_batched (s := { s with composer := { s.composer with counts := setCounts s w } }) hw hfits hne hd]
  exact working_batchedTo ho _ _

theorem considerNext_oversize (h : Takes s w) (ho : s.composer.outbound = [])
    (hw : Tbl.wf Holding.empty s.composer.holding = true) (hheld : (s.holding w.next).sets ≠ [])
    (hbig : 65535 < batchLength (s.holding w.next).sets (s.buildSet w.next (s.slot w.g)))
    (hd : 2 ≤ (s.profile w.next).depth) :
    s.considerNext w = batchOffered s w (s.holding w.next).sets
      { sets := [s.buildSet w.next (s.slot w.g)], timer := some s.tru.osc } := by
  rw [considerNext_takes h.unfinished h.enabled h.decimated,
    handOn_oversize (s := { s with composer := { s.composer with counts := setCounts s w } }) hw hheld hbig hd]
  exact working_batchedTo ho _ _

end

end Sys2Proof.Proofs.Turns
end

/-! ## The composition step (O29) -/

section
namespace Sys2Proof.Proofs.Turns
open Sys2Proof Sys2Proof.Machine Sys2Proof.Laws Sys2Proof.Proofs.Batches Sys2Proof.Proofs.Offers

theorem anyMissing_iff (ms : List (Half × MemberState)) : anyMissing ms = true ↔ ∃ m ∈ ms, m.2 = .missing := by
  unfold anyMissing
  simp only [List.any_eq_true, beq_iff_eq]

/-- The turn of a profile leaves v: the composer goes on to the next profile, and the way out stands (R128). -/
structure Onward (s v : State) (w : Composing) : Prop where
  mgmt : v.mgmt = s.mgmt
  egress : v.egress = s.egress
  outbound : v.composer.outbound = s.composer.outbound
  working : v.composer.working = some { w with next := w.next + 1 }

section
variable {s u v : State} {w : Composing} {f : OutFrame}

/-- A step whose turn puts no frame on offer (R128). -/
theorem exec_compositionStep_unoffered (hw : s.composer.working = some w) (hn : w.next < 8) (hq : s.quiet)
    (hturn : s.considerNext w = v) (ht : Onward s v w) :
    exec .compositionStep s = .next (if w.next = 7 then v.composed.settleAndJudge else v) := by
  obtain ⟨hidle, hformed, ho, -, hl, -⟩ := hq
  have hnone : v.composer.outbound = [] := ht.outbound.trans ho
  have hx : v.mgmt.exec = .idle ∧ v.mgmt.formed = [] := by
    rw [ht.mgmt]
    exact ⟨hidle, hformed⟩
  have hlink : v.egress.link ≠ .ready := by
    rw [ht.egress]
    exact hl
  have hdue : Due 0 (s.considerNext w) v := by
    rw [hturn]
    exact .rest ((egressStep_offer (.inl hlink) (.inr hx)).trans (composerOffer_nothing hnone))
  exact exec_compositionStep_turned hw ho hn hdue (by decide) ht.working hnone

/-- A step whose turn puts one frame on offer, which enters the queue (R128, R132, R147). -/
theorem exec_compositionStep_offered (hw : s.composer.working = some w) (hn : w.next < 8) (hq : s.quiet)
    (hturn : s.considerNext w = offering v f) (hf : f.endsFlush = false) (ht : Onward s v w)
    (hu : sent v f = u) :
    exec .compositionStep s = .next (if w.next = 7 then u.composed.settleAndJudge else u) := by
  subst hu
  obtain ⟨hidle, hformed, ho, hr, hl, -⟩ := hq
  have hnone : v.composer.outbound = [] := ht.outbound.trans ho
  have hdue : Due 1 (s.considerNext w) (sent v f) := by
    rw [hturn]
    refine due_offering (.inr ?_) hnone ?_ ?_ hf
    · rw [ht.mgmt]
      exact ⟨hidle, hformed⟩
    · rw [ht.egress]
      exact hl
    · rw [ht.egress]
      exact hr
  exact exec_compositionStep_turned hw ho hn hdue (by decide) ht.working hnone

end

/-- Settles O29: by whether the profile takes the slot, and then by its depth and the size rule. -/
theorem compositionStepTurns : Obligations.CompositionStepTurns := by
  refine ⟨fun _ _ => rfl, anyMissing_iff, fun _ _ _ => rfl, fun s => ⟨exec_compositionStep_idle, ?_⟩⟩
  intro w hw hn hq hcanon p x h bytes k c on entered batch leaves
  have hwf : Tbl.wf Holding.empty s.composer.holding = true := by
    obtain ⟨-, -, -, -, -, -, -, hwf, -⟩ := hcanon
    exact hwf
  have ho : s.composer.outbound = [] := by
    obtain ⟨-, -, ho, -⟩ := hq
    exact ho
  refine ⟨fun hpass => ?passed, fun he hk => ?takes⟩
  case passed =>
    exact exec_compositionStep_unoffered hw hn hq (considerNext_passedOver hn hpass) ⟨rfl, rfl, rfl, rfl⟩
  case takes =>
    have ht : Takes s w := ⟨hn, he, hk⟩
    refine ⟨fun hd => ?set, fun hfits hd => ?held, fun hfits hne hd => ?batched, fun hheld hbig hd => ?oversize⟩
    case set => exact exec_compositionStep_offered hw hn hq (considerNext_set ht ho hd) rfl ⟨rfl, rfl, rfl, rfl⟩ rfl
    case held => exact exec_compositionStep_unoffered hw hn hq (considerNext_held ht hfits hd) ⟨rfl, rfl, rfl, rfl⟩
    case batched =>
      exact exec_compositionStep_offered hw hn hq (considerNext_batched ht ho hwf hfits hne hd) rfl
        ⟨rfl, rfl, rfl, rfl⟩ rfl
    case oversize =>
      exact exec_compositionStep_offered hw hn hq (considerNext_oversize ht ho hwf hheld hbig hd) rfl
        ⟨rfl, rfl, rfl, rfl⟩ rfl

end Sys2Proof.Proofs.Turns
end

/-! ## Offers to the egress queue (O35) -/

section
namespace Sys2Proof.Proofs.Offers
open Sys2Proof Sys2Proof.Machine Sys2Proof.Laws Sys2Proof.Proofs.Batches Sys2Proof.Proofs.Turns

section
variable {s : State} {f : OutFrame} {rest : List OutFrame} {x y : Egress}

theorem takes_of_lt (h : x.queue.length < 32) : x.takes = true := by
  unfold Egress.takes
  rw [hasRoom_of_lt h, Bool.true_or]

theorem takes_of_low (h : x.hasLow = true) : x.takes = true := by
  unfold Egress.takes
  rw [h, Bool.or_true]

/-- What the composer's offer leaves, by what the queue makes of the frame and by what the frame ends (R132, R134). -/
theorem composerOffer_leaves (hoffer : s.composerOffer = some (s.takeOutbound f rest))
    (hy : s.egress.takeFrame s.tru.osc f = y) :
    (f.endsFlush = false → s.composerOffer = some { s with
      composer := { s.composer with outbound := rest }, egress := { y with composerWaits := false } })
    ∧ (f.endsFlush = true → s.mgmt.deferredFlush = none → s.composerOffer = some { s with
      composer := { s.composer with outbound := rest, flushBusy := false }
      egress := { y with composerWaits := false } })
    ∧ (∀ d, f.endsFlush = true → s.mgmt.deferredFlush = some d → s.composerOffer = some { s with
      composer := { s.composer with outbound := rest, flushBusy := false }
      egress := { y with composerWaits := false }
      mgmt := flushFormed s d }) := by
  subst hy
  exact ⟨fun hf => hoffer.trans (congrArg some (takeOutbound_plain hf)),
    fun hf hd => hoffer.trans (congrArg some (takeOutbound_ends hf hd)),
    fun _ hf hd => hoffer.trans (congrArg some (takeOutbound_answers hf hd))⟩

/-! ### A set that meets a full queue, or a READY link (R143, R149) -/

/-- The composer waits with the frame it offers. -/
def waitingWith (s : State) (f : OutFrame) : State :=
  { s with
    composer := { s.composer with
      outbound := [f], counts := { s.composer.counts with waits := satInc s.composer.counts.waits } }
    egress := { s.egress with composerWaits := true } }

theorem due_offering_full (hx : s.mgmt.exec = .executing ∨ s.mgmt.exec = .idle ∧ s.mgmt.formed = [])
    (hl : s.egress.link ≠ .ready) (hfull : 32 ≤ s.egress.queue.length)
    (hlow : ∀ o ∈ s.egress.queue, o.frame.cls ≠ .low) (hwaits : s.egress.composerWaits = false) :
    Due 1 (offering s f) (waitingWith s f) := by
  have hstep : (offering s f).egressStep = some (waitingWith s f) :=
    (egressStep_offer (s := offering s f) (.inl hl) hx).trans
      (composerOffer_waits (s := offering s f) rfl hfull hlow hwaits)
  exact .step hstep (.rest ((egressStep_offer (s := waitingWith s f) (.inl hl) hx).trans
    (composerOffer_waiting (s := waitingWith s f) hfull rfl)))

/-- The entry that a frame makes as it enters is neither promoted nor at its limit (R141, R142). -/
theorem fresh_entry {p : Params} (osc : Nat) (f : OutFrame) (hhigh : 1 ≤ p.highBypassMax)
    (hlow : 1 ≤ p.lowBypassMax) :
    let e : Entry := { frame := f, enqueued := osc }
    e.promoted p osc = false ∧ e.limited p osc = false := by
  intro e
  have hage : e.age osc = 0 := Nat.sub_self osc
  have hpromoted : e.promoted p osc = false := by
    unfold Entry.promoted
    rw [hage]
    simp
  refine ⟨hpromoted, ?_⟩
  unfold Entry.limited
  split
  · exact decide_eq_false (by change ¬p.highBypassMax ≤ 0; omega)
  · exact decide_eq_false (by change ¬p.lowBypassMax ≤ 0; omega)
  · rfl

theorem choosePosition_alone {p : Params} {osc : Nat} {e : Entry} (hl : e.limited p osc = false)
    (hv : e.effective p osc ≠ .variableClass) : choosePosition p osc [e] = some 0 := by
  unfold choosePosition highestClass
  cases he : e.effective p osc <;> simp_all

/-- No effective class is VARIABLE (R141). -/
theorem effective_ne_variable (p : Params) (osc : Nat) (e : Entry) : e.effective p osc ≠ .variableClass := by
  unfold Entry.effective
  split
  · nofun
  · nofun
  · nofun
  · split <;> nofun

/-- The scheduler once entry e, at position i, is chosen, and the older entries are passed over (R144 to R146). -/
def sends (p : Params) (osc : Nat) (x : Egress) (i : Nat) (e : Entry) : Egress :=
  { x with
    queue := (x.queue.take i).map (Entry.passedOver p osc (e.effective p osc)) ++ x.queue.drop (i + 1)
    link := .sending e.frame (e.promoted p osc)
    counts := { x.counts with
      limited := if e.limited p osc = true then satInc x.counts.limited else x.counts.limited } }

theorem select_sends {p : Params} {osc i : Nat} {e : Entry} (hc : choosePosition p osc x.queue = some i)
    (he : x.queue[i]? = some e) : x.select p osc = sends p osc x i e := by
  unfold Egress.select
  rw [hc]
  dsimp only
  rw [he]
  rfl

/-- A frame that is neither promoted nor limited has entered an empty queue and been chosen at once (R143, R147). -/
def chosenAtOnce (x : Egress) (f : OutFrame) : Egress :=
  { x with
    link := .sending f false, composerWaits := false
    counts := { x.counts with highWater := max x.counts.highWater 1 } }

theorem select_entered {p : Params} {osc : Nat} (hq : x.queue = []) (hhigh : 1 ≤ p.highBypassMax)
    (hlow : 1 ≤ p.lowBypassMax) :
    Egress.select p osc { x.enter osc f with composerWaits := false } = chosenAtOnce x f := by
  obtain ⟨hpromoted, hlimited⟩ := fresh_entry osc f hhigh hlow
  have hqueue : (x.enter osc f).queue = [{ frame := f, enqueued := osc }] := congrArg (· ++ [_]) hq
  have hchosen := select_sends (p := p) (osc := osc) (x := { x.enter osc f with composerWaits := false })
    (i := 0) (e := { frame := f, enqueued := osc })
    (by rw [hqueue]; exact choosePosition_alone hlimited (effective_ne_variable _ _ _)) (by rw [hqueue]; rfl)
  rw [hchosen]
  unfold sends
  rw [hqueue, hpromoted, if_neg (by rw [hlimited]; decide)]
  unfold Egress.enter chosenAtOnce
  dsimp only
  rw [hq]
  rfl

/-- A set that enters an empty queue at a READY link is chosen at once (R143, R147). -/
theorem due_offering_ready (hx : s.mgmt.exec = .idle ∧ s.mgmt.formed = []) (ho : s.composer.outbound = [])
    (hl : s.egress.link = .ready) (hq : s.egress.queue = []) (hf : f.endsFlush = false)
    (hhigh : 1 ≤ s.params.highBypassMax) (hlow : 1 ≤ s.params.lowBypassMax) :
    Due 2 (offering s f) { s with egress := chosenAtOnce s.egress f } := by
  have hroom : s.egress.queue.length < 32 := by
    rw [hq]
    decide
  have htaken : (offering s f).egressStep = some (sent s f) := by
    rw [egressStep_offer (s := offering s f) (.inr hq) (.inr hx),
      composerOffer_taken (s := offering s f) rfl (.inl hroom), takeOutbound_offering ho hroom hf]
  have hchosen : (sent s f).egressStep = some { s with egress := chosenAtOnce s.egress f } :=
    (egressStep_selects (s := sent s f) hl (List.append_ne_nil_of_right_ne_nil _ (List.cons_ne_nil _ _))).trans
      (congrArg (fun x => some { s with egress := x }) (select_entered hq hhigh hlow))
  have hlink : (chosenAtOnce s.egress f).link ≠ .ready := nofun
  exact .step htaken (.step hchosen (.rest
    ((egressStep_offer (s := { s with egress := chosenAtOnce s.egress f }) (.inl hlink) (.inr hx)).trans
      (composerOffer_nothing ho))))

end

/-- Settles O35: each producer's offer by the room and the LOW entries of the queue; the step by what its set meets. -/
theorem offersToTheQueue : Obligations.OffersToTheQueue := by
  intro s x entered displaced'
  refine ⟨fun a => ⟨fun hr => ?enters, fun l e r hq hfull he hl => ?sheds, offerAnswer_waits⟩, ?composer, ?step⟩
  case enters =>
    rw [offerAnswer_taken (takes_of_lt hr), takeFrame_enters hr]
    rfl
  case sheds =>
    rw [offerAnswer_taken (takes_of_low (hasLow_of_mem hq he)), takeFrame_sheds hq hfull he hl]
    rfl
  case composer =>
    intro f rest ho k ended leaves
    exact ⟨fun hr => composerOffer_leaves (composerOffer_taken ho (.inl hr)) (takeFrame_enters hr),
      fun l e r hq hfull he hl hw => composerOffer_leaves
        (composerOffer_taken ho (.inr ⟨hw, hasLow_of_mem hq he⟩)) (takeFrame_sheds hq hfull he hl),
      composerOffer_waits ho, composerOffer_waiting⟩
  case step =>
    intro w hw hn ho hidle hformed p y f c on he hk hd
    have ht : Takes s w := ⟨hn, he, hk⟩
    have hx : s.mgmt.exec = .idle ∧ s.mgmt.formed = [] := ⟨hidle, hformed⟩
    refine ⟨fun hl hfull hlow hwaits => ?full, fun hl hq h7 hhigh hlow => ?ready⟩
    case full =>
      have hdue : Due 1 (s.considerNext w) (waitingWith (turned s w (setCounts s w)) (setOf s w)) := by
        rw [considerNext_set ht ho hd]
        exact due_offering_full (.inr hx) hl hfull.ge hlow hwaits
      rw [exec_compositionStep_due hw ho hn hdue (by decide) rfl]
      exact congrArg _ (if_neg fun h => List.cons_ne_nil _ _ h.2)
    case ready =>
      have hdue := due_offering_ready (s := turned s w (setCounts s w)) (f := setOf s w) hx ho hl hq rfl hhigh hlow
      rw [← considerNext_set ht ho hd] at hdue
      rw [exec_compositionStep_due hw ho hn hdue (by decide) rfl]
      exact congrArg _ (if_neg fun h => absurd h.1 h7.ne)

end Sys2Proof.Proofs.Offers
end

/-! ## The batch of one profile's sets, ahead of a directive's answer (R127, R132, R133; log entry 12) -/

section
namespace Sys2Proof.Proofs.OneBatch
open Sys2Proof Sys2Proof.Machine Sys2Proof.Laws Sys2Proof.Proofs.Batches Sys2Proof.Proofs.Offers
  Sys2Proof.Proofs.Turns

/-- The sets that profile n holds have been taken into a batch frame, which is counted (R131). -/
def batched (s : State) (n : Nat) : State :=
  { s with composer := { s.composer with
    counts := { s.composer.counts with batches := satInc s.composer.counts.batches } } }.setHolding n Holding.empty

section
variable {s u : State} {n : Nat} {f : OutFrame}

/-- The batch of one profile's sets is on offer, alone. -/
theorem formBatch_offering (ho : s.composer.outbound = []) (h : (s.holding n).sets ≠ []) :
    s.formBatch n = offering (batched s n) (batchAs s n (s.holding n).sets) := by
  rw [formBatch_batchedTo h]
  unfold batchedTo
  rw [ho]
  rfl

/-- The one frame on offer in a quiet state enters the queue, and no drain is at its end. -/
theorem settleAndJudge_offering (hx : u.mgmt.exec = .executing ∨ u.mgmt.exec = .idle ∧ u.mgmt.formed = [])
    (ho : u.composer.outbound = []) (hl : u.egress.link ≠ .ready) (hr : u.egress.queue.length < 32)
    (hd : u.mgmt.engine ≠ .draining) (hf : f.endsFlush = false) : (offering u f).settleAndJudge = sent u f :=
  ((due_offering hx ho hl hr hf).settleAndJudge (by decide)).trans (judgeDrain_rest fun h => hd h.1)

/-- A directive whose work leaves one frame on offer: with two free places the frame enters the queue, and then the
answer. -/
theorem takeDirective_offering {d : Directive} {r : Request} {cls : Nat} {x : Reply} (hs : d.source = r.source)
    (ht : d.tag = r.tag) (hm : s.knows r cls)
    (hw : (s.setExec .executing).directiveWork cls d = ((offering u f).setExec .executing, some x)) (hq : u.quiet)
    (hr : u.egress.queue.length < 31) (hd : u.mgmt.engine ≠ .draining) (hf : f.endsFlush = false) :
    s.takeDirective d = (sent u f).answered r (d.code.getD 0) x := by
  obtain ⟨hidle, hclass, hbusy⟩ := hm
  obtain ⟨huidle, huformed, hout, -, hlink, -⟩ := hq
  have hsent : ((offering u f).setExec .executing).settleAndJudge = (sent u f).setExec .executing :=
    settleAndJudge_offering (u := u.setExec .executing) (.inl rfl) hout hlink (Nat.lt_succ_of_lt hr) hd hf
  have hroom : (sent u f).egress.queue.length < 32 := by
    change (u.egress.queue ++ [_]).length < 32
    rw [List.length_append, List.length_singleton]
    omega
  have hquiet : (sent u f).quiet := ⟨huidle, huformed, hout, hroom, hlink, fun h => hd h.1⟩
  rw [takeDirective_idle hidle, runDirective_answer hbusy (hs ▸ hclass) hw, hsent, hs, ht]
  exact quiet_answered hquiet r _ x

end

end Sys2Proof.Proofs.OneBatch
end

/-! ## ENABLE_PROFILE and DISABLE_PROFILE (O46) -/

section
namespace Sys2Proof.Proofs.ProfileState
open Sys2Proof Sys2Proof.Machine Sys2Proof.Laws Sys2Proof.Proofs.Batches Sys2Proof.Proofs.Offers
  Sys2Proof.Proofs.Turns Sys2Proof.Proofs.OneBatch

/-! ### The tests of ENABLE_PROFILE, in their order (R126) -/

/-- Two entries of a profile's member range name one context. -/
theorem duplicateMember_iff (s : State) (p : Profile) : s.duplicateMember p = true ↔
    ∃ a b, a < b ∧ b < p.count ∧ s.member (p.base + a) = s.member (p.base + b) := by
  unfold State.duplicateMember State.memberList
  rw [decide_eq_true_iff, List.nodup_map_iff_inj_on List.nodup_range]
  simp only [List.mem_range]
  constructor
  · intro h
    push Not at h
    obtain ⟨a, ha, b, hb, heq, hne⟩ := h
    rcases Nat.lt_or_gt_of_ne hne with hlt | hlt
    · exact ⟨a, b, hlt, hb, heq⟩
    · exact ⟨b, a, hlt, ha, heq.symm⟩
  · rintro ⟨a, b, hlt, hb, heq⟩ h
    exact hlt.ne (h a (hlt.trans hb) b hb heq)

section
variable {s : State} {n : Nat}

theorem enableProfileWork_badIndex (hn : 7 < n) : s.enableProfileWork n = (s, reply .badIndex) := if_pos hn

theorem enableProfileWork_enabled (hn : n ≤ 7) (he : (s.profile n).enabled = true) :
    s.enableProfileWork n = (s, reply .done) := (if_neg (Nat.not_lt.2 hn)).trans (if_pos he)

variable (hn : n ≤ 7) (he : (s.profile n).enabled = false)
include hn he

/-- The tests that a profile which is not enabled meets. -/
theorem enableProfileWork_tests : s.enableProfileWork n =
    if 1024 < (s.profile n).base + (s.profile n).count then (s, reply .badIndex)
    else if s.params.rate % (s.profile n).decimation ≠ 0 then (s, reply .rateMismatch)
    else if (s.profile n).depth ≠ 0 ∧ (s.profile n).cls ≠ .low then (s, reply .invalidValue)
    else if s.duplicateMember (s.profile n) = true then (s, reply .duplicateMember)
    else (s.setProfile n { s.profile n with enabled := true }, reply .done) :=
  (if_neg (Nat.not_lt.2 hn)).trans (if_neg (Bool.eq_false_iff.1 he))

theorem enableProfileWork_range (h : 1024 < (s.profile n).base + (s.profile n).count) :
    s.enableProfileWork n = (s, reply .badIndex) := (enableProfileWork_tests hn he).trans (if_pos h)

variable (hr : (s.profile n).base + (s.profile n).count ≤ 1024)
include hr

theorem enableProfileWork_rate (h : s.params.rate % (s.profile n).decimation ≠ 0) :
    s.enableProfileWork n = (s, reply .rateMismatch) := by
  rw [enableProfileWork_tests hn he, if_neg (Nat.not_lt.2 hr), if_pos h]

variable (hk : s.params.rate % (s.profile n).decimation = 0)
include hk

theorem enableProfileWork_class (h : (s.profile n).depth ≠ 0 ∧ (s.profile n).cls ≠ .low) :
    s.enableProfileWork n = (s, reply .invalidValue) := by
  rw [enableProfileWork_tests hn he, if_neg (Nat.not_lt.2 hr), if_neg (not_not_intro hk), if_pos h]

variable (hd : (s.profile n).depth = 0 ∨ (s.profile n).cls = .low)
include hd

theorem enableProfileWork_members : s.enableProfileWork n =
    if s.duplicateMember (s.profile n) = true then (s, reply .duplicateMember)
    else (s.setProfile n { s.profile n with enabled := true }, reply .done) := by
  rw [enableProfileWork_tests hn he, if_neg (Nat.not_lt.2 hr), if_neg (not_not_intro hk),
    if_neg fun h => hd.elim h.1 h.2]

end

/-! ### DISABLE_PROFILE (R127) -/

/-- The state with profile n disabled. -/
def disabled (s : State) (n : Nat) : State := s.setProfile n { s.profile n with enabled := false }

section
variable {s : State} {n : Nat}

theorem disableProfileWork_enabled (hn : n ≤ 7) (he : (s.profile n).enabled = true) :
    s.disableProfileWork n = ((disabled s n).formBatch n, reply .done) :=
  (if_neg (Nat.not_lt.2 hn)).trans (if_neg (by rw [he]; decide))

theorem batchAs_disabled (hw : Tbl.wf Profile.zero s.profiles = true) (sets : List (List Byte)) :
    batchAs (disabled s n) n sets = batchAs s n sets := by
  have hprofile : (disabled s n).profile n = { s.profile n with enabled := false } :=
    (profile_setProfile hw n _ n).trans (if_pos rfl)
  unfold batchAs
  rw [hprofile]

end

/-! ### The commands -/

section
variable {s u : State} {r : Request} {cls : Nat} {n : Half} {o : OutcomeCode}

theorem enableProfile_completes (hcan : s.canRun r cls) (hp : (s.access 4).permits cls = true)
    (hwork : (s.setExec .executing).enableProfileWork n.toNat = (u.setExec .executing, reply o)) :
    Completes s (.enableProfile r n) r .enableProfile u (reply o) :=
  ⟨_, rfl, own_carried (c := .enableProfile) rfl rfl rfl rfl rfl rfl hcan.1 (.inl hcan.2) hp nofun
    (congrArg (fun x : State × Reply => (x.1, some x.2)) hwork)⟩

theorem disableProfile_completes (hcan : s.canRun r cls) (hp : (s.access 4).permits cls = true)
    (hwork : (s.setExec .executing).disableProfileWork n.toNat = (u.setExec .executing, reply o)) :
    Completes s (.disableProfile r n) r .disableProfile u (reply o) :=
  ⟨_, rfl, own_carried (c := .disableProfile) rfl rfl rfl rfl rfl rfl hcan.1 (.inl hcan.2) hp nofun
    (congrArg (fun x : State × Reply => (x.1, some x.2)) hwork)⟩

/-- DISABLE_PROFILE from a permitted sender comes to its own work (R154, R156). -/
theorem disableProfile_checked (hcan : s.canRun r cls) (hp : (s.access 4).permits cls = true) :
    (s.setExec .executing).directiveWork cls (directive r .disableProfile 0 n.toNat 0 0 []) =
      (s.setExec .executing).ownWork cls .disableProfile (directive r .disableProfile 0 n.toNat 0 0 []) := by
  have hpermitted : (s.setExec .executing).permitted .disableProfile cls = true := hp
  refine directiveWork_own rfl ((Checks.checkKnown_wellFramed (k := .disableProfile) ⟨nofun, rfl, rfl⟩).trans ?_)
  rw [if_neg fun h => hcan.2 h.1, if_neg (by rw [hpermitted]; decide), if_neg fun h => nomatch h.1]

/-- DISABLE_PROFILE of an enabled profile with sets held: their batch enters the queue, and the answer behind it. -/
theorem exec_disableProfile_held (hcan : s.canRun r cls) (hp : (s.access 4).permits cls = true) (hn : n.toNat ≤ 7)
    (he : (s.profile n.toNat).enabled = true) (hsets : (s.holding n.toNat).sets ≠ [])
    (hw : Tbl.wf Profile.zero s.profiles = true) (hq : s.quiet) (hr : s.egress.queue.length < 31)
    (hd : s.mgmt.engine ≠ .draining) :
    exec (.disableProfile r n) s =
      .next ((sent (batched (disabled s n.toNat) n.toNat) (batchAs s n.toNat (s.holding n.toNat).sets)).answered r 0x14
        (reply .done)) := by
  obtain ⟨hidle, hformed, ho, hroom, hl, -⟩ := hq
  have hformed_batch : (disabled (s.setExec .executing) n.toNat).formBatch n.toNat =
      (offering (batched (disabled s n.toNat) n.toNat) (batchAs s n.toNat (s.holding n.toNat).sets)).setExec
        .executing := by
    rw [← batchAs_disabled hw]
    exact formBatch_offering (s := disabled (s.setExec .executing) n.toNat) ho hsets
  have hwork := disableProfileWork_enabled (s := s.setExec .executing) hn he
  rw [hformed_batch] at hwork
  exact congrArg _ (takeDirective_offering (u := batched (disabled s n.toNat) n.toNat) rfl rfl hcan.1
    ((disableProfile_checked hcan hp).trans (congrArg (fun x : State × Reply => (x.1, some x.2)) hwork))
    ⟨hidle, hformed, ho, hroom, hl, fun h => hd h.1⟩ hr hd rfl)

end

/-- Settles O46: the tests in their order, and for DISABLE_PROFILE by the enabled state and the sets held. -/
theorem profileEnableAndDisable : Obligations.ProfileEnableAndDisable := by
  intro s r cls n hcan hp p enable disable twice sets off
  have henable {o : OutcomeCode} (u : State) := enableProfile_completes (u := u) (o := o) (n := n) hcan hp
  have hdisable {o : OutcomeCode} (u : State) := disableProfile_completes (u := u) (o := o) (n := n) hcan hp
  refine ⟨fun hn => ⟨henable s (enableProfileWork_badIndex hn), hdisable s (if_pos hn)⟩,
    fun hn he => henable s (enableProfileWork_enabled hn he),
    fun hn he hr => henable s (enableProfileWork_range hn he hr),
    fun hn he hr => ⟨fun hk => henable s (enableProfileWork_rate hn he hr hk),
      fun hk hd => henable s (enableProfileWork_class hn he hr hk hd),
      fun hk hd hdup => ?twice, fun hk hd hdup => ?once⟩,
    fun hn he => hdisable s ((if_neg (Nat.not_lt.2 hn)).trans (if_pos he)), fun hn he hnone => ?noneHeld,
    fun hn he hsets hcanon hq hr hd => ?held⟩
  case twice =>
    exact henable s ((enableProfileWork_members (s := s.setExec .executing) hn he hr hk hd).trans
      (if_pos ((duplicateMember_iff s p).2 hdup)))
  case once =>
    exact henable _ ((enableProfileWork_members (s := s.setExec .executing) hn he hr hk hd).trans
      (if_neg (mt (duplicateMember_iff s p).1 hdup)))
  case noneHeld =>
    have hwork := disableProfileWork_enabled (s := s.setExec .executing) hn he
    rw [formBatch_empty (s := disabled (s.setExec .executing) n.toNat) hnone] at hwork
    exact hdisable off hwork
  case held =>
    obtain ⟨-, -, -, -, -, hw, -⟩ := hcanon
    exact exec_disableProfile_held hcan hp hn he hsets hw hq hr hd

end Sys2Proof.Proofs.ProfileState
end

/-! ## The hold expiry and the write of the batch hold limit (O32) -/

section
namespace Sys2Proof.Proofs.HoldExpiry
open Sys2Proof Sys2Proof.Machine Sys2Proof.Laws Sys2Proof.Proofs.Batches Sys2Proof.Proofs.Offers
  Sys2Proof.Proofs.Turns Sys2Proof.Proofs.OneBatch

/-! ### One expiry (R133) -/

/-- The sets that profile n holds have been taken into a batch frame at their expiry; both are counted (R133, R138). -/
def expired (s : State) (n : Nat) : State :=
  { s with composer := { s.composer with counts := { s.composer.counts with
    batches := satInc s.composer.counts.batches
    holdExpiries := satInc s.composer.counts.holdExpiries } } }.setHolding n Holding.empty

section
variable {s : State} {n m : Nat}

theorem holdExpire_offering (ho : s.composer.outbound = []) (h : (s.holding n).sets ≠ []) :
    s.holdExpire n = offering (expired s n) (batchAs s n (s.holding n).sets) := by
  unfold State.holdExpire
  rw [formBatch_offering ho h]
  rfl

theorem holdExpire_setExec (s : State) (n : Nat) (e : Execution) :
    (s.setExec e).holdExpire n = (s.holdExpire n).setExec e := by
  unfold State.holdExpire
  by_cases h : (s.holding n).sets = []
  · rw [formBatch_empty h, formBatch_empty (s := s.setExec e) h]
    rfl
  · rw [formBatch_held h, formBatch_held (s := s.setExec e) h]
    rfl

/-- A hold timer that runs and has reached the limit is due. -/
theorem holdDue_iff (s : State) (n : Nat) : s.holdDue n = true ↔
    ∃ t, (s.holding n).timer = some t ∧ t + s.params.holdLimit * 1000000 ≤ s.tru.osc := by
  unfold State.holdDue
  cases (s.holding n).timer with
  | none => simp
  | some t => simp

/-- An expiry of one profile leaves the hold timers of the others. -/
theorem holdDue_holdExpire (hw : Tbl.wf Holding.empty s.composer.holding = true) (hmn : m ≠ n) :
    (s.holdExpire n).holdDue m = s.holdDue m := by
  have hformed := formed_one hw n
  have hholding : (s.holdExpire n).holding m = s.holding m :=
    (hformed.holding m).trans (if_neg fun h => hmn (List.mem_singleton.1 h.1))
  have hparams : (s.holdExpire n).params = s.params := (congrArg State.params hformed.only :)
  have htru : (s.holdExpire n).tru = s.tru := (congrArg State.tru hformed.only :)
  rw [Bool.eq_iff_iff, holdDue_iff, holdDue_iff, hholding, hparams, htru]

/-- One profile's part of the expiries that are due. -/
def holdStep (s : State) (n : Nat) : State := if s.holdDue n then s.holdExpire n else s

theorem foldl_holdStep_none {l : List Nat} (h : ∀ m ∈ l, s.holdDue m = false) : l.foldl holdStep s = s := by
  induction l with
  | nil => rfl
  | cons m l ih =>
    obtain ⟨hm, hl⟩ := List.forall_mem_cons.1 h
    have hstep : holdStep s m = s := if_neg (Bool.eq_false_iff.1 hm)
    rw [List.foldl_cons, hstep, ih hl]

/-- A list of profiles of which one alone is due has that one's expiry. -/
theorem foldl_holdStep_one {l : List Nat} (hn : n ∈ l) (hd : l.Nodup) (hdue : s.holdDue n = true)
    (hothers : ∀ m ∈ l, m ≠ n → s.holdDue m = false) (hw : Tbl.wf Holding.empty s.composer.holding = true) :
    l.foldl holdStep s = s.holdExpire n := by
  induction l with
  | nil => cases hn
  | cons m l ih =>
    obtain ⟨hm, hl⟩ := List.nodup_cons.1 hd
    obtain ⟨hm_others, hl_others⟩ := List.forall_mem_cons.1 hothers
    rw [List.foldl_cons]
    by_cases hmn : m = n
    · subst hmn
      have hstep : holdStep s m = s.holdExpire m := if_pos hdue
      rw [hstep]
      refine foldl_holdStep_none fun j hj => ?_
      have hjm : j ≠ m := fun h => hm (h ▸ hj)
      rw [holdDue_holdExpire hw hjm]
      exact hl_others j hj hjm
    · have hstep : holdStep s m = s := if_neg (Bool.eq_false_iff.1 (hm_others hmn))
      rw [hstep]
      exact ih ((List.mem_cons.1 hn).resolve_left fun h => hmn h.symm) hl hl_others

theorem holdExpireDue_eq (s : State) : s.holdExpireDue = (List.range 8).foldl holdStep s := rfl

/-- No hold timer of profile n has reached the limit. -/
theorem holdDue_false (h : ∀ t, (s.holding n).timer = some t → s.tru.osc < t + s.params.holdLimit * 1000000) :
    s.holdDue n = false := by
  rw [Bool.eq_false_iff, ne_eq, holdDue_iff]
  rintro ⟨t, ht, hle⟩
  exact absurd (h t ht) (Nat.not_lt.2 hle)

theorem holdExpireDue_none
    (h : ∀ n t, n < 8 → (s.holding n).timer = some t → s.tru.osc < t + s.params.holdLimit * 1000000) :
    s.holdExpireDue = s :=
  (holdExpireDue_eq s).trans
    (foldl_holdStep_none fun m hm => holdDue_false fun t => h m t (List.mem_range.1 hm))

theorem holdExpireDue_one {t : Nat} (hn : n < 8) (ht : (s.holding n).timer = some t)
    (hdue : t + s.params.holdLimit * 1000000 ≤ s.tru.osc)
    (hothers : ∀ m y, m < 8 → m ≠ n → (s.holding m).timer = some y →
      s.tru.osc < y + s.params.holdLimit * 1000000)
    (hw : Tbl.wf Holding.empty s.composer.holding = true) : s.holdExpireDue = s.holdExpire n :=
  (holdExpireDue_eq s).trans
    (foldl_holdStep_one (List.mem_range.2 hn) List.nodup_range ((holdDue_iff s n).2 ⟨t, ht, hdue⟩)
      (fun m hm hmn => holdDue_false fun y => hothers m y (List.mem_range.1 hm) hmn) hw)

/-! ### The expiry as a command (R133, R147) -/

theorem exec_holdExpiry_stopped {n : Fin 8} (h : (s.holding n.val).timer = none) :
    exec (.holdExpiry n) s = .next s := by
  change execHoldExpiry n s = _
  unfold execHoldExpiry
  rw [h]

theorem exec_holdExpiry_running {n : Fin 8} {t : Nat} (h : (s.holding n.val).timer = some t) :
    exec (.holdExpiry n) s =
      .next (((s.elapse (t + s.params.holdLimit * 1000000 - s.tru.osc)).holdExpire n.val).settleAndJudge) := by
  change execHoldExpiry n s = _
  unfold execHoldExpiry
  rw [h]
  rfl

/-- The batch of the sets held enters the queue of a quiet state (R133, R147). -/
theorem settleAndJudge_holdExpire (hq : s.quiet) (hd : s.mgmt.engine ≠ .draining)
    (hsets : (s.holding n).sets ≠ []) :
    (s.holdExpire n).settleAndJudge = sent (expired s n) (batchAs s n (s.holding n).sets) := by
  obtain ⟨hidle, hformed, ho, hr, hl, -⟩ := hq
  rw [holdExpire_offering ho hsets]
  exact settleAndJudge_offering (u := expired s n) (.inr ⟨hidle, hformed⟩) ho hl hr hd rfl

end

/-! ### The write of the limit (R133, R159) -/

/-- The state with the batch hold limit clamped. -/
def limited (s : State) (v : Word) : State :=
  { s with params := { s.params with holdLimit := clampNat 10 60000 v.toNat } }

/-- Whether the limit was clamped. -/
def clamps (v : Word) : Bool := decide (v.toNat < 10 ∨ 60000 < v.toNat)

section
variable {s u : State} {r : Request} {cls n : Nat} {v : Word} {f : OutFrame}

theorem writeParam_limit (hu : (limited s v).holdExpireDue = u) : s.writeParam 19 v.toNat = .written u (clamps v) := by
  rw [writeParam_holdLimit]
  unfold numeric
  rw [clampNat_ne v.toNat (by decide)]
  exact congrArg (WriteResult.written · (clamps v)) hu

theorem writeHoldLimit_completes (hcan : s.canRun r cls) (hp : (s.access 0).permits cls = true)
    (hu : (limited (s.setExec .executing) v).holdExpireDue = u.setExec .executing) :
    Completes s (.writeHoldLimit r v) r .writeEntries u (wrote (clamps v)) :=
  (ParamWrites.completes_param (i := 19) rfl (by decide) hcan hp).2 u _ (writeParam_limit hu)

/-- The write of one Engine Parameter by a permitted sender comes to the parameter's own write (R154, R158, R159). -/
theorem directiveWork_param {i : Nat} {t : State} {b : Bool} (he : s.mgmt.engine ≠ .resetting) (hi : i ≤ 22)
    (hp : (s.access 0).permits cls = true) (hw : s.writeParam i v.toNat = .written t b) :
    s.directiveWork cls (paramDirective r i v) = (t, some (wrote b)) := by
  let data := beBytes 4 v.toNat
  have hchecks : s.checkKnown cls .writeEntries (paramDirective r i v) = none := by
    have hframed : wellFramed .writeEntries (paramDirective r i v) := ⟨fun _ => Nat.zero_le 7, rfl, rfl⟩
    refine (Checks.checkKnown_wellFramed hframed).trans ?_
    rw [if_neg fun h => he h.1, if_neg nofun, if_neg fun h => nomatch h.1]
  have hin : ¬inTable 0 (i : Int) = false := by simp [inTable, lastIndex, hi]
  have hpermits : ¬s.permits 0 cls = false := Bool.eq_false_iff.not_left.2 hp
  have hentry : s.writeEntry 0 i cls data = .written t b := by
    change s.writeParamEntry i cls data = _
    unfold State.writeParamEntry
    rw [if_neg hin, if_neg hpermits, field_beBytes_word]
    exact hw
  have htransfer : s.writeWork cls (paramDirective r i v) = (t, wrote b) := by
    change writeTransfer 0 cls _ (entriesOf 4 1 data) i 0 false s = _
    rw [entriesOf_one (beBytes_length 4 _), writeTransfer_one, hentry]
  exact (directiveWork_own rfl hchecks).trans (congrArg (fun x : State × Reply => (x.1, some x.2)) htransfer)

/-- An answer to a write of one entry counts as executed alone (R167). -/
theorem answered_wrote (m : MgmtCounts) (b : Bool) :
    m.answered (wrote b) = { m with executed := satInc m.executed } := by
  cases b <;> rfl

/-- The write that expires one list: the batch enters the queue, and the answer behind it (log entry 12). -/
theorem exec_writeHoldLimit_expires (hcan : s.canRun r cls) (hp : (s.access 0).permits cls = true)
    (hu : (limited (s.setExec .executing) v).holdExpireDue = (limited (s.setExec .executing) v).holdExpire n)
    (hsets : (s.holding n).sets ≠ []) (hq : s.quiet) (hr : s.egress.queue.length < 31)
    (hd : s.mgmt.engine ≠ .draining) :
    exec (.writeHoldLimit r v) s =
      .next ((sent (expired (limited s v) n) (batchAs s n (s.holding n).sets)).answered r 0x02 (wrote (clamps v))) := by
  obtain ⟨hidle, hformed, ho, hroom, hl, -⟩ := hq
  have hbatch := holdExpire_offering (s := limited (s.setExec .executing) v) ho hsets
  have hwork := directiveWork_param (s := s.setExec .executing) (i := 19) (r := r) hcan.2 (by decide) hp
    (writeParam_limit (hu.trans hbatch))
  exact congrArg _ (takeDirective_offering (u := expired (limited s v) n) rfl rfl hcan.1 hwork
    ⟨hidle, hformed, ho, hroom, hl, fun h => hd h.1⟩ hr hd rfl)

end

/-- Settles O32: the expiry of a running timer, and the write by the timers that the new limit finds past it. -/
theorem holdLimitAndExpiry : Obligations.HoldLimitAndExpiry := by
  refine fun s => ⟨fun n => exec_holdExpiry_stopped, fun n t ht hsets hq hd => ?expiry,
    fun r cls v hcan hp hcanon => ?write⟩
  case expiry =>
    intro u f k
    rw [exec_holdExpiry_running ht, settleAndJudge_holdExpire (s := u) hq hd hsets]
    rfl
  case write =>
    obtain ⟨-, -, -, -, -, -, -, hw, -⟩ := hcanon
    intro u b
    refine ⟨fun hnone => ?none, fun n t hn ht hdue hothers => ?one⟩
    case none =>
      exact writeHoldLimit_completes (u := u) hcan hp
        (holdExpireDue_none (s := limited (s.setExec .executing) v) hnone)
    case one =>
      have hexpires := holdExpireDue_one (s := limited (s.setExec .executing) v) hn ht hdue hothers hw
      refine ⟨writeHoldLimit_completes hcan hp (hexpires.trans (holdExpire_setExec u n _)),
        fun hsets hq hr hd => ?_⟩
      intro f k
      rw [exec_writeHoldLimit_expires hcan hp hexpires hsets hq hr hd]
      unfold State.answered
      rw [answered_wrote]
      rfl

end Sys2Proof.Proofs.HoldExpiry
end

/-! ## The ready and completion indications of the egress link (O33) -/

section
namespace Sys2Proof.Proofs.Indications
open Sys2Proof Sys2Proof.Machine Sys2Proof.Laws Sys2Proof.Proofs.Offers

/-! ### The selection as the indication makes it (R143 to R146) -/

section
variable {p : Params} {osc i : Nat} {e : Entry} {x : Egress}

/-- A selection passes over the older entries of a lower effective class (R145). -/
theorem passedOver_eq (p : Params) (osc : Nat) (e o : Entry) :
    Entry.passedOver p osc (e.effective p osc) o =
      if classCode (e.effective p osc) < classCode (o.effective p osc) then
        { o with bypass := min (o.bypass + 1) 15 } else o := by
  have he := effective_ne_variable p osc e
  have ho := effective_ne_variable p osc o
  unfold Entry.passedOver
  cases hc : e.effective p osc with
  | variableClass => exact absurd hc he
  | _ =>
    cases hd : o.effective p osc with
    | variableClass => exact absurd hd ho
    | _ => rfl

theorem passedOver_frame (p : Params) (osc : Nat) (c : PriorityClass) (o : Entry) :
    (Entry.passedOver p osc c o).frame = o.frame := by
  unfold Entry.passedOver
  extract_lets raise
  split <;> rfl

/-- The chosen entry leaves one place free. -/
theorem sends_length (he : x.queue[i]? = some e) : (sends p osc x i e).queue.length + 1 = x.queue.length := by
  obtain ⟨hi, -⟩ := List.getElem?_eq_some_iff.1 he
  unfold sends
  simp only [List.length_append, List.length_map, List.length_take, List.length_drop]
  omega

/-- A queue without a LOW entry has none after a selection. -/
theorem sends_noLow (h : ∀ o ∈ x.queue, o.frame.cls ≠ .low) :
    ∀ o ∈ (sends p osc x i e).queue, o.frame.cls ≠ .low := by
  intro o ho
  rcases List.mem_append.1 ho with ho | ho
  · obtain ⟨o', ho', rfl⟩ := List.mem_map.1 ho
    rw [passedOver_frame]
    exact h o' (List.mem_of_mem_take ho')
  · exact h o (List.mem_of_mem_drop ho)

end

/-! ### What takes the place that a selection frees in a full queue (R149, R153) -/

/-- A frame has entered the last free place of the queue (R147). -/
def filled (osc : Nat) (x : Egress) (f : OutFrame) : Egress :=
  { x with
    queue := x.queue ++ [{ frame := f, enqueued := osc }]
    counts := { x.counts with highWater := max x.counts.highWater 32 } }

theorem enter_filled {osc : Nat} {x : Egress} {f : OutFrame} (h : x.queue.length = 31) :
    x.enter osc f = filled osc x f := by
  unfold Egress.enter filled
  rw [h]

theorem filled_length {osc : Nat} {x : Egress} {f : OutFrame} (h : x.queue.length = 31) :
    (filled osc x f).queue.length = 32 := by
  unfold filled
  rw [List.length_append, h]
  rfl

/-- The queue with its last place taken by a frame of the outbound list. -/
def filledBy (v : State) (f : OutFrame) : Egress :=
  { filled v.tru.osc v.egress f with composerWaits := false }

/-- The answer that the unit waited with has taken the last place. -/
def answerEntered (v : State) (a : OutFrame) : State :=
  { v with egress := filled v.tru.osc v.egress a, mgmt := { v.mgmt with exec := .idle } }

/-- A frame of the outbound list has taken the last place. -/
def frameEntered (v : State) (f : OutFrame) (rest : List OutFrame) : State :=
  { v with composer := { v.composer with outbound := rest }, egress := filledBy v f }

/-- A frame of the outbound list has taken the last place, and the composer waits with the next. -/
def frameWaits (v : State) (f : OutFrame) (rest : List OutFrame) : State :=
  { v with
    composer := { v.composer with
      outbound := rest, counts := { v.composer.counts with waits := satInc v.composer.counts.waits } }
    egress := { filledBy v f with composerWaits := true } }

/-- The frame that ends a flush has taken the last place, and the flush's answer is formed (R134). -/
def flushOver (v : State) (f : OutFrame) (d : Deferred) : State :=
  { v with
    composer := { v.composer with outbound := [], flushBusy := false }
    egress := filledBy v f
    mgmt := flushFormed v d }

/-- The deferred answer of a flush, as it is formed at the flush's end (R134, R153). -/
def flushAnswer (v : State) (d : Deferred) : OutFrame :=
  { v with composer := { v.composer with flushBusy := false } }.formAnswer d.source d.tag 0x24 (reply .done)

/-- The flush is over, its answer is counted and formed no longer: the queue is x and the unit's execution state e. -/
def flushAnswered (v : State) (x : Egress) (e : Execution) : State :=
  { v with
    composer := { v.composer with outbound := [], flushBusy := false }
    egress := x
    mgmt := { v.mgmt with
      exec := e, deferredFlush := none
      counts := { v.mgmt.counts with executed := satInc v.mgmt.counts.executed } } }

/-- The queue has no place for an answer, and that it waits is counted (R149, R152). -/
def answerRefused (x : Egress) : Egress :=
  { x with counts := { x.counts with answerWaits := satInc x.counts.answerWaits } }

/-- In a full queue an answer has entered in place of the LOW entry that stood between l and r (R148). -/
def answerShed (osc : Nat) (x : Egress) (l r : List Entry) (a : OutFrame) : Egress :=
  { x with
    queue := l ++ r ++ [{ frame := a, enqueued := osc }], shedFlag := true
    counts := { x.counts with shed := satInc x.counts.shed } }

section
variable {v : State} {a f : OutFrame} {rest : List OutFrame} {d : Deferred}

theorem due_nothing (hx : v.mgmt.exec = .idle ∧ v.mgmt.formed = []) (hl : NoSelection v.egress)
    (ho : v.composer.outbound = []) : Due 0 v v :=
  .rest ((egressStep_offer hl (.inr hx)).trans (composerOffer_nothing ho))

theorem takeFrame_filled (hlen : v.egress.queue.length = 31) :
    v.egress.takeFrame v.tru.osc f = filled v.tru.osc v.egress f :=
  (takeFrame_enters (hlen.trans_lt (by decide))).trans (enter_filled hlen)

theorem filledBy_length (hlen : v.egress.queue.length = 31) : (filledBy v f).queue.length = 32 := filled_length hlen

/-- The answer that waits takes the place, before a composer that waits too (R149). -/
theorem due_waitingAnswer (hl : v.egress.link ≠ .ready) (hx : v.mgmt.exec = .waiting a) (hf : v.mgmt.formed = [])
    (ho : v.composer.outbound = [] ∨ v.egress.composerWaits = true) (hlen : v.egress.queue.length = 31) :
    Due 1 v (answerEntered v a) := by
  have hstep := egressStep_waitingAnswer (.inl hl) hx (hlen.trans_lt (by decide))
  rw [enter_filled hlen] at hstep
  have hrest : (answerEntered v a).egressStep = (answerEntered v a).composerOffer :=
    egressStep_offer (s := answerEntered v a) (.inl hl) (.inr ⟨rfl, hf⟩)
  refine .step hstep (.rest (hrest.trans ?_))
  rcases ho with ho | hwaits
  · exact composerOffer_nothing ho
  · exact composerOffer_waiting (s := answerEntered v a) (filled_length hlen).ge hwaits

variable (hl : v.egress.link ≠ .ready) (hx : v.mgmt.exec = .idle ∧ v.mgmt.formed = [])
include hl hx

/-- The unit offers the answer of the flush that is over, which then is formed no longer (R153). -/
theorem egressStep_flushAnswer : (flushOver v f d).egressStep =
    some ((flushAnswered v (filledBy v f) .idle).offerAnswer (flushAnswer v d)) := by
  obtain ⟨hidle, hformed⟩ := hx
  have hone : (flushOver v f d).mgmt.formed = [flushAnswer v d] := congrArg (· ++ [flushAnswer v d]) hformed
  have hsame : ({ flushOver v f d with mgmt := { (flushOver v f d).mgmt with formed := [] } } : State) =
      flushAnswered v (filledBy v f) .idle := by
    unfold flushOver flushFormed flushAnswered
    dsimp only
    rw [hidle, hformed]
  rw [egressStep_formed (s := flushOver v f d) (.inl hl) hidle hone, hsame]

variable (hlen : v.egress.queue.length = 31)
include hlen

/-- The composer's frame takes the place where the unit has no answer. -/
theorem egressStep_outbound (ho : v.composer.outbound = f :: rest) : v.egressStep = some (v.takeOutbound f rest) :=
  (egressStep_offer (.inl hl) (.inr hx)).trans (composerOffer_taken ho (.inl (hlen.trans_lt (by decide))))

theorem egressStep_frameEntered (ho : v.composer.outbound = f :: rest) (hf : f.endsFlush = false) :
    v.egressStep = some (frameEntered v f rest) := by
  rw [egressStep_outbound hl hx hlen ho, takeOutbound_plain hf, takeFrame_filled hlen]
  rfl

theorem due_lastFrame (ho : v.composer.outbound = [f]) (hf : f.endsFlush = false) : Due 1 v (frameEntered v f []) :=
  .step (egressStep_frameEntered hl hx hlen ho hf) (due_nothing (v := frameEntered v f []) hx (.inl hl) rfl)

/-- With another frame on offer and no LOW entry the composer waits again (R149). -/
theorem due_frameWaits (ho : v.composer.outbound = f :: rest) (hf : f.endsFlush = false) (hne : rest ≠ [])
    (hcls : f.cls ≠ .low) (hlow : ∀ o ∈ v.egress.queue, o.frame.cls ≠ .low) :
    Due 2 v (frameWaits v f rest) := by
  obtain ⟨g, rest, rfl⟩ := List.exists_cons_of_ne_nil hne
  have hlowFilled : ∀ o ∈ (filledBy v f).queue, o.frame.cls ≠ .low := by
    intro o ho
    rcases List.mem_append.1 ho with ho | ho
    · exact hlow o ho
    · rw [List.mem_singleton.1 ho]
      exact hcls
  have hfull : 32 ≤ (filledBy v f).queue.length := (filledBy_length hlen).ge
  have hwaits : (frameEntered v f (g :: rest)).egressStep = some (frameWaits v f (g :: rest)) :=
    (egressStep_offer (s := frameEntered v f (g :: rest)) (.inl hl) (.inr hx)).trans
      (composerOffer_waits (s := frameEntered v f (g :: rest)) rfl hfull hlowFilled rfl)
  have hrest : (frameWaits v f (g :: rest)).egressStep = none :=
    (egressStep_offer (s := frameWaits v f (g :: rest)) (.inl hl) (.inr hx)).trans
      (composerOffer_waiting (s := frameWaits v f (g :: rest)) hfull rfl)
  exact .step (egressStep_frameEntered hl hx hlen ho hf) (.step hwaits (.rest hrest))

theorem egressStep_flushOver (ho : v.composer.outbound = [f]) (hf : f.endsFlush = true)
    (hd : v.mgmt.deferredFlush = some d) : v.egressStep = some (flushOver v f d) := by
  rw [egressStep_outbound hl hx hlen ho, takeOutbound_answers hf hd, takeFrame_filled hlen]
  rfl

variable (ho : v.composer.outbound = [f]) (hf : f.endsFlush = true) (hd : v.mgmt.deferredFlush = some d)
include ho hf hd

/-- Without a LOW entry the answer of the flush waits (R149). -/
theorem due_flushWaits (hlow : ∀ o ∈ (filledBy v f).queue, o.frame.cls ≠ .low) :
    Due 2 v (flushAnswered v (answerRefused (filledBy v f)) (.waiting (flushAnswer v d))) := by
  have hfull : 32 ≤ (filledBy v f).queue.length := (filledBy_length hlen).ge
  have hoffer := egressStep_flushAnswer (f := f) (d := d) hl hx
  rw [offerAnswer_waits (s := flushAnswered v (filledBy v f) .idle) hfull hlow] at hoffer
  let t : State := flushAnswered v (answerRefused (filledBy v f)) (.waiting (flushAnswer v d))
  have hrest : t.egressStep = none :=
    (egressStep_stillWaiting (s := t) (.inl hl) rfl hfull).trans (composerOffer_nothing rfl)
  exact .step (egressStep_flushOver hl hx hlen ho hf hd) (.step hoffer (.rest hrest))

/-- With a LOW entry the answer of the flush sheds the oldest and enters (R148). -/
theorem due_flushSheds {l r : List Entry} {o : Entry} (hq : (filledBy v f).queue = l ++ o :: r)
    (ho' : o.frame.cls = .low) (hfirst : ∀ p ∈ l, p.frame.cls ≠ .low) :
    Due 2 v (flushAnswered v (answerShed v.tru.osc (filledBy v f) l r (flushAnswer v d)) .idle) := by
  have hoffer := egressStep_flushAnswer (f := f) (d := d) hl hx
  have hmax : max (max v.egress.counts.highWater 32) 32 = max v.egress.counts.highWater 32 := by omega
  have hshed : (filledBy v f).takeFrame v.tru.osc (flushAnswer v d) =
      answerShed v.tru.osc (filledBy v f) l r (flushAnswer v d) := by
    rw [takeFrame_sheds hq (filledBy_length hlen) ho' hfirst]
    unfold displaced answerShed filledBy filled
    dsimp only
    rw [hmax]
  rw [offerAnswer_taken (s := flushAnswered v (filledBy v f) .idle) (takes_of_low (hasLow_of_mem hq ho'))] at hoffer
  have hoffer' := hoffer.trans (congrArg (fun x => some (flushAnswered v x .idle)) hshed)
  exact .step (egressStep_flushOver hl hx hlen ho hf hd) (.step hoffer'
    (due_nothing (v := flushAnswered v _ .idle) ⟨rfl, hx.2⟩ (.inl hl) rfl))

end

/-! ### The indications (R143, R146) -/

/-- A drain with nothing on offer ends where the ring is FREE and the composer has neither a slot nor sets (R164). -/
theorem judgeDrain_nothingOffered {s : State} (ho : s.composer.outbound = []) : s.judgeDrain = { s with
    mgmt := { s.mgmt with
      engine :=
        if s.mgmt.engine = .draining ∧ s.ringFree = true ∧ s.composer.working = none ∧ s.holdingEmpty = true then
          .paused
        else s.mgmt.engine } } := by
  have hempty : s.composerEmpty = true ↔ s.composer.working = none ∧ s.holdingEmpty = true := by
    rw [RingKept.composerEmpty_iff, Flush.holdingEmpty_iff, and_iff_left ho]
  unfold State.judgeDrain
  simp only [hempty]
  split_ifs <;> rfl

section
variable {s t : State} {after i n : Nat} {e : Entry}

theorem exec_readyIndication {x : Egress} (hx : s.egress.readyIndicated = x) :
    exec (.readyIndication after) s = .next ({ s.elapse after with egress := x } : State).settleAndJudge := by
  subst hx
  rfl

theorem readyIndicated_waiting {x : Egress} (h : x.link = .waiting) : x.readyIndicated = { x with link := .ready } := by
  unfold Egress.readyIndicated
  rw [h]

theorem readyIndicated_other {x : Egress} (h : x.link ≠ .waiting) : x.readyIndicated = x := by
  unfold Egress.readyIndicated
  cases hl : x.link with
  | waiting => exact absurd hl h
  | ready => rfl
  | sending f b => rfl

theorem completionIndicated_other {x : Egress} (h : x.link = .waiting ∨ x.link = .ready) :
    x.completionIndicated = x := by
  unfold Egress.completionIndicated
  rcases h with h | h <;> rw [h]

/-- The state in which time has passed and entry e, at position i, is chosen. -/
def chosen (s : State) (after i : Nat) (e : Entry) : State :=
  { s.elapse after with egress := sends s.params (s.elapse after).tru.osc s.egress i e }

/-- At a WAITING link the selection comes first, and then what it makes due (R143, R149). -/
theorem exec_readyIndication_chosen (hl : s.egress.link = .waiting)
    (hc : choosePosition s.params (s.elapse after).tru.osc s.egress.queue = some i)
    (he : s.egress.queue[i]? = some e) (hdue : Due n (chosen s after i e) t) (hn : n ≤ 7) :
    exec (.readyIndication after) s = .next t.judgeDrain := by
  have hne : s.egress.queue ≠ [] := fun h => by
    rw [h] at he
    cases he
  let v : State := { s.elapse after with egress := { s.egress with link := .ready } }
  have hselects : v.egressStep = some (chosen s after i e) :=
    (egressStep_selects (s := v) rfl hne).trans
      (congrArg (fun x => some { s.elapse after with egress := x }) (select_sends (x := v.egress) hc he))
  rw [exec_readyIndication (readyIndicated_waiting hl)]
  exact congrArg _ ((Due.step hselects hdue).settleAndJudge (Nat.succ_le_succ hn))

/-- The chosen entry leaves 31 entries of a full queue. -/
theorem chosen_length (hq : s.egress.queue.length = 32) (he : s.egress.queue[i]? = some e) :
    (chosen s after i e).egress.queue.length = 31 :=
  Nat.succ.inj ((sends_length (p := s.params) (osc := (s.elapse after).tru.osc) he).trans hq)

theorem chosen_link : (chosen s after i e).egress.link ≠ .ready := nofun

/-- What an idle unit with nothing on offer makes of the indication, no drain being at its end (R143). -/
theorem exec_readyIndication_idle (x : Egress) (hx : s.egress.readyIndicated = x) (hsel : NoSelection x)
    (hidle : s.mgmt.exec = .idle ∧ s.mgmt.formed = []) (ho : s.composer.outbound = [])
    (hend : ¬(s.mgmt.engine = .draining ∧ s.ringFree = true ∧ s.composerEmpty = true)) :
    exec (.readyIndication after) s = .next { s.elapse after with egress := x } := by
  let u : State := { s.elapse after with egress := x }
  have hjudged : u.judgeDrain = u := judgeDrain_rest hend
  have hdue : Due 0 u u := due_nothing hidle hsel ho
  rw [exec_readyIndication hx]
  exact congrArg _ ((hdue.settleAndJudge (by decide)).trans hjudged)

/-- The counts of the transmission that a completion ends, one by one (R146, R152). -/
theorem sentOne_eq (c : EgressCounts) (f : OutFrame) (b : Bool) : c.sentOne f b = { c with
    sent := satInc c.sent
    answers := if f.kind = .answer then satInc c.answers else c.answers
    sets := if f.kind = .set then satInc c.sets else c.sets
    batches := if f.kind = .batch then satInc c.batches else c.batches
    promoted := if b = true ∧ f.kind = .set then satInc c.promoted else c.promoted } := by
  unfold EgressCounts.sentOne
  cases f.kind <;> cases b <;> rfl

theorem exec_completionIndication {f : OutFrame} {b : Bool} (h : s.egress.link = .sending f b) :
    exec (.completionIndication after) s = .next { s.elapse after with
      egress := { s.egress with link := .waiting, counts := s.egress.counts.sentOne f b } } := by
  have hends : s.egress.completionIndicated =
      { s.egress with link := .waiting, counts := s.egress.counts.sentOne f b } := by
    unfold Egress.completionIndicated
    rw [h]
  exact congrArg (fun x => Host.Outcome.next { s.elapse after with egress := x }) hends

end

/-- Settles O33: the selection, and then what enters the freed place, by the unit's state and the outbound list. -/
theorem linkIndications : Obligations.LinkIndications := by
  intro s after hformed u q chosen' joined
  have hchosen : ∀ i e, chosen' i e = sends s.params u.tru.osc s.egress i e := fun i e => by
    unfold sends
    rw [funext (passedOver_eq s.params u.tru.osc e)]
  refine ⟨fun hidle ho hend => ?idle, fun a i e hx ho hend hl hq hc he => ?waiting,
    fun f rest i e hidle ho hwaits hf hl hq hc he => ?outbound,
    fun f i e d hidle ho hwaits hf hd hl hq hc he => ?flush, fun f b hl => ?completes, fun hl => ?nothing⟩
  case idle =>
    have hx : s.mgmt.exec = .idle ∧ s.mgmt.formed = [] := ⟨hidle, hformed⟩
    refine ⟨fun hl hq => exec_readyIndication_idle _ (readyIndicated_waiting hl) (.inr hq) hx ho hend,
      fun hl hq => exec_readyIndication_idle _ (readyIndicated_other (by rw [hl]; nofun)) (.inr hq) hx ho hend,
      fun i e hl hc he => ?_, fun f b hl => ?_⟩
    · have hdue : Due 0 (chosen s after i e) _ := due_nothing hx (.inl chosen_link) ho
      rw [hchosen, exec_readyIndication_chosen hl hc he hdue (by decide)]
      exact congrArg _ (judgeDrain_rest hend)
    · exact exec_readyIndication_idle _ (readyIndicated_other (by rw [hl]; nofun))
        (.inl (by rw [hl]; nofun)) hx ho hend
  case waiting =>
    have hdue := due_waitingAnswer (v := chosen s after i e) chosen_link hx hformed ho (chosen_length hq he)
    rw [hchosen, exec_readyIndication_chosen hl hc he hdue (by decide)]
    exact congrArg _ (judgeDrain_rest hend)
  case outbound =>
    have hx : s.mgmt.exec = .idle ∧ s.mgmt.formed = [] := ⟨hidle, hformed⟩
    rw [hchosen]
    intro v
    refine ⟨fun hlast => ?_, fun hne hcls hlow => ?_⟩
    · subst hlast
      have hdue := due_lastFrame (v := chosen s after i e) chosen_link hx (chosen_length hq he) ho hf
      rw [exec_readyIndication_chosen hl hc he hdue (by decide), judgeDrain_nothingOffered rfl]
      rfl
    · have hdue := due_frameWaits (v := chosen s after i e) chosen_link hx (chosen_length hq he) ho hf hne hcls
        (sends_noLow hlow)
      rw [exec_readyIndication_chosen hl hc he hdue (by decide), judgeDrain_onOffer hne]
      rfl
  case flush =>
    have hx : s.mgmt.exec = .idle ∧ s.mgmt.formed = [] := ⟨hidle, hformed⟩
    rw [hchosen]
    intro y a v
    refine ⟨fun hlow => ?_, fun l o r hy ho' hfirst => ?_⟩
    · have hdue := due_flushWaits (v := chosen s after i e) chosen_link hx (chosen_length hq he) ho hf hd hlow
      rw [exec_readyIndication_chosen hl hc he hdue (by decide), judgeDrain_nothingOffered rfl]
      rfl
    · have hdue := due_flushSheds (v := chosen s after i e) chosen_link hx (chosen_length hq he) ho hf hd hy ho' hfirst
      rw [exec_readyIndication_chosen hl hc he hdue (by decide), judgeDrain_nothingOffered rfl, ← hidle]
      rfl
  case completes =>
    rw [exec_completionIndication hl, sentOne_eq]
  case nothing =>
    exact congrArg (fun x => Host.Outcome.next { s.elapse after with egress := x }) (completionIndicated_other hl)

end Sys2Proof.Proofs.Indications
end

/-! ## The entry that a selection chooses (O34) -/

section
namespace Sys2Proof.Proofs.Selection
open Sys2Proof Sys2Proof.Machine
open Sys2Proof.Proofs.Entries (classOf_code)
open Sys2Proof.Proofs.Offers (effective_ne_variable)

section
variable {p : Params} {osc : Nat} {e : Entry} {q : List Entry}

/-! ### The effective class and the limit of an entry (R141, R142) -/

theorem promoted_iff : e.promoted p osc = true ↔
    e.frame.cls = .variableClass ∧ p.promotion * 1000000 < osc - e.enqueued := by
  unfold Entry.promoted Entry.age
  rw [Bool.and_eq_true, beq_iff_eq, decide_eq_true_iff]

/-- Promotion decides the effective class of a VARIABLE entry, and of no other (R141). -/
theorem effective_eq (p : Params) (osc : Nat) (e : Entry) :
    e.effective p osc =
      if e.frame.cls = .variableClass then
        (if p.promotion * 1000000 < osc - e.enqueued then .high else .medium)
      else e.frame.cls := by
  unfold Entry.effective
  cases hc : e.frame.cls with
  | variableClass => simp only [promoted_iff, hc, true_and, if_true]
  | _ => rfl

theorem limited_iff : e.limited p osc = true ↔
    (e.effective p osc = .medium ∧ p.highBypassMax ≤ e.bypass)
      ∨ (e.effective p osc = .low ∧ p.lowBypassMax ≤ e.bypass) := by
  unfold Entry.limited
  cases e.effective p osc <;> simp

/-! ### The highest effective class of a queue (R144) -/

theorem classCode_injective : Function.Injective classCode := fun a b h =>
  Option.some.inj ((classOf_code a).symm.trans ((congrArg (classOf <| BitVec.ofNat 8 ·) h).trans (classOf_code b)))

/-- The classes present in a queue are found by the scheduler's own test. -/
theorem any_effective_iff (c : PriorityClass) :
    (q.any fun e => e.effective p osc == c) = true ↔ ∃ e ∈ q, e.effective p osc = c := by
  simp only [List.any_eq_true, beq_iff_eq]

/-- No entry of a queue is of a higher effective class than the highest. -/
theorem highestClass_le (he : e ∈ q) : classCode (highestClass p osc q) ≤ classCode (e.effective p osc) := by
  unfold highestClass
  cases hc : e.effective p osc with
  | high =>
    rw [if_pos ((any_effective_iff .high).2 ⟨e, he, hc⟩)]
  | medium =>
    rw [if_pos ((any_effective_iff .medium).2 ⟨e, he, hc⟩)]
    split <;> decide
  | low => split_ifs <;> decide
  | variableClass => exact absurd hc (effective_ne_variable p osc e)

/-- The highest class is the effective class of an entry of the queue. -/
theorem exists_highestClass (hq : q ≠ []) : ∃ e ∈ q, e.effective p osc = highestClass p osc q := by
  unfold highestClass
  split_ifs with hhigh hmedium
  · exact (any_effective_iff .high).1 hhigh
  · exact (any_effective_iff .medium).1 hmedium
  · obtain ⟨e, he⟩ := List.exists_mem_of_ne_nil q hq
    refine ⟨e, he, ?_⟩
    cases hc : e.effective p osc with
    | high => exact absurd ((any_effective_iff .high).2 ⟨e, he, hc⟩) hhigh
    | medium => exact absurd ((any_effective_iff .medium).2 ⟨e, he, hc⟩) hmedium
    | low => rfl
    | variableClass => exact absurd hc (effective_ne_variable p osc e)

/-! ### The position that a selection chooses (R144) -/

/-- The position found in a queue is that of the oldest entry that passes the test. -/
theorem oldest_of_findIdx? {f : Entry → Bool} {i : Nat} (h : q.findIdx? f = some i) :
    ∃ e, q[i]? = some e ∧ f e = true ∧ ∀ j o, j < i → q[j]? = some o → f o = false := by
  obtain ⟨hi, hfound, hbefore⟩ := List.findIdx?_eq_some_iff_getElem.1 h
  refine ⟨q[i], List.getElem?_eq_getElem hi, hfound, fun j o hj ho => ?_⟩
  obtain ⟨_, rfl⟩ := List.getElem?_eq_some_iff.1 ho
  exact Bool.eq_false_iff.2 (hbefore j hj)

/-- A queue that holds a limited entry gives up the oldest of them. -/
theorem choosePosition_limited (h : ∃ e ∈ q, e.limited p osc = true) :
    ∃ i e, choosePosition p osc q = some i ∧ q[i]? = some e ∧ e.limited p osc = true
      ∧ ∀ j o, j < i → q[j]? = some o → o.limited p osc = false := by
  obtain ⟨i, hi⟩ := Option.isSome_iff_exists.1 (List.findIdx?_isSome.trans (List.any_eq_true.2 h))
  obtain ⟨e, he, hlimited, holder⟩ := oldest_of_findIdx? hi
  refine ⟨i, e, ?_, he, hlimited, holder⟩
  unfold choosePosition
  rw [hi]

/-- A queue that holds no limited entry gives up the oldest of its highest effective class. -/
theorem choosePosition_unlimited (hq : q ≠ []) (h : ∀ o ∈ q, o.limited p osc = false) :
    ∃ i e, choosePosition p osc q = some i ∧ q[i]? = some e ∧ e.effective p osc = highestClass p osc q
      ∧ ∀ j o, j < i → q[j]? = some o → o.effective p osc ≠ highestClass p osc q := by
  obtain ⟨i, hi⟩ := Option.isSome_iff_exists.1
    (List.findIdx?_isSome.trans ((any_effective_iff (highestClass p osc q)).2 (exists_highestClass hq)))
  obtain ⟨e, he, hclass, holder⟩ := oldest_of_findIdx? hi
  refine ⟨i, e, ?_, he, beq_iff_eq.1 hclass, fun j o hj ho => beq_eq_false_iff_ne.1 (holder j o hj ho)⟩
  unfold choosePosition
  rw [List.findIdx?_eq_none_iff.2 h]
  exact hi

end

/-- Settles O34: the choice by whether the queue holds a limited entry; the classes compare by `highestClass_le`. -/
theorem selectionChooses : Obligations.SelectionChooses := by
  intro p osc q
  refine ⟨fun e _ => ⟨effective_eq p osc e, limited_iff⟩, fun hq => ?_⟩
  by_cases hlimited : ∃ e ∈ q, e.limited p osc = true
  · obtain ⟨i, e, hi, he, hchosen, holder⟩ := choosePosition_limited hlimited
    exact ⟨i, e, hi, he, .inl ⟨hchosen, holder⟩⟩
  · have hnone : ∀ o ∈ q, o.limited p osc = false := fun o ho =>
      Bool.eq_false_iff.2 fun h => hlimited ⟨o, ho, h⟩
    obtain ⟨i, e, hi, he, hclass, holder⟩ := choosePosition_unlimited hq hnone
    refine ⟨i, e, hi, he, .inr ⟨hnone, fun o ho => hclass ▸ highestClass_le ho, fun j o hj ho => ?_⟩⟩
    rw [hclass]
    exact lt_of_le_of_ne (highestClass_le (List.mem_of_getElem? ho)) fun h =>
      holder j o hj ho (classCode_injective h).symm

end Sys2Proof.Proofs.Selection
end

/-! ## What the blocks leave of the lock and of what it guards (O58) -/

section
namespace Sys2Proof.Proofs.LockKept
open Sys2Proof Sys2Proof.Machine Sys2Proof.Laws

/-! ### Work on the composer alone -/

/-- t is s but for the Set Composer. -/
def ComposerOnly (s t : State) : Prop := ∃ x : Composer, t = { s with composer := x }

theorem ComposerOnly.refl (s : State) : ComposerOnly s s := ⟨s.composer, rfl⟩

theorem ComposerOnly.trans {s t u : State} (h : ComposerOnly s t) (k : ComposerOnly t u) : ComposerOnly s u := by
  obtain ⟨x, rfl⟩ := h
  obtain ⟨y, rfl⟩ := k
  exact ⟨y, rfl⟩

theorem composerOnly_with (s : State) (x : Composer) : ComposerOnly s { s with composer := x } := ⟨x, rfl⟩

theorem composerOnly_foldl {f : State → Nat → State} (hf : ∀ s n, ComposerOnly s (f s n)) (l : List Nat) (s : State) :
    ComposerOnly s (l.foldl f s) := by
  induction l generalizing s with
  | nil => exact .refl s
  | cons n l ih => exact (hf s n).trans (ih _)

theorem formBatch_composerOnly (s : State) (n : Nat) : ComposerOnly s (s.formBatch n) := by
  unfold State.formBatch
  dsimp only
  split
  · exact .refl s
  · exact composerOnly_with s _

theorem formAllBatches_composerOnly (s : State) : ComposerOnly s s.formAllBatches :=
  composerOnly_foldl formBatch_composerOnly _ s

theorem holdSet_composerOnly (s : State) (n : Nat) (bytes : List Byte) : ComposerOnly s (s.holdSet n bytes) := by
  unfold State.holdSet
  extract_lets h s1 h1 h2 s2
  have hs1 : ComposerOnly s s1 := by
    dsimp only [s1]
    split
    · exact formBatch_composerOnly s n
    · exact .refl s
  have hs2 : ComposerOnly s s2 := hs1.trans (composerOnly_with s1 _)
  split
  · exact hs2.trans (formBatch_composerOnly s2 n)
  · exact hs2

theorem handOn_composerOnly (s : State) (n : Nat) (bytes : List Byte) : ComposerOnly s (s.handOn n bytes) := by
  unfold State.handOn
  dsimp only
  split
  · exact composerOnly_with s _
  · exact holdSet_composerOnly s n bytes

theorem considerNext_composerOnly (s : State) (w : Composing) : ComposerOnly s (s.considerNext w) := by
  have hturn (n : Nat) (x : Slot) : ComposerOnly s (s.profileTurn n x) := by
    unfold State.profileTurn
    dsimp only
    split
    · exact (composerOnly_with s _).trans (handOn_composerOnly _ n _)
    · exact .refl s
  unfold State.considerNext
  dsimp only
  split
  · exact (hturn _ _).trans (composerOnly_with _ _)
  · exact .refl s

theorem holdExpire_composerOnly (s : State) (n : Nat) : ComposerOnly s (s.holdExpire n) :=
  (formBatch_composerOnly s n).trans (composerOnly_with _ _)

theorem holdExpireDue_composerOnly (s : State) : ComposerOnly s s.holdExpireDue := by
  refine composerOnly_foldl (fun s n => ?_) _ s
  split
  · exact holdExpire_composerOnly s n
  · exact .refl s

/-! ### What the lock guards outside the contexts, the profiles, the map and the member lists -/

/-- The structural parameters (R159). -/
def structural (p : Params) : Nat × MapSelect × Nat × Nat × PpsEdge :=
  (p.rate, p.mapSelect, p.mgmtId, p.lead, p.ppsEdge)

/-- The lock, and the guarded items that no operation of the part but a directive's write reaches (R157). -/
structure Guarded where
  structural : Nat × MapSelect × Nat × Nat × PpsEdge
  conv : Tbl Conversion
  managers : Tbl Manager
  access : Tbl Access
  lock : Bool

/-- Those items of a state. -/
def guarded (s : State) : Guarded :=
  { structural := structural s.params, conv := s.conv, managers := s.mgmt.managers, access := s.mgmt.access
    lock := s.mgmt.lock }

theorem guarded_of_storeOnly {s t : State} (h : StoreOnly s t) : guarded t = guarded s := by
  unfold guarded
  rw [h.params, h.conv, h.mgmt]

theorem guarded_of_aside {s t : State} (h : t.aside = s.aside) : guarded t = guarded s := by
  unfold guarded
  rw [aside_params h, aside_conv h, aside_managers h, aside_access h, aside_lock h]

theorem guarded_of_composerOnly {s t : State} (h : ComposerOnly s t) : guarded t = guarded s := by
  obtain ⟨x, rfl⟩ := h
  rfl

theorem guarded_foldl {f : State → Nat → State} (hf : ∀ s n, guarded (f s n) = guarded s) (l : List Nat) (s : State) :
    guarded (l.foldl f s) = guarded s := by
  induction l generalizing s with
  | nil => rfl
  | cons n l ih => exact (ih _).trans (hf s n)

theorem guarded_judgeDrain (s : State) : guarded s.judgeDrain = guarded s := guarded_of_aside (judgeDrain_aside s)

theorem guarded_settleAndJudge (s : State) : guarded s.settleAndJudge = guarded s :=
  guarded_of_aside (settleAndJudge_aside s)

theorem guarded_offer (s : State) : guarded s.offer = guarded s := guarded_of_storeOnly (offer_only s)

theorem guarded_catchUp (s : State) : guarded s.catchUp = guarded s := guarded_of_storeOnly (catchUp_only s)

theorem guarded_expire (s : State) (g : Nat) : guarded (s.expire g) = guarded s := guarded_of_storeOnly (expire_only s g)

theorem guarded_takeInstant (s : State) : guarded s.takeInstant = guarded s := by
  unfold State.takeInstant
  exact (guarded_of_storeOnly (storeInstant_only _ _)).trans rfl

theorem guarded_enterRunning (s : State) : guarded s.enterRunning = guarded s := guarded_catchUp _

theorem guarded_release (s : State) : guarded s.release = guarded s :=
  (guarded_judgeDrain _).trans ((guarded_offer _).trans (guarded_catchUp _))

/-! ### Intake and placement -/

theorem guarded_engineDiscard (s : State) (k : Nat) : guarded (s.engineDiscard k) = guarded s := by
  unfold State.engineDiscard
  split <;> rfl

theorem guarded_forcePool (s : State) : guarded s.forcePool = guarded s := by
  unfold State.forcePool
  dsimp only
  split
  · exact (guarded_offer _).trans ((guarded_of_storeOnly (leaveOpen_only _ _ _)).trans rfl)
  · rfl

theorem guarded_acceptReport (s : State) (q : Placement) (c : Nat) (rest : List Nat) :
    guarded (s.acceptReport q c rest) = guarded s := by
  have hnotice (t : State) : guarded (t.onTimeNotice q) = guarded t := by
    unfold State.onTimeNotice
    split <;> rfl
  have hended (t : State) : guarded (t.accepted q) = guarded t := rfl
  unfold State.acceptReport
  exact (hended _).trans ((guarded_of_storeOnly (evaluate_only _ _)).trans ((hnotice _).trans rfl))

theorem guarded_placeInSlot (s : State) (q : Placement) : guarded (s.placeInSlot q) = guarded s := by
  unfold State.placeInSlot
  split
  · rfl
  · split
    · exact guarded_forcePool s
    · exact guarded_acceptReport s q _ _

theorem guarded_place (s : State) (q : Placement) : guarded (s.place q) = guarded s := by
  unfold State.place
  split
  · change guarded (s.lateNotice q) = guarded s
    unfold State.lateNotice
    split <;> rfl
  · rfl
  · split
    · exact (guarded_of_storeOnly (expireIfDue_only _ _)).trans
        ((guarded_placeInSlot _ q).trans (guarded_of_storeOnly (openSlot_only s _)))
    · exact guarded_placeInSlot s q

theorem guarded_takePlacement (s : State) : guarded s.takePlacement = guarded s := by
  unfold State.takePlacement
  split
  · rfl
  · split
    · rfl
    · exact guarded_place s _

theorem guarded_admitKnown (s : State) (r : Report) (k : Nat) : guarded (s.admitKnown r k) = guarded s := by
  have hkept (g : Nat) (residual : Int) (mark : Bool) : guarded (s.admitKept r k g residual mark) = guarded s := by
    unfold State.admitKept
    dsimp only
    split <;> rfl
  unfold State.admitKnown
  split
  · rfl
  split
  · rfl
  split
  · exact guarded_engineDiscard s k
  split
  · rfl
  · rfl
  · exact hkept _ _ _

theorem guarded_workOn (s : State) (f : InFrame) : guarded (s.workOn f) = guarded s := by
  unfold State.workOn
  split
  · rfl
  split
  · unfold State.admitReport
    split
    · rfl
    split
    · rfl
    · exact guarded_admitKnown s _ _
  · unfold State.handDirective
    split <;> rfl
  · rfl

theorem guarded_setLinkIn (s : State) (l : Link) (x : LinkIn) : guarded (s.setLinkIn l x) = guarded s := by
  cases l <;> rfl

theorem guarded_takeFrame (s : State) : guarded s.takeFrame = guarded s := by
  unfold State.takeFrame
  split
  · split
    · rfl
    · exact (guarded_workOn _ _).trans (guarded_setLinkIn s _ _)
  · rfl

/-! ### Composition and the time events -/

theorem guarded_composed (s : State) : guarded s.composed = guarded s := by
  refine (guarded_release _).trans ?_
  change guarded (if s.mgmt.engine = .draining then s.formAllBatches else s) = guarded s
  split
  · exact guarded_of_composerOnly (formAllBatches_composerOnly s)
  · rfl

theorem guarded_composeStep (s : State) : guarded s.composeStep = guarded s := by
  have hfinish (t : State) : guarded t.finishIfComposed = guarded t := by
    unfold State.finishIfComposed
    split
    · rfl
    split
    · exact guarded_composed t
    · rfl
  unfold State.composeStep
  split
  · rfl
  split
  · exact (guarded_settleAndJudge _).trans ((hfinish _).trans
      ((guarded_settleAndJudge _).trans (guarded_of_composerOnly (considerNext_composerOnly s _))))
  · rfl

theorem guarded_takeHoldExpiry (s : State) (n : Nat) : guarded (s.takeHoldExpiry n) = guarded s :=
  (guarded_settleAndJudge _).trans (guarded_of_composerOnly (holdExpire_composerOnly s n))

theorem guarded_truLocked (s : State) : guarded s.truLocked = guarded s := by
  unfold State.truLocked
  split
  · exact guarded_enterRunning s
  · rfl

theorem guarded_takeEdge (s : State) : guarded s.takeEdge = guarded s := by
  unfold State.takeEdge
  dsimp only
  split
  · rfl
  · exact guarded_truLocked _
  · exact (guarded_truLocked _).trans ((guarded_of_storeOnly (takeTimeStep_only _)).trans rfl)

/-- A tick is a nanosecond and the time limits it reaches (log entry 4). -/
theorem guarded_tick (s : State) : guarded s.tick = guarded s := by
  unfold State.tick
  extract_lets s1 s2 s3 s4 s5
  have h1 : guarded s1 = guarded s := rfl
  have h2 : guarded s2 = guarded s1 := by
    dsimp only [s2]
    split <;> rfl
  have h3 : guarded s3 = guarded s2 := by
    dsimp only [s3]
    split
    · rfl
    · split <;> rfl
  have h4 : guarded s4 = guarded s3 := by
    dsimp only [s4]
    split
    · exact guarded_takeInstant s3
    · rfl
  have h5 : guarded s5 = guarded s4 := by
    dsimp only [s5]
    exact guarded_of_storeOnly (foldl_only expireIfDue_only _ _)
  have h6 (t : State) (n : Nat) : guarded (if t.holdDue n then t.takeHoldExpiry n else t) = guarded t := by
    split
    · exact guarded_takeHoldExpiry t n
    · rfl
  exact (guarded_foldl h6 _ s5).trans (h5.trans (h4.trans (h3.trans (h2.trans h1))))

end Sys2Proof.Proofs.LockKept
end

/-! ## What one entry of a transfer writes (O58, O39) -/

section
namespace Sys2Proof.Proofs.LockKept
open Sys2Proof Sys2Proof.Machine Sys2Proof.Laws Sys2Proof.Proofs.StreamsKept Sys2Proof.Proofs.EntryTests
  Sys2Proof.Proofs.EntryWrites Sys2Proof.Proofs.ReadEntries

/-! ### What a write leads to -/

/-- A write fails, or leads to a state with a property. -/
def Leads (P : State → Prop) : WriteResult → Prop
  | .fails _ => True
  | .written t _ => P t

section
variable {P Q : State → Prop} {s : State} {w : WriteResult}

theorem Leads.imp (h : Leads P w) (k : ∀ t, P t → Q t) : Leads Q w := by
  cases w with
  | fails c => trivial
  | written t c => exact k t h

theorem leads_written {t : State} {c : Bool} (h : P t) : Leads P (.written t c) := h

theorem leads_enumerated {α : Type} {v : Option α} {k : α → WriteResult} (h : ∀ x, Leads P (k x)) :
    Leads P (enumerated v k) := by
  cases v with
  | none => trivial
  | some x => exact h x

theorem leads_numeric {lo hi v : Nat} {k : Nat → Bool → WriteResult} (h : ∀ x c, Leads P (k x c)) :
    Leads P (numeric lo hi v k) := h _ _

theorem leads_unless {p : Prop} [Decidable p] {c : OutcomeCode} (h : Leads P w) :
    Leads P (if p then .fails c else w) := by
  split
  · trivial
  · exact h

theorem unlocked_of_structuralGuard (h : s.structuralGuard = none) : s.mgmt.lock = false := by
  unfold State.structuralGuard at h
  split at h
  · cases h
  · next hl => exact Bool.eq_false_iff.2 hl

/-- What an entry's first tests pass: its index lies in the table, and the lock is clear. -/
theorem entryGuard_none {table cls : Nat} {i : Int} (h : s.entryGuard table i cls = none) :
    inTable table i = true ∧ s.mgmt.lock = false := by
  unfold State.entryGuard at h
  split at h
  · cases h
  · next hin =>
    split at h
    · cases h
    split at h
    · cases h
    · next hl => exact ⟨Bool.not_eq_false _ ▸ hin, Bool.eq_false_iff.2 hl⟩

end

/-! ### The write of an Engine Parameter (R159) -/

/-- What the write of an Engine Parameter leaves: the tables but for the confidences, the Management Unit, and the structural
parameters where the lock is set. -/
structure ParamWritten (s t : State) : Prop where
  ctxs : SetupKept s.ctxs t.ctxs
  map : t.map = s.map
  conv : t.conv = s.conv
  profiles : t.profiles = s.profiles
  members : t.members = s.members
  mgmt : t.mgmt = s.mgmt
  structural : s.mgmt.lock = true → structural t.params = structural s.params

/-- Parameters written, and what their write then does to the window, the TRU and the composer. -/
theorem paramWritten_with {s : State} {p : Params} (h : s.mgmt.lock = true → structural p = structural s.params)
    (w : Window) (t : Tru) (x : Composer) :
    ParamWritten s { s with params := p, window := w, tru := t, composer := x } :=
  ⟨.refl _, rfl, rfl, rfl, rfl, rfl, h⟩

section
variable {s : State} {p : Params}

theorem paramWritten_setParams (h : s.mgmt.lock = true → structural p = structural s.params) :
    ParamWritten s (s.setParams p) := paramWritten_with h s.window s.tru s.composer

/-- No structural parameter is written: the lock is not asked. -/
theorem paramWritten_free (h : structural p = structural s.params) : ParamWritten s (s.setParams p) :=
  paramWritten_setParams fun _ => h

theorem paramWritten_window (h : structural p = structural s.params) : ParamWritten s (s.setParams p).reclampWq :=
  ⟨.refl _, rfl, rfl, rfl, rfl, rfl, fun _ => h⟩

theorem paramWritten_holdover (h : structural p = structural s.params) : ParamWritten s (s.setParams p).judgeHoldover :=
  ⟨.refl _, rfl, rfl, rfl, rfl, rfl, fun _ => h⟩

theorem paramWritten_confidence (h : structural p = structural s.params) :
    ParamWritten s (s.setParams p).clampConfidence :=
  ⟨(keeps_clampConfidence (s.setParams p)).ctxs, rfl, rfl, rfl, rfl, rfl, fun _ => h⟩

theorem paramWritten_holdLimit (h : structural p = structural s.params) :
    ParamWritten s (s.setParams p).holdExpireDue := by
  obtain ⟨x, hx⟩ := holdExpireDue_composerOnly (s.setParams p)
  rw [hx]
  exact paramWritten_with (fun _ => h) s.window s.tru x

/-- A structural parameter is written with the lock clear alone. -/
theorem leads_structural {w : WriteResult} (h : s.mgmt.lock = false → Leads (ParamWritten s) w) :
    Leads (ParamWritten s) (s.structural w) := by
  unfold State.structural
  split
  · trivial
  · next hg => exact h (unlocked_of_structuralGuard hg)

theorem paramWritten_unlocked (hl : s.mgmt.lock = false) : ParamWritten s (s.setParams p) :=
  paramWritten_setParams fun h => absurd h (by simp [hl])

end

theorem leads_writeRate (s : State) (r : Nat) : Leads (ParamWritten s) (s.writeRate r) := by
  unfold State.writeRate
  split
  · trivial
  · next hg =>
    have hl : s.mgmt.lock = false := unlocked_of_structuralGuard hg
    exact leads_unless (leads_unless (leads_written
      (paramWritten_with (fun h => absurd h (by simp [hl])) s.window _ s.composer)))

/-- The write of each parameter, by its index. -/
theorem leads_writeParam (s : State) (i v : Nat) : Leads (ParamWritten s) (s.writeParam i v) := by
  have hset {p : Params} {c : Bool} (h : structural p = structural s.params) :
      Leads (ParamWritten s) (.written (s.setParams p) c) := paramWritten_free h
  have hstruct {p : Params} {c : Bool} (hl : s.mgmt.lock = false) :
      Leads (ParamWritten s) (.written (s.setParams p) c) := paramWritten_unlocked hl
  match i with
  | 0 => exact writeParam_rate s v ▸ leads_enumerated (leads_writeRate s)
  | 1 =>
    rw [writeParam_mapSelect]
    refine leads_enumerated fun _ => leads_structural fun hl => ?_
    cases s.mapOccupied with
    | true => trivial
    | false => exact hstruct hl
  | 2 => exact writeParam_mgmtId s v ▸ leads_structural fun hl => leads_numeric fun _ _ => hstruct hl
  | 3 => exact writeParam_lead s v ▸ leads_structural fun hl => leads_numeric fun _ _ => hstruct hl
  | 4 => exact writeParam_ppsEdge s v ▸ leads_enumerated fun _ => leads_structural hstruct
  | 5 => exact writeParam_cSat s v ▸ leads_numeric fun _ _ => paramWritten_confidence rfl
  | 6 => exact writeParam_cAwait s v ▸ leads_numeric fun _ _ => hset rfl
  | 7 => exact writeParam_wMin s v ▸ leads_numeric fun _ _ => leads_unless (leads_written (paramWritten_window rfl))
  | 8 => exact writeParam_wMax s v ▸ leads_numeric fun _ _ => leads_unless (leads_written (paramWritten_window rfl))
  | 9 => exact writeParam_w0 s v ▸ leads_numeric fun _ _ => hset rfl
  | 10 => exact writeParam_adaptation s v ▸ leads_enumerated fun _ => hset rfl
  | 11 => exact writeParam_theta s v ▸ leads_enumerated fun _ => hset rfl
  | 12 => exact writeParam_upStep s v ▸ leads_enumerated fun _ => hset rfl
  | 13 => exact writeParam_downStep s v ▸ leads_enumerated fun _ => hset rfl
  | 14 => exact writeParam_wq s v ▸ leads_numeric fun _ _ => paramWritten_with (fun _ => rfl) _ s.tru s.composer
  | 15 => exact writeParam_wm1 s v ▸ leads_numeric fun _ _ => leads_unless (hset rfl)
  | 16 => exact writeParam_wm2 s v ▸ leads_numeric fun _ _ => leads_unless (hset rfl)
  | 17 => exact writeParam_hMax s v ▸ leads_numeric fun _ _ => paramWritten_holdover rfl
  | 18 => exact writeParam_drift s v ▸ leads_numeric fun _ _ => paramWritten_holdover rfl
  | 19 => exact writeParam_holdLimit s v ▸ leads_numeric fun _ _ => paramWritten_holdLimit rfl
  | 20 => exact writeParam_promotion s v ▸ leads_numeric fun _ _ => hset rfl
  | 21 => exact writeParam_highBypassMax s v ▸ leads_numeric fun _ _ => hset rfl
  | _ + 22 =>
    exact leads_numeric (k := fun x c => .written (s.setParams { s.params with lowBypassMax := x }) c) fun _ _ => hset rfl

/-! ### One entry of any table -/

theorem leads_paramEntry (s : State) (i : Int) (cls : Nat) (e : List Byte) :
    Leads (ParamWritten s) (s.writeEntry 0 i cls e) := leads_unless (leads_unless (leads_writeParam s _ _))

section
variable {P : State → Prop} {s : State} {table cls : Nat} {i : Int} {e : List Byte}

/-- An entry of the tables 1 to 7 is written at an index of its table, with the lock clear (R42, R71, R124, R125, R155,
R156). -/
theorem leads_entry (h1 : 1 ≤ table) (h7 : table ≤ 7)
    (h : ∀ n : Nat, s.mgmt.lock = false → s.entryGuard table n cls = none → Leads P (s.writeEntry table n cls e)) :
    Leads P (s.writeEntry table i cls e) := by
  cases hg : s.entryGuard table i cls with
  | some c =>
    rw [writeEntry_guarded h1 h7 hg]
    trivial
  | none =>
    obtain ⟨hin, hl⟩ := entryGuard_none hg
    obtain ⟨n, rfl⟩ := Int.eq_ofNat_of_zero_le ((inTable_iff table i).1 hin).1
    exact h n hl hg

/-- No entry's write reaches the Management Unit's execution. -/
theorem leads_exec (h7 : table ≤ 7) : Leads (fun t => t.mgmt.exec = s.mgmt.exec) (s.writeEntry table i cls e) := by
  have hsame {t : State} {c : Bool} (h : t.mgmt.exec = s.mgmt.exec) :
      Leads (fun t => t.mgmt.exec = s.mgmt.exec) (.written t c) := h
  match table, h7 with
  | 0, _ => exact (leads_paramEntry s i cls e).imp fun t h => congrArg Mgmt.exec h.mgmt
  | 1, h7 => exact leads_entry le_rfl h7 fun n _ hg => writeEntry_map e hg ▸ trivial
  | 2, h7 => exact leads_entry (by omega) h7 fun n _ hg =>
      writeEntry_ctx hg ▸ leads_unless (leads_enumerated fun _ => hsame rfl)
  | 3, h7 => exact leads_entry (by omega) h7 fun n _ hg => writeEntry_conversion hg ▸ leads_enumerated fun _ => hsame rfl
  | 4, h7 => exact leads_entry (by omega) h7 fun n _ hg =>
      writeEntry_profile hg ▸ leads_unless (leads_enumerated fun _ => hsame rfl)
  | 5, h7 => exact leads_entry (by omega) h7 fun n _ hg =>
      writeEntry_member hg ▸ leads_unless (leads_unless (hsame rfl))
  | 6, h7 => exact leads_entry (by omega) h7 fun n _ hg =>
      writeEntry_manager hg ▸ leads_enumerated fun _ => leads_unless (hsame rfl)
  | 7, h7 => exact leads_entry (by omega) h7 fun n _ hg => writeEntry_access hg ▸ leads_enumerated fun _ => hsame rfl

/-- With the lock set the Engine Parameters are the one table that an entry is written to (R157). -/
theorem leads_locked (hl : s.mgmt.lock = true) (h7 : table ≤ 7) (h : ∀ t, ParamWritten s t → P t) :
    Leads P (s.writeEntry table i cls e) := by
  rcases Nat.eq_zero_or_pos table with rfl | h1
  · exact (leads_paramEntry s i cls e).imp h
  · exact leads_entry h1 h7 fun n hno _ => absurd hl (by simp [hno])

end

end Sys2Proof.Proofs.LockKept
end

/-! ## The configuration under the lock (O58) -/

section
namespace Sys2Proof.Proofs.LockKept
open Sys2Proof Sys2Proof.Machine Sys2Proof.Laws Sys2Proof.Proofs.StreamsKept

/-! ### What is kept while the lock is set -/

/-- A canonical context table stays canonical and keeps every context's descriptor and binding. -/
def DescribedKept (a b : Tbl Ctx) : Prop :=
  Tbl.wf Ctx.zero a = true → Tbl.wf Ctx.zero b = true ∧ ∀ k,
    (Tbl.get Ctx.zero b k).desc = (Tbl.get Ctx.zero a k).desc
      ∧ (Tbl.get Ctx.zero b k).binding = (Tbl.get Ctx.zero a k).binding

theorem DescribedKept.refl (a : Tbl Ctx) : DescribedKept a a := fun ha => ⟨ha, fun _ => ⟨rfl, rfl⟩⟩

theorem DescribedKept.trans {a b c : Tbl Ctx} (h : DescribedKept a b) (k : DescribedKept b c) : DescribedKept a c :=
  fun ha => by
    obtain ⟨hb, hab⟩ := h ha
    obtain ⟨hc, hbc⟩ := k hb
    exact ⟨hc, fun i => ⟨(hbc i).1.trans (hab i).1, (hbc i).2.trans (hab i).2⟩⟩

theorem describedKept_of_setup {a b : Tbl Ctx} (h : SetupKept a b) : DescribedKept a b := fun ha =>
  ⟨(h ha).1, fun k => ⟨((h ha).2 k).desc, ((h ha).2 k).binding⟩⟩

/-- A profile with its enabled state left out. -/
def disabled (x : Profile) : Profile := { x with enabled := false }

/-- A canonical profile table stays canonical and keeps every profile apart from its enabled state. -/
def DefinedKept (a b : Tbl Profile) : Prop :=
  Tbl.wf Profile.zero a = true → Tbl.wf Profile.zero b = true ∧ ∀ n,
    disabled (Tbl.get Profile.zero b n) = disabled (Tbl.get Profile.zero a n)

theorem DefinedKept.refl (a : Tbl Profile) : DefinedKept a a := fun ha => ⟨ha, fun _ => rfl⟩

theorem DefinedKept.trans {a b c : Tbl Profile} (h : DefinedKept a b) (k : DefinedKept b c) : DefinedKept a c :=
  fun ha => by
    obtain ⟨hb, hab⟩ := h ha
    obtain ⟨hc, hbc⟩ := k hb
    exact ⟨hc, fun n => (hbc n).trans (hab n)⟩

/-- t has the lock of s and what it guards (R157). -/
structure ConfigKept (s t : State) : Prop where
  guarded : guarded t = guarded s
  map : t.map = s.map
  members : t.members = s.members
  ctxs : DescribedKept s.ctxs t.ctxs
  profiles : DefinedKept s.profiles t.profiles

theorem ConfigKept.refl (s : State) : ConfigKept s s := ⟨rfl, rfl, rfl, .refl _, .refl _⟩

theorem ConfigKept.trans {s t u : State} (h : ConfigKept s t) (k : ConfigKept t u) : ConfigKept s u :=
  ⟨k.guarded.trans h.guarded, k.map.trans h.map, k.members.trans h.members, h.ctxs.trans k.ctxs,
    h.profiles.trans k.profiles⟩

/-- An operation that leaves the streams' configuration and the guarded items alone. -/
theorem configKept_of_keeps {s t : State} (h : Keeps s t) (hg : guarded t = guarded s) : ConfigKept s t :=
  ⟨hg, h.map, h.members, describedKept_of_setup h.ctxs, h.profiles ▸ .refl _⟩

theorem configKept_of_aside {s t : State} (h : t.aside = s.aside) : ConfigKept s t :=
  configKept_of_keeps (keeps_of_aside h) (guarded_of_aside h)

theorem configKept_of_composerOnly {s t : State} (h : ComposerOnly s t) : ConfigKept s t := by
  obtain ⟨x, rfl⟩ := h
  exact configKept_of_keeps (keeps_composer s x) rfl

theorem configKept_setCtx {s : State} {k : Nat} {c : Ctx} (hd : c.desc = (s.ctx k).desc)
    (hb : c.binding = (s.ctx k).binding) : ConfigKept s (s.setCtx k c) := by
  refine ⟨rfl, rfl, rfl, fun ha => ⟨wf_set ha k c, fun i => ?_⟩, .refl _⟩
  have hget : Tbl.get Ctx.zero (s.setCtx k c).ctxs i = if k = i then c else Tbl.get Ctx.zero s.ctxs i := get_set ha k c i
  rw [hget]
  split
  · next hk => exact hk ▸ ⟨hd, hb⟩
  · exact ⟨rfl, rfl⟩

theorem configKept_setProfile {s : State} {n : Nat} {x : Profile} (h : disabled x = disabled (s.profile n)) :
    ConfigKept s (s.setProfile n x) := by
  refine ⟨rfl, rfl, rfl, .refl _, fun ha => ⟨wf_set ha n x, fun i => ?_⟩⟩
  have hget : Tbl.get Profile.zero (s.setProfile n x).profiles i = if n = i then x else Tbl.get Profile.zero s.profiles i :=
    get_set ha n x i
  rw [hget]
  split
  · next hn => exact hn ▸ h
  · rfl

theorem lock_of_guarded {s t : State} (h : guarded t = guarded s) : t.mgmt.lock = s.mgmt.lock := congrArg Guarded.lock h

/-- t keeps the configuration of s where the lock is set in s. -/
def Locks (s t : State) : Prop := s.mgmt.lock = true → ConfigKept s t

theorem Locks.trans {s t u : State} (h : Locks s t) (k : Locks t u) : Locks s u := fun hl =>
  (h hl).trans (k ((lock_of_guarded (h hl).guarded).trans hl))

theorem ConfigKept.locks {s t : State} (h : ConfigKept s t) : Locks s t := fun _ => h

/-- What SameConfig names, of canonical tables. -/
theorem sameConfig_of_kept {s t : State} (h : ConfigKept s t) (hs : s.canonical) : SameConfig s t := by
  obtain ⟨-, hctxs, -, -, -, hprofiles, -⟩ := hs
  obtain ⟨hg, hmap, hmembers, hc, hp⟩ := h
  simp only [guarded, Guarded.mk.injEq, structural, Prod.mk.injEq] at hg
  obtain ⟨hstructural, hconv, hmanagers, haccess, -⟩ := hg
  exact ⟨hstructural, hmap, (hc hctxs).2, hconv, (hp hprofiles).2, hmembers, hmanagers, haccess⟩

/-! ### WRITE_ENTRIES (R158) -/

theorem configKept_of_param {s t : State} (hl : s.mgmt.lock = true) (h : ParamWritten s t) : ConfigKept s t := by
  refine ⟨?_, h.map, h.members, describedKept_of_setup h.ctxs, h.profiles ▸ .refl _⟩
  unfold guarded
  rw [h.structural hl, h.conv, h.mgmt]

theorem locks_writeTransfer {table : Nat} (h7 : table ≤ 7) (cls : Nat) (step : Int) (es : List (List Byte)) (i : Int)
    (n : Nat) (cl : Bool) (s : State) : Locks s (writeTransfer table cls step es i n cl s).1 := by
  induction es generalizing i n cl s with
  | nil => exact fun _ => .refl s
  | cons e es ih =>
    intro hl
    have he : Leads (ConfigKept s) (s.writeEntry table i cls e) := leads_locked hl h7 fun t => configKept_of_param hl
    unfold writeTransfer
    split
    · exact .refl s
    · next t c hw =>
      rw [hw] at he
      exact (ConfigKept.locks he).trans (ih _ _ _ t) hl

/-! ### The other directives' own work -/

theorem configKept_enableWork (s : State) (k : Nat) : ConfigKept s (s.enableWork k).1 := by
  unfold State.enableWork
  iterate 4 (split; · exact .refl s)
  exact configKept_setCtx rfl rfl

theorem configKept_disableWork (s : State) (k : Nat) : ConfigKept s (s.disableWork k).1 := by
  unfold State.disableWork
  iterate 2 (split; · exact .refl s)
  dsimp only
  have hoff : ConfigKept s (s.setCtx k { s.ctx k with enabled := false }) := configKept_setCtx rfl rfl
  exact hoff.trans (configKept_of_keeps (keeps_clearAwaited _ k) (guarded_of_storeOnly (clearAwaited_only _ k)))

theorem configKept_enableProfileWork (s : State) (n : Nat) : ConfigKept s (s.enableProfileWork n).1 := by
  unfold State.enableProfileWork
  split; · exact .refl s
  dsimp only
  iterate 5 (split; · exact .refl s)
  exact configKept_setProfile rfl

theorem configKept_disableProfileWork (s : State) (n : Nat) : ConfigKept s (s.disableProfileWork n).1 := by
  unfold State.disableProfileWork
  iterate 2 (split; · exact .refl s)
  have hoff : ConfigKept s (s.setProfile n { s.profile n with enabled := false }) := configKept_setProfile rfl
  exact hoff.trans (configKept_of_composerOnly (formBatch_composerOnly _ n))

theorem guarded_setEngine (s : State) (e : EngineState) : guarded (s.setEngine e) = guarded s := rfl

theorem guarded_formAllBatches (s : State) : guarded s.formAllBatches = guarded s :=
  guarded_of_composerOnly (formAllBatches_composerOnly s)

theorem guarded_enterDraining (s : State) : guarded s.enterDraining = guarded s := by
  unfold State.enterDraining
  exact (guarded_judgeDrain _).trans ((guarded_offer _).trans
    ((guarded_formAllBatches _).trans (guarded_setEngine s .draining)))

theorem guarded_resumeWork (s : State) : guarded s.resumeWork.1 = guarded s := by
  unfold State.resumeWork
  split
  · split
    · dsimp only
      exact guarded_enterRunning s
    · rfl
  · rfl

theorem guarded_pauseWork (s : State) : guarded s.pauseWork.1 = guarded s := by
  unfold State.pauseWork
  split
  · dsimp only
    exact guarded_enterDraining s
  all_goals rfl

theorem guarded_pauseNowWork (s : State) : guarded s.pauseNowWork.1 = guarded s := by
  unfold State.pauseNowWork
  split
  · dsimp only
    exact (guarded_enterDraining _).trans
      ((guarded_of_storeOnly (closeAll_only _ _)).trans (guarded_setEngine s .draining))
  all_goals rfl

theorem guarded_engineResetWork (s : State) (d : Directive) : guarded (s.engineResetWork d) = guarded s := by
  have hblocks : guarded s.resetBlocks = guarded s := by
    unfold State.resetBlocks
    exact (guarded_of_aside (flushEnded_agree _).1).trans rfl
  exact hblocks

theorem guarded_flushWork (s : State) (d : Directive) : guarded (s.flushWork d).1 = guarded s := by
  have hformed := guarded_formAllBatches s
  unfold State.flushWork State.flushBegin
  generalize s.formAllBatches = t at hformed ⊢
  iterate 2 (split; · rfl)
  exact hformed

theorem guarded_statusWork (s : State) (d : Directive) : guarded (s.statusWork d).1 = guarded s := by
  have hflags (n : Nat) : guarded (s.clearFlags n) = guarded s := by
    unfold State.clearFlags
    split <;> rfl
  unfold State.statusWork
  dsimp only
  split
  · exact hflags _
  · rfl

/-! ### Directives -/

/-- The own work of a directive that the lock does not refuse at order 8 (R154, R157), by its code. -/
theorem locks_ownWork {c : DirectiveCode} {d : Directive} (s : State) (cls : Nat) (hc : lockRefuses c = false)
    (ht : isTransfer c = true → d.option.toNat ≤ 7) : Locks s (s.ownWork cls c d).1 := by
  unfold State.ownWork
  cases c with
  | readEntries => exact (ConfigKept.refl s).locks
  | writeEntries => exact locks_writeTransfer (ht rfl) _ _ _ _ _ _ s
  | bindStream => cases hc
  | unbindStream => cases hc
  | setStreamState =>
    dsimp only
    split
    · exact (configKept_enableWork s _).locks
    · exact (configKept_disableWork s _).locks
  | enableProfile => exact (configKept_enableProfileWork s _).locks
  | disableProfile => exact (configKept_disableProfileWork s _).locks
  | resume => exact (configKept_of_keeps (keeps_resumeWork s) (guarded_resumeWork s)).locks
  | pause => exact (configKept_of_keeps (keeps_pauseWork s) (guarded_pauseWork s)).locks
  | pauseNow => exact (configKept_of_keeps (keeps_pauseNowWork s) (guarded_pauseNowWork s)).locks
  | engineReset =>
    exact (configKept_of_keeps ((keeps_mgmt _ _).after (keeps_resetBlocks s)) (guarded_engineResetWork s d)).locks
  | flushBatches => exact (configKept_of_keeps (keeps_flushWork s d) (guarded_flushWork s d)).locks
  | clearCounters => exact (configKept_of_keeps (keeps_clearCounts s) rfl).locks
  | lockConfig => exact fun hl => configKept_of_keeps (keeps_mgmt s _) (by simp only [State.lockWork, guarded, hl])
  | readStatus => exact (configKept_of_keeps (keeps_statusWork s d) (guarded_statusWork s d)).locks

/-- A directive that passes the checks is not one that the lock refuses, and names a table (R154). -/
theorem checkKnown_passed {s : State} {cls : Nat} {c : DirectiveCode} {d : Directive}
    (h : s.checkKnown cls c d = none) :
    (isTransfer c = true → d.option.toNat ≤ 7) ∧ (s.mgmt.lock = true → lockRefuses c = false) := by
  unfold State.checkKnown at h
  split at h
  · cases h
  next htable =>
  iterate 4 (split at h; · cases h)
  split at h
  · cases h
  next hlock =>
  exact ⟨fun ht => Nat.not_lt.1 fun h7 => htable ⟨ht, h7⟩, fun hl => Bool.eq_false_iff.2 fun hc => hlock ⟨hc, hl⟩⟩

theorem locks_directiveWork (s : State) (cls : Nat) (d : Directive) : Locks s (s.directiveWork cls d).1 := by
  unfold State.directiveWork
  split
  · exact (ConfigKept.refl s).locks
  · split
    · exact (ConfigKept.refl s).locks
    · next hc =>
      obtain ⟨ht, hlock⟩ := checkKnown_passed hc
      exact fun hl => locks_ownWork s cls (hlock hl) ht hl

theorem finishDirective_configKept (s : State) (d : Directive) (r : Option Reply) :
    ConfigKept s (s.finishDirective d r) := by
  have hsettle (t : State) : ConfigKept t t.settleAndJudge := configKept_of_aside (settleAndJudge_aside t)
  unfold State.finishDirective
  split
  · exact (configKept_of_aside (s := s) (t := (s.setExec .idle).nextFree) rfl).trans (hsettle _)
  · refine (configKept_of_aside ?_).trans (hsettle _)
    rw [nextFree_aside, (offerAnswer_agree _ _).1, countAnswer_aside]

theorem locks_executeDirective (s : State) (d : Directive) : Locks s (s.executeDirective d) := by
  unfold State.executeDirective
  split
  · refine ConfigKept.locks (configKept_of_aside ?_)
    rfl
  · next cls _ =>
    have hexec : ConfigKept s (s.setExec .executing) := configKept_of_aside rfl
    have hwork := hexec.locks.trans (locks_directiveWork (s.setExec .executing) cls d)
    exact hwork.trans ((configKept_of_aside (settleAndJudge_aside _)).trans (finishDirective_configKept _ d _)).locks

theorem locks_runDirective (s : State) (d : Directive) : Locks s (s.runDirective d) :=
  (configKept_of_keeps (keeps_takePlacement s) (guarded_takePlacement s)).locks.trans (locks_executeDirective _ d)

theorem locks_takeDirective (s : State) (d : Directive) : Locks s (s.takeDirective d) := by
  unfold State.takeDirective
  split
  · exact locks_runDirective s d
  · exact (ConfigKept.refl s).locks

/-! ### Steps -/

/-- The commands that are events, but for power-on reset. -/
theorem locks_event {c : Instr} {s t : State} (hc : directiveOf c = none) (hp : ∀ pins, c ≠ .powerOnReset pins)
    (h : exec c s = .next t) : Locks s t := by
  have hsame : Locks s s := (ConfigKept.refl s).locks
  have hwait (dt : Nat) : ConfigKept s (s.elapse dt) := configKept_of_keeps (keeps_tru s _) rfl
  have htru (u : State) (x : Tru) : ConfigKept u { u with tru := x } := configKept_of_keeps (keeps_tru u x) rfl
  have hegress (u : State) (x : Egress) : ConfigKept u { u with egress := x } :=
    configKept_of_keeps (keeps_of_eq rfl rfl rfl rfl rfl rfl) rfl
  have hsettle (u : State) : ConfigKept u u.settleAndJudge := configKept_of_aside (settleAndJudge_aside u)
  cases c with
  | powerOnReset pins => exact absurd rfl (hp pins)
  | frameArrival after link source frame =>
    cases h
    exact ((hwait after).trans (configKept_of_keeps (keeps_setLinkIn _ _ _) (guarded_setLinkIn _ _ _))).locks
  | frameTake => cases h; exact (configKept_of_keeps (keeps_takeFrame s) (guarded_takeFrame s)).locks
  | placementRequest => cases h; exact (configKept_of_keeps (keeps_takePlacement s) (guarded_takePlacement s)).locks
  | instantEvent =>
    cases h
    exact ((hwait _).trans (configKept_of_keeps (keeps_takeInstant _) (guarded_takeInstant _))).locks
  | deadlineExpiry g =>
    cases h
    split
    · exact ((hwait _).trans (configKept_of_keeps (keeps_expire _ g) (guarded_expire _ g))).locks
    · exact hsame
  | compositionStep => cases h; exact (configKept_of_keeps (keeps_composeStep s) (guarded_composeStep s)).locks
  | holdExpiry profile =>
    cases h
    split
    · exact hsame
    · exact ((hwait _).trans (configKept_of_keeps (keeps_takeHoldExpiry _ _) (guarded_takeHoldExpiry _ _))).locks
  | readyIndication after => cases h; exact (((hwait after).trans (hegress _ _)).trans (hsettle _)).locks
  | completionIndication after => cases h; exact ((hwait after).trans (hegress _ _)).locks
  | todMessage after bytes => cases h; exact ((hwait after).trans (htru _ _)).locks
  | ppsEdge after polarity =>
    cases h
    split
    · exact ((hwait after).trans (configKept_of_keeps (keeps_takeEdge _) (guarded_takeEdge _))).locks
    · exact (hwait after).locks
  | edgeTimerExpiry =>
    cases h
    split
    · exact hsame
    · exact ((hwait _).trans (htru _ _)).locks
  | holdoverSecond =>
    cases h
    split
    · exact ((hwait _).trans (htru _ _)).locks
    · exact hsame
  | directiveTake =>
    cases h
    split
    · next f rest _ _ =>
      have hqueue : ConfigKept s { s with mgmt := { s.mgmt with queue := rest } } :=
        configKept_of_keeps (keeps_mgmt s _) rfl
      exact hqueue.locks.trans (locks_runDirective _ _)
    · exact hsame
  | scrubCompletion =>
    cases h
    split
    · refine (ConfigKept.trans ?_ (hsettle _)).locks
      unfold State.scrubDone
      dsimp only
      split <;> exact configKept_of_keeps (keeps_of_eq rfl rfl rfl rfl rfl rfl) rfl
    · exact hsame
  | writeWindowLimits r limit v => cases limit <;> cases hc
  | writeWatermark r mark v => cases mark <;> cases hc
  | writeHoldoverParameter r param v => cases param <;> cases hc
  | _ => cases hc

theorem locks_exec {c : Instr} {s t : State} (hp : ∀ pins, c ≠ .powerOnReset pins) (h : exec c s = .next t) :
    Locks s t := by
  cases hc : directiveOf c with
  | none => exact locks_event hc hp h
  | some x =>
    obtain ⟨r, k, d⟩ := x
    rw [exec_directive hc] at h
    cases h
    exact locks_takeDirective s d

theorem locks_step {s t : State} (hp : ∀ pins, s.pending.head? ≠ some (.powerOnReset pins)) (h : step s = .next t) :
    Locks s t := by
  rcases Ranges.step_cases h with ⟨-, ht⟩ | ⟨c, rest, hq, hc⟩
  · exact ht ▸ (configKept_of_keeps (keeps_tick s) (guarded_tick s)).locks
  · rw [hq, List.head?_cons] at hp
    have hrest : ConfigKept s { s with pending := rest } := configKept_of_keeps (keeps_of_eq rfl rfl rfl rfl rfl rfl) rfl
    exact hrest.locks.trans (locks_exec (fun pins hpins => hp pins (congrArg some hpins)) hc)

/-- Settles O58: the directives that write the configuration test the lock, and nothing else reaches it. -/
theorem lockHoldsConfiguration : Obligations.LockHoldsConfiguration := by
  intro s t hs hl hp h
  have hkept := locks_step hp h hl
  exact ⟨(lock_of_guarded hkept.guarded).trans hl, sameConfig_of_kept hkept hs⟩

end Sys2Proof.Proofs.LockKept
end

/-! ## WRITE_ENTRIES of any count (O39) -/

section
namespace Sys2Proof.Proofs.WriteTransfer
open Sys2Proof Sys2Proof.Machine Sys2Proof.Laws Sys2Proof.Proofs.LockKept Sys2Proof.Proofs.Delivery

/-! ### The chain of writes -/

section
variable (write : State → Nat → WriteResult) (s : State)

/-- The state once entries 0 to i - 1 have been written, each on what the one before it left. -/
def chain : Nat → State
  | 0 => s
  | i + 1 =>
    match write (chain i) i with
    | .written t _ => t
    | .fails _ => chain i

/-- Whether entry i is clamped where it stands in the chain. -/
def marks (i : Nat) : Bool :=
  match write (chain write s i) i with
  | .written _ c => c
  | .fails _ => false

/-- The first n entries are written one after the other. -/
def ChainTo (n : Nat) : Prop :=
  ∀ i, i < n → write (chain write s i) i = .written (chain write s (i + 1)) (marks write s i)

end

section
variable {write : State → Nat → WriteResult} {s : State} {n : Nat}

theorem chain_succ {t : State} {c : Bool} (h : write (chain write s n) n = .written t c) :
    chain write s (n + 1) = t ∧ marks write s n = c := by
  unfold chain marks
  rw [h]
  exact ⟨rfl, rfl⟩

theorem ChainTo.succ {t : State} {c : Bool} (hn : ChainTo write s n) (h : write (chain write s n) n = .written t c) :
    ChainTo write s (n + 1) := fun i hi => by
  rcases Nat.lt_succ_iff_lt_or_eq.1 hi with hlt | rfl
  · exact hn i hlt
  · obtain ⟨ht, hc⟩ := chain_succ h
    rw [ht, hc, h]

/-- What every write keeps holds along the chain. -/
theorem ChainTo.keeps {P : State → Prop} (hn : ChainTo write s n) (h0 : P s)
    (h : ∀ u i, P u → Leads P (write u i)) : P (chain write s n) := by
  induction n with
  | zero => exact h0
  | succ n ih =>
    have hw := h _ n (ih fun i hi => hn i (Nat.lt_succ_of_lt hi))
    rw [hn n (Nat.lt_succ_self n)] at hw
    exact hw

/-- The answer of a transfer that writes all n entries (R158). -/
def wroteAll (n : Nat) (clamped : Bool) : Reply :=
  { outcome := if clamped = true then .clamped else .done, entriesDone := n }

/-- The answer of a transfer that stops with a cause after n entries (R158). -/
def stopped (n : Nat) (cause : OutcomeCode) (clamped : Bool) : Reply :=
  { outcome := .partialDone, entriesDone := n, cause := some cause, clampedBefore := clamped }

/-- How a transfer of `count` entries ends, by how many of them are written. -/
def EndsAt (write : State → Nat → WriteResult) (s : State) (count : Nat) (result : State × Reply) : Prop :=
  ∃ n, n ≤ count ∧ ChainTo write s n
    ∧ (n = count → result = (chain write s n, wroteAll n ((List.range n).any (marks write s))))
    ∧ (n < count → ∃ cause, write (chain write s n) n = .fails cause
        ∧ result = (chain write s n, stopped n cause ((List.range n).any (marks write s))))

end

/-! ### The transfer follows the chain -/

/-- Entry i of a transfer, written to a state: its index is i steps from the start (R158). -/
def writeAt (table cls : Nat) (start d : Int) (entry : Nat → List Byte) (u : State) (i : Nat) : WriteResult :=
  u.writeEntry table (start + i * d) cls (entry i)

/-- The transfer's walk, j entries having been written before it. -/
theorem writeTransfer_ends (table cls : Nat) (start d : Int) (entry : Nat → List Byte) (s : State) (j left : Nat)
    (hj : ChainTo (writeAt table cls start d entry) s j) :
    EndsAt (writeAt table cls start d entry) s (j + left)
      (writeTransfer table cls d ((List.range' j left).map entry) (start + j * d) j
        ((List.range j).any (marks (writeAt table cls start d entry) s)) (chain (writeAt table cls start d entry) s j)) := by
  induction left generalizing j with
  | zero => exact ⟨j, le_rfl, hj, fun _ => rfl, fun h => absurd h (lt_irrefl _)⟩
  | succ left ih =>
    rw [List.range'_succ, List.map_cons]
    unfold writeTransfer
    split
    · next c hw => exact ⟨j, by omega, hj, fun h => by omega, fun _ => ⟨c, hw, rfl⟩⟩
    · next t c hw =>
      obtain ⟨ht, hc⟩ := chain_succ (write := writeAt table cls start d entry) hw
      have hnext := ih (j + 1) (hj.succ hw)
      have hindex : start + j * d + d = start + (j + 1 : Nat) * d := by
        push_cast
        ring
      rw [ht, List.range_succ, List.any_append, List.any_cons, List.any_nil, Bool.or_false, hc] at hnext
      rw [hindex, ← Nat.succ_add_eq_add_succ]
      exact hnext

/-- The bytes of entry i of a transfer's data. -/
def entryBytes (size : Nat) (data : List Byte) (i : Nat) : List Byte := (data.drop (i * size)).take size

theorem entriesOf_eq (size count : Nat) (data : List Byte) :
    entriesOf size count data = (List.range' 0 count).map (entryBytes size data) := by
  rw [← List.range_eq_range']
  rfl

/-- The work of a WRITE_ENTRIES ends where its chain of writes does. -/
theorem writeWork_ends {s : State} {r : Request} {table : Byte} {t : Transfer} {cls : Nat} {d : Int}
    (hs : stepOf t.step = some d) :
    EndsAt (writeAt table.toNat cls t.start.toNat d (entryBytes (entrySize table.toNat) t.data)) s t.count.toNat
      (s.writeWork cls (writeDirective r table t)) := by
  have hends := writeTransfer_ends table.toNat cls t.start.toNat d (entryBytes (entrySize table.toNat) t.data) s 0
    t.count.toNat fun i hi => absurd hi (Nat.not_lt_zero i)
  rw [Nat.zero_add, Nat.cast_zero, zero_mul, add_zero, ← entriesOf_eq] at hends
  unfold State.writeWork writeDirective directive
  dsimp only
  rw [hs]
  exact hends

/-- Settles O39: the chain is executing throughout, so what it ends in is what the directive leaves. -/
theorem writeTransferStopsAtFailure : Obligations.WriteTransferStopsAtFailure := by
  intro s v command r table t cls d hd hcan h7 hc1 hc64 hs hl write
  obtain ⟨n, hn, hchain, hall, hstop⟩ := writeWork_ends (s := v.setExec .executing) (r := r) (table := table) (cls := cls) hs
  have hexec : (chain write (v.setExec .executing) n).mgmt.exec = .executing :=
    hchain.keeps (P := fun u => u.mgmt.exec = .executing) rfl fun u i hu =>
      (leads_exec h7).imp fun t ht => ht.trans hu
  have hcompletes {x : Reply} (hw : (v.setExec .executing).writeWork cls (writeDirective r table t) =
      (chain write (v.setExec .executing) n, x)) :
      Completes s command r .writeEntries ((chain write (v.setExec .executing) n).setExec .idle) x := by
    refine completes_delivered hd hcan.1.1 (write_carried hcan h7 ⟨hc1, hc64⟩ (by simp [hs]) hl ?_)
    rw [setExec_setExec, setExec_self hexec, hw]
  refine ⟨chain write (v.setExec .executing), marks write (v.setExec .executing), n, rfl, hn, hchain,
    fun h => hcompletes (hall h), fun h => ?_⟩
  obtain ⟨cause, hfail, hw⟩ := hstop h
  exact ⟨cause, hfail, hcompletes hw⟩

end Sys2Proof.Proofs.WriteTransfer
end

/-! ## The answer frame (O36) -/

section
namespace Sys2Proof.Proofs.AnswerFrame
open Sys2Proof Sys2Proof.Machine Sys2Proof.Laws Sys2Proof.Proofs.Records Sys2Proof.Proofs.Status Sys2Proof.Proofs.Frames
  Sys2Proof.Proofs.Entries

/-! ### The frame, part by part (11.4) -/

/-- Byte 11 as a number: PENDING, LOCKED, FLUSH_BUSY and the engine state. -/
def flagsNumber (s : State) : Nat :=
  128 * bit (s.mgmt.pendingMap != 0) + 64 * bit s.mgmt.lock + 32 * bit s.composer.flushBusy + engineCode s.mgmt.engine

/-- The cause byte: an outcome's code, or 0 without a cause. -/
def causeByte (x : Reply) : Byte := (x.cause.map outcomeByte).getD 0

/-- The parts of an answer's own header, after the common one. -/
def answerParts (s : State) (code : Byte) (x : Reply) : List Part :=
  [num 1 code.toNat, num 1 (outcomeByte x.outcome).toNat, num 1 x.entriesDone, num 1 (flagsNumber s),
    num 1 (causeByte x).toNat, num 1 (bit x.clampedBefore), num 1 0, num 1 0]

theorem formAnswer_headed (s : State) (dest : Word) (tag : Half) (code : Byte) (x : Reply) :
    Headed (s.formAnswer dest tag code x).bytes
      (headerParts 0x32 (16 + x.data.length) s.params.mgmtId tag.toNat ++ answerParts s code x) x.data := by
  refine ⟨?_, sized_append.2 ⟨sized_headerParts _ _ _ _, by simp [answerParts, sized_cons, sized_nil, num_length]⟩⟩
  rw [layout_append, ← header_eq]
  unfold State.formAnswer State.answerFlags
  simp only [answerParts, layout, List.flatMap_cons, List.flatMap_nil, causeByte, num, beBytes_one,
    BitVec.ofNat_toNat, BitVec.setWidth_eq]
  cases x.cause <;> rfl

/-! ### Its bits -/

/-- Three flags above a number of three bits. -/
theorem flagsOver (a b c : Bool) {n : Nat} (hn : n < 8) :
    let f : Byte := BitVec.ofNat 8 (128 * bit a + 64 * bit b + 32 * bit c + n)
    f.getLsbD 7 = a ∧ f.getLsbD 6 = b ∧ f.getLsbD 5 = c ∧ f.toNat % 8 = n := by
  have h : ∀ (a b c : Bool) (n : Fin 8),
      let f : Byte := BitVec.ofNat 8 (128 * bit a + 64 * bit b + 32 * bit c + n.val)
      f.getLsbD 7 = a ∧ f.getLsbD 6 = b ∧ f.getLsbD 5 = c ∧ f.toNat % 8 = n.val := by decide
  exact h a b c ⟨n, hn⟩

theorem engineCode_lt (e : EngineState) : engineCode e < 8 := by cases e <;> decide

theorem bit_getLsbD (b : Bool) : (BitVec.ofNat 8 (bit b)).getLsbD 0 = b := by cases b <;> rfl

/-- A set of contexts is not empty when it holds one of the 256. -/
theorem ctxSet_ne_zero_iff (m : CtxSet) : (m != 0) = true ↔ ∃ k, k < 256 ∧ CtxSet.has m k = true := by
  rw [bne_iff_ne]
  constructor
  · intro h
    by_contra hno
    push Not at hno
    refine h (BitVec.eq_of_getLsbD_eq fun k hk => ?_)
    rw [BitVec.ofNat_eq_ofNat, BitVec.getLsbD_zero]
    exact Bool.eq_false_iff.2 (hno k hk)
  · rintro ⟨k, -, hk⟩ rfl
    exact absurd hk (by simp [CtxSet.has])

/-! ### Its counts (R167) -/

theorem carries_iff (x : Reply) (o : OutcomeCode) :
    x.carries o = true ↔ x.outcome = o ∨ (x.outcome = .partialDone ∧ x.cause = some o) := by
  unfold Reply.carries
  simp only [Bool.or_eq_true, Bool.and_eq_true, beq_iff_eq]

end Sys2Proof.Proofs.AnswerFrame
end

/-! ## DIRECTIVE_TAKE (O36) -/

section
namespace Sys2Proof.Proofs.TakeHead
open Sys2Proof Sys2Proof.Machine Sys2Proof.Laws Sys2Proof.Proofs.StreamsKept Sys2Proof.Proofs.Delivery
  Sys2Proof.Proofs.Records Sys2Proof.Proofs.Frames Sys2Proof.Proofs.AnswerFrame

/-- A unit that is not IDLE, or an empty queue, takes nothing (R153). -/
theorem directiveTake_none {s : State} (h : s.mgmt.exec ≠ .idle ∨ s.mgmt.queue = []) :
    exec .directiveTake s = .next s := by
  change execDirectiveTake s = _
  unfold execDirectiveTake
  split
  · next hi hq =>
    rcases h with h | h
    · exact absurd hi h
    · rw [hq] at h
      cases h
  · rfl

/-- The IDLE unit takes the directive that the head's bytes read as (R153). -/
theorem directiveTake_head {s : State} {f : InFrame} {rest : List InFrame} (hi : s.mgmt.exec = .idle)
    (hq : s.mgmt.queue = f :: rest) :
    exec .directiveTake s =
      .next ({ s with mgmt := { s.mgmt with queue := rest } }.takeDirective (parseDirective s.free f)) := by
  rw [takeDirective_idle (s := { s with mgmt := { s.mgmt with queue := rest } }) hi]
  change execDirectiveTake s = _
  unfold execDirectiveTake
  rw [hi, hq]

/-! ### Order 2 of R154 -/

/-- A byte that is none of the fifteen codes names no directive. -/
theorem codeOf_none {b : Byte} (h : ∀ k, b ≠ codeByte k) : codeOf b = none := by
  have hskip {k : DirectiveCode} {x y : Option DirectiveCode} (hy : y = none) :
      (if b = codeByte k then x else y) = none := (if_neg (h k)).trans hy
  unfold codeOf
  exact hskip (k := .readEntries) <| hskip (k := .writeEntries) <| hskip (k := .bindStream) <|
    hskip (k := .unbindStream) <| hskip (k := .setStreamState) <| hskip (k := .enableProfile) <|
    hskip (k := .disableProfile) <| hskip (k := .resume) <| hskip (k := .pause) <| hskip (k := .pauseNow) <|
    hskip (k := .engineReset) <| hskip (k := .flushBatches) <| hskip (k := .clearCounters) <|
    hskip (k := .lockConfig) <| hskip (k := .readStatus) rfl

/-- A frame of 8 bytes has no code; a longer one has byte 8 (11.4). -/
theorem parseDirective_code (event : Nat) {f : InFrame} (h8 : 8 ≤ f.bytes.length) :
    (parseDirective event f).code = if f.bytes.length = 8 then none else some (byteAt f.bytes 8) := by
  change f.bytes[8]? = _
  split
  · next h => exact List.getElem?_eq_none h.le
  · next h =>
    have hlt : 8 < f.bytes.length := by omega
    unfold byteAt
    rw [List.getD_eq_getElem?_getD, List.getElem?_eq_getElem hlt, Option.getD_some]

/-- A directive without one of the fifteen codes is answered MALFORMED, and nothing is done (R154). -/
theorem directiveWork_malformed {s : State} {cls : Nat} {d : Directive} (h : d.code.bind codeOf = none) :
    s.directiveWork cls d = (s, some (reply .malformed)) := by
  unfold State.directiveWork
  rw [h]

/-- The malformed head is taken and answered (R153, R154). -/
theorem directiveTake_malformed {s : State} {f : InFrame} {rest : List InFrame} {cls : Nat}
    (hq : s.mgmt.queue = f :: rest) (h8 : 8 ≤ f.bytes.length)
    (hbad : f.bytes.length = 8 ∨ ∀ k, byteAt f.bytes 8 ≠ codeByte k)
    (hk : s.knows { source := f.source, tag := BitVec.ofNat 16 (field f.bytes 6 2) } cls) :
    ∃ t, exec .directiveTake s = .next t
      ∧ Carried { s with mgmt := { s.mgmt with queue := rest } } t
        { source := f.source, tag := BitVec.ofNat 16 (field f.bytes 6 2) }
        (if f.bytes.length = 8 then 0 else byteAt f.bytes 8) (reply .malformed) := by
  have hcode := parseDirective_code s.free h8
  have hnone : (parseDirective s.free f).code.bind codeOf = none := by
    rw [hcode]
    split
    · rfl
    · next hlen => exact codeOf_none (hbad.resolve_left hlen)
  refine ⟨_, directiveTake_head hk.1 hq, carried_of_work rfl rfl ?_ (cls := cls) hk (directiveWork_malformed hnone)⟩
  rw [hcode]
  split <;> rfl

/-! ### The obligation -/

/-- Settles O36: the head's bytes are read as the fields they lay out, and the answer frame is its parts. -/
theorem directiveTakeRunsTheHead : Obligations.DirectiveTakeRunsTheHead := by
  refine ⟨fun s h => directiveTake_none h, rfl, fun s f rest cls hq h8 hbad hk => directiveTake_malformed hq h8 hbad hk,
    fun s dest tag code x => ?frame, rfl, fun m x => ?counts, fun s r k o c st i data rest hi hhead => ?head⟩
  case frame =>
    have h := formAnswer_headed s dest tag code x
    obtain ⟨hpending, hlock, hbusy, hengine⟩ :=
      flagsOver (s.mgmt.pendingMap != 0) s.mgmt.lock s.composer.flushBusy (engineCode_lt s.mgmt.engine)
    have hflags := h.byte (off := 11) (v := flagsNumber s) rfl
    have hlen : (s.formAnswer dest tag code x).bytes.length = 16 + x.data.length := h.length
    have hplain {off : Nat} {b : Byte} (hp : partAt _ off = some (num 1 b.toNat)) :=
      (h.byte hp).trans ((BitVec.ofNat_toNat 8 b).trans (BitVec.setWidth_eq b))
    have hcause : byteAt (s.formAnswer dest tag code x).bytes 12 = causeByte x := hplain rfl
    have hclamped : byteAt (s.formAnswer dest tag code x).bytes 13 = BitVec.ofNat 8 (bit x.clampedBefore) := h.byte rfl
    dsimp only
    rw [hflags, hcause, hclamped]
    refine ⟨rfl, rfl, rfl, rfl, hlen, h.drop rfl, h.byte rfl, h.byte rfl, (h.field rfl).trans (congrArg (· % 65536) hlen.symm),
      h.field rfl, (h.field rfl).trans (Nat.mod_eq_of_lt tag.isLt), hplain rfl, hplain rfl, h.byte_toNat rfl,
      (Bool.eq_iff_iff.1 hpending).trans (ctxSet_ne_zero_iff _), hlock, hbusy, ?engine,
      fun hnone => by rw [causeByte, hnone]; rfl, fun o ho => by rw [causeByte, ho]; rfl, bit_getLsbD _, h.byte rfl,
      h.byte rfl⟩
    case engine =>
      refine hengine.trans ?_
      cases s.mgmt.engine <;> rfl
  case counts =>
    intro carries
    have hcarries (o : OutcomeCode) : x.carries o = true ↔ carries o := carries_iff x o
    exact ⟨rfl, rfl, fun h => if_pos ((hcarries _).2 h), fun h => if_neg fun hx => h ((hcarries _).1 hx),
      fun h => if_pos ((hcarries _).2 h), fun h => if_neg fun hx => h ((hcarries _).1 hx), rfl⟩
  case head =>
    have hd : Delivers s .directiveTake r k (directive r k o i.toNat c st data)
        { s with mgmt := { s.mgmt with queue := rest } } := .inr ⟨rfl, o, i, c, st, data, rest, hhead, rfl, rfl⟩
    have htake := exec_delivered hd hi
    exact ⟨htake, fun command hc => htake.trans (exec_directive hc _).symm⟩

end Sys2Proof.Proofs.TakeHead
end
